-- ==== Sys2Proof/Word.lean ====
section
/-! DEFINITION. The plain words of the 816: bytes, five-unit codes, 16-bit counters, circuit sets, and the numbers of
links and circuits. -/

namespace Sys2Proof

/-- One byte of a copy link or of stored text. -/
abbrev Byte := BitVec 8

/-- One five-unit code, bit 1 of the code first (the most significant bit here), 1 meaning mark (R80, chapter 11.6). -/
abbrev Code5 := BitVec 5

/-- A 16-bit counter (R171). -/
abbrev Counter := BitVec 16

/-- A circuit set: the bit of value 2^n is set when OCn is a member (R182). -/
abbrev CircuitSet := BitVec 16

/-- The 32-bit millisecond count (R141). -/
abbrev Millis := BitVec 32

/-- An agency link IL0 to IL7. -/
abbrev LinkId := Fin 8

/-- An outbound circuit OC0 to OC15. -/
abbrev CircuitId := Fin 16

end Sys2Proof
end

