-- ==== Sys2Proof/Syntax.lean ====
section
/-! DEFINITION. The commands of the 816, one constructor per row of spec/opcode_table.json. The table gives the rows no
operands: the operands here are the model's (log 26). -/

namespace Sys2Proof

/-- How a service frame's station code matched this part (R15): own, second or general call. -/
inductive MatchCode where
  | own | second | general
deriving DecidableEq, Repr

/-- What every service request carries beside its kind and its parameters (R14, R153): the link that carried it, the
matched code, the request serial and the time check in units of 10 ms. -/
structure ReqHead where
  link : LinkId
  matched : MatchCode
  serial : Byte
  timeCheck : BitVec 16
deriving DecidableEq, Repr

/-- The 42 commands. A service request's operands are its parameter bytes as R184 lists them. -/
inductive Instr where
  /-- HARDWARE_RESET (R186, R15): release of the reset input; the six strap levels are sampled. -/
  | hardwareReset (straps : BitVec 6)
  /-- MILLISECOND_TICK (R141): the reference divider completes a tick. -/
  | millisecondTick
  /-- DAY_CLOCK_SECOND (R169): the day clock advances at the thousandth tick. -/
  | dayClockSecond
  /-- BYTE_ARRIVES (R3): a byte arrives on a link. -/
  | byteArrives (link : LinkId) (b : Byte)
  /-- SEGMENT_GRANT (R29): one step of the grant arbiter. -/
  | segmentGrant
  /-- SILENCE_EXPIRY (R19): a link's silence timer reaches its limit. -/
  | silenceExpiry (link : LinkId)
  /-- HOLD_EXPIRY (R21): a link's hold timer reaches its limit. -/
  | holdExpiry (link : LinkId)
  /-- CHARACTER_TIME_END (R96): a circuit's pacer ends a character time. -/
  | characterTimeEnd (circuit : CircuitId)
  /-- ANSWERBACK_CHARACTER (R124): a return-line character is decoded; its five bits. -/
  | answerbackCharacter (circuit : CircuitId) (code : Code5)
  /-- NO_ANSWERBACK (R125): a circuit's answer-back window expires. -/
  | noAnswerback (circuit : CircuitId)
  /-- RECEIVER_BREAK (R128): a spacing run reaches the break detect time. -/
  | receiverBreak (circuit : CircuitId)
  /-- RESTORE (R129): a marking run reaches the restore time. -/
  | restore (circuit : CircuitId)
  /-- REQUEST_TIMED_OUT (R155): the time check of the request at a position of the request queue expires. -/
  | requestTimedOut (position : Fin 8)
  /-- RETRY (R157): the retry interval expires. -/
  | retry
  /-- IDENTIFY (R160). -/
  | identify (h : ReqHead)
  /-- TABLE_READ (R162). -/
  | tableRead (h : ReqHead) (table index field : Byte)
  /-- TABLE_WRITE_ROUTE (R43): TABLE WRITE of table 01. -/
  | tableWriteRoute (h : ReqHead) (index field : Byte) (value : List Byte)
  /-- TABLE_WRITE_CIRCUIT (R148): TABLE WRITE of table 02. -/
  | tableWriteCircuit (h : ReqHead) (index field : Byte) (value : List Byte)
  /-- TABLE_WRITE_LINK (R1): TABLE WRITE of table 03. -/
  | tableWriteLink (h : ReqHead) (index field : Byte) (value : List Byte)
  /-- TABLE_WRITE_SUBST (R84): TABLE WRITE of table 04. -/
  | tableWriteSubst (h : ReqHead) (index field : Byte) (value : List Byte)
  /-- TABLE_WRITE_STORE (R25): TABLE WRITE of table 05. -/
  | tableWriteStore (h : ReqHead) (index field : Byte) (value : List Byte)
  /-- TABLE_WRITE_SERVICE (R164): TABLE WRITE of table 06. -/
  | tableWriteService (h : ReqHead) (index field : Byte) (value : List Byte)
  /-- START (R118): CIRCUIT CONTROL action 01. -/
  | start (h : ReqHead) (circuit : Byte)
  /-- STOP_NOW (R119): CIRCUIT CONTROL action 02. -/
  | stopNow (h : ReqHead) (circuit : Byte)
  /-- STOP_AT_TAKE_END (R120): CIRCUIT CONTROL action 03. -/
  | stopAtTakeEnd (h : ReqHead) (circuit : Byte)
  /-- OPEN (R122): CIRCUIT CONTROL action 04. -/
  | openCircuit (h : ReqHead) (circuit : Byte)
  /-- CLOSE (R122): CIRCUIT CONTROL action 05. -/
  | closeCircuit (h : ReqHead) (circuit : Byte)
  /-- FLUSH (R77): CIRCUIT CONTROL action 06. -/
  | flush (h : ReqHead) (circuit : Byte)
  /-- LINK_ENABLE (R22): LINK CONTROL action 01. -/
  | linkEnable (h : ReqHead) (link : Byte)
  /-- LINK_DISABLE (R22): LINK CONTROL action 02. -/
  | linkDisable (h : ReqHead) (link : Byte)
  /-- LINK_RESET (R23): LINK CONTROL action 03. -/
  | linkReset (h : ReqHead) (link : Byte)
  /-- TAKE_SPIKE (R60). -/
  | takeSpike (h : ReqHead) (link : Byte) (serial : BitVec 16)
  /-- QUEUE_READ (R78). -/
  | queueRead (h : ReqHead) (circuit position : Byte)
  /-- WATCH_ENTER (R173): the count, then the bytes of the points, three each. -/
  | watchEnter (h : ReqHead) (count : Byte) (points : List Byte)
  /-- WATCH_READ (R174). -/
  | watchRead (h : ReqHead) (clear : Byte)
  /-- FAULT_READ (R178). -/
  | faultRead (h : ReqHead)
  /-- CLOCK_SET (R169). -/
  | clockSet (h : ReqHead) (hours minutes seconds : Byte)
  /-- COPY_RESTART (R170). -/
  | copyRestart (h : ReqHead)
  /-- REPLY_FRAME_SENT (R159): the last byte of the frame at the head of a link's reply queue is sent. -/
  | replyFrameSent (link : LinkId)
  /-- WATCH_REPORT (R175): the watch period expires. -/
  | watchReport
  /-- RESET_INPUT_ASSERTED (R186). -/
  | resetInputAsserted
  /-- RETURN_LINE_LEVEL_CHANGE (R127): the level of a circuit's return line changes. -/
  | returnLineLevelChange (circuit : CircuitId)
deriving DecidableEq, Repr

/-- The request kind and the parameter bytes a service-request command carries (R156, R184): `none` for a command that
is no service request. -/
def Instr.request? : Instr → Option (ReqHead × Byte × List Byte)
  | .hardwareReset _ | .millisecondTick | .dayClockSecond | .byteArrives _ _ | .segmentGrant | .silenceExpiry _
  | .holdExpiry _ | .characterTimeEnd _ | .answerbackCharacter _ _ | .noAnswerback _ | .receiverBreak _ | .restore _
  | .requestTimedOut _ | .retry | .replyFrameSent _ | .watchReport | .resetInputAsserted
  | .returnLineLevelChange _ => none
  | .identify h => some (h, 0x01, [])
  | .tableRead h t i f => some (h, 0x02, [t, i, f])
  | .tableWriteRoute h i f v => some (h, 0x03, 0x01 :: i :: f :: v)
  | .tableWriteCircuit h i f v => some (h, 0x03, 0x02 :: i :: f :: v)
  | .tableWriteLink h i f v => some (h, 0x03, 0x03 :: i :: f :: v)
  | .tableWriteSubst h i f v => some (h, 0x03, 0x04 :: i :: f :: v)
  | .tableWriteStore h i f v => some (h, 0x03, 0x05 :: i :: f :: v)
  | .tableWriteService h i f v => some (h, 0x03, 0x06 :: i :: f :: v)
  | .start h c => some (h, 0x04, [c, 0x01])
  | .stopNow h c => some (h, 0x04, [c, 0x02])
  | .stopAtTakeEnd h c => some (h, 0x04, [c, 0x03])
  | .openCircuit h c => some (h, 0x04, [c, 0x04])
  | .closeCircuit h c => some (h, 0x04, [c, 0x05])
  | .flush h c => some (h, 0x04, [c, 0x06])
  | .linkEnable h l => some (h, 0x05, [l, 0x01])
  | .linkDisable h l => some (h, 0x05, [l, 0x02])
  | .linkReset h l => some (h, 0x05, [l, 0x03])
  | .takeSpike h l n => some (h, 0x06, [l, n.extractLsb' 8 8, n.extractLsb' 0 8])
  | .queueRead h c p => some (h, 0x07, [c, p])
  | .watchEnter h n ps => some (h, 0x08, n :: ps)
  | .watchRead h c => some (h, 0x09, [c])
  | .faultRead h => some (h, 0x0A, [])
  | .clockSet h hh mm ss => some (h, 0x0B, [hh, mm, ss])
  | .copyRestart h => some (h, 0x0C, [])

end Sys2Proof
end

