-- ==== Sys2Proof/Config.lean ====
section
/-! DEFINITION. The capacities of the part (00_scope.md, "Capacities at a glance") and the few reset values of pins that
the spec leaves to the outside world; and the one free value of the model. -/

namespace Sys2Proof.Config

/-- Segments of the copy store (R24). -/
abbrev segments : Nat := 1024

/-- Characters of one segment (R24). -/
abbrev segmentChars : Nat := 64

/-- Take records (R32). -/
abbrev takeRecords : Nat := 512

/-- Stored characters of one take (R11). -/
abbrev maxText : Nat := 4095

/-- Bytes of a receive FIFO (R3). -/
abbrev fifoBytes : Nat := 16

/-- Serials of a recent-serial set (R16). -/
abbrev recentSerials : Nat := 16

/-- Slug characters kept (R8). -/
abbrev slugChars : Nat := 12

/-- Parameter digits of a service frame (R14). -/
abbrev paramDigits : Nat := 128

/-- Story index entries (R47). -/
abbrev storyEntries : Nat := 256

/-- Queue entries, all circuits together (R62). -/
abbrev queueEntries : Nat := 512

/-- Requests of the Service Unit's queue (R153). -/
abbrev requestQueue : Nat := 8

/-- Frames of a link's reply queue (R153). -/
abbrev replyQueue : Nat := 4

/-- Points of the watch list (R173). -/
abbrev watchPoints : Nat := 20

/-- DESIGN CHOICE (log 6), unsafe: the own station code of `State.reset`, where no HARDWARE_RESET command has sampled
the strap pins. -/
abbrev resetOwnCode : Nat := 0

/-- DESIGN CHOICE (log 7), unsafe: the level of every return line at `State.reset` (true is mark). -/
abbrev resetReturnMark : Bool := true

/-- FREE VALUE (log 38, DESIGN CHOICE): the byte a TAKE SPIKE reply carries for a number of takes above 255, which the one
byte of R184 cannot hold and for which the spec states no value. It has no body: nothing can be proved of it. -/
opaque spikeCountByte : Nat → BitVec 8

end Sys2Proof.Config
end

