-- ==== Sys2Proof/Machine/State.lean ====
section
/-! DEFINITION. The state of the 816 as plain data, its value right after hardware reset, and the (never used) reasons a
step could stop. Each structure names the rule of spec/ that gives its fields. -/

namespace Sys2Proof.Machine

open Sys2Proof

/-! ### Names used by several blocks -/

/-- Priorities 1 FLASH to 5 DEFERRED (00_scope.md, Conventions). -/
inductive Priority where
  | flash | bulletin | urgent | routine | deferred
deriving DecidableEq, Repr

/-- One value for each priority class. -/
structure PerClass (α : Type) where
  flash : α
  bulletin : α
  urgent : α
  routine : α
  deferred : α
deriving DecidableEq, Repr

/-- The disposition of a take (R8). -/
inductive Disposition where
  | normal | correction | kill
deriving DecidableEq, Repr

/-- The case of a five-unit machine (R88, R93). -/
inductive ShiftCase where
  | letters | figures
deriving DecidableEq, Repr

/-- A character the 816 places on a circuit (R80). A LETTER or FIGURE character is named by its printed ASCII byte. -/
inductive FiveUnit where
  | letter (c : Byte)
  | figure (c : Byte)
  | bell | wru | space | cr | lf | blank | ltrs | figs
deriving DecidableEq, Repr

/-- A place in a take's text: store position, and characters of that position's expansion already emitted (R87, R98). -/
structure ReadPos where
  pos : Nat
  off : Nat
deriving DecidableEq, Repr

/-- The key of a story: its link and slug (R47). -/
structure StoryKey where
  link : LinkId
  slug : List Byte
deriving DecidableEq, Repr

/-! ### Links (01_copy_link_reception.md) -/

/-- Link rates in bit/s (R1). -/
inductive Rate where
  | b1200 | b2400 | b4800 | b9600
deriving DecidableEq, Repr

/-- Check failure policy (R1). -/
inductive CheckPolicy where
  | mark | discard
deriving DecidableEq, Repr

/-- The link profile (R1), less `enabled`, which is the view "not DISABLED" of the link state (log 13). -/
structure LinkProfile where
  rate : Rate
  check : Bool
  poly : Byte
  init : Byte
  policy : CheckPolicy
  holdCapable : Bool
  holdLimit : Nat
  servicePermitted : Bool
  tag : List Byte
  silenceLimit : Nat
  dupSuppress : Bool
deriving DecidableEq, Repr

/-- A copy header in parsing (R8): the position of the next byte, 1 for the priority digit, 10 and on for the slug, and
the fields received so far, normalised. -/
structure CopyHeader where
  pos : Nat
  prio : Priority
  serial : Nat
  category : Fin 27
  disp : Disposition
  part : Nat
  slug : List Byte
deriving DecidableEq, Repr

/-- A service header in parsing (R14): how the station code matched once its two digits are in, and the hexadecimal
digits received so far, oldest first, parameter digits included. -/
structure ServiceHeader where
  matched : Option MatchCode
  digits : List Nat
deriving DecidableEq, Repr

/-- What a link in HEADER has of its frame (R6, R8, R14). -/
inductive Header where
  /-- No class byte yet. -/
  | unclassed
  | copy (h : CopyHeader)
  | service (h : ServiceHeader)
deriving DecidableEq, Repr

/-- A request of the Service Unit (R153): `elapsed` counts the ticks of its time check. -/
structure Request where
  link : LinkId
  matched : MatchCode
  kind : Byte
  serial : Byte
  timeCheck : Nat
  params : List Byte
  elapsed : Nat
deriving DecidableEq, Repr

/-- The six link states (R2) with the frame each state holds. `text` carries the FILLING record's handle and whether the
text is closed (R5, R11); `discarding` whether only the byte after END is still due (R9). -/
inductive Rx where
  | disabled
  | idle
  | header (h : Header)
  | text (handle : Nat) (closed : Bool)
  | checkCopy (handle : Nat)
  | checkService (r : Request)
  | discarding (checkDue : Bool)
deriving DecidableEq, Repr

/-- The counters of a link (R172). -/
structure LinkCounters where
  takesAccepted : Counter
  checkFailures : Counter
  formatFaults : Counter
  duplicates : Counter
  serialGap : Counter
  charsLost : Counter
  holdExpiries : Counter
  afterKill : Counter
  ignored : Counter
  stray : Counter
  serviceRefused : Counter
  unrouted : Counter
deriving DecidableEq, Repr

/-- One link receiver LRn, its hold line and its return direction (R1 to R23, R159). -/
structure Link where
  profile : LinkProfile
  rx : Rx
  fifo : List Byte
  crc : Byte
  expected : Option Nat
  recent : List Nat
  silenceTicks : Nat
  silent : Bool
  hold : Bool
  holdTicks : Nat
  holdSpent : Bool
  counters : LinkCounters
  replies : List (List Byte)
  sendRate : Option Rate
deriving DecidableEq, Repr

/-! ### The copy store (02_the_copy_store_and_take_records.md) -/

/-- FILLING or READY (R32); a FREE record is not listed in the directory. -/
inductive TakeState where
  | filling | ready
deriving DecidableEq, Repr

/-- A take record (R33). `chain` is its segments in order, each with its stored characters (R34, log 10). -/
structure Take where
  state : TakeState
  link : LinkId
  serial : Nat
  prio : Priority
  adjusted : Option Priority
  disp : Disposition
  slug : List Byte
  part : Nat
  tag : List Byte
  category : Fin 27
  length : Nat
  chain : List (List Byte)
  truncated : Bool
  suspect : Bool
  unindexed : Bool
  readyTime : Option Millis
  readyClock : Option (Nat × Nat)
  refs : Nat
  story : Option StoryKey
deriving DecidableEq, Repr

/-- A waiting segment request: its link and the received priority of its FILLING take (R29). -/
structure WaitingRequest where
  link : LinkId
  prio : Priority
deriving DecidableEq, Repr

/-- The copy store: segment pool, settings, LOW, waiting requests and the take directory (R24 to R41). -/
structure Store where
  free : Nat
  reserve : Nat
  lowWater : Nat
  highWater : Nat
  low : Bool
  waiting : List WaitingRequest
  takes : List (Nat × Take)
  reserveGrants : Counter
deriving DecidableEq, Repr

/-! ### The Router (03_routing_stories_corrections_and_kills.md) -/

/-- A routing entry (R43). -/
structure RouteEntry where
  enabled : Bool
  circuits : CircuitSet
  adjust : Int
deriving DecidableEq, Repr

inductive StoryState where
  | active | killed
deriving DecidableEq, Repr

/-- A story index entry (R47); its recency is its place in the index list. -/
structure Story where
  key : StoryKey
  state : StoryState
  sent : CircuitSet
  queued : Nat
deriving DecidableEq, Repr

/-- A substitution table entry (R83). -/
structure SubstEntry where
  source : Option Byte
  replacement : List Byte
deriving DecidableEq, Repr

/-! ### Circuits (04 to 08) -/

/-- Stop length of 1, 1.5 or 2 units (R113). -/
inductive StopLength where
  | one | oneAndHalf | two
deriving DecidableEq, Repr

inductive StopMode where
  | mark | space | fill
deriving DecidableEq, Repr

inductive IdleMode where
  | mark | fill
deriving DecidableEq, Repr

inductive BreakInLevel where
  | none | flash | flashBulletin
deriving DecidableEq, Repr

/-- The fields of a circuit profile that are staged while SENDING (R147, R148). -/
structure Form where
  period : Nat
  stop : StopLength
  width : Nat
  nCR : Nat
  nLF : Nat
  reassert : Bool
  unshift : Bool
  spacing : Bool
  bells : PerClass Nat
deriving DecidableEq, Repr

/-- A staged value, present or absent, for each field of `Form` (R147). -/
structure Staged where
  period : Option Nat
  stop : Option StopLength
  width : Option Nat
  nCR : Option Nat
  nLF : Option Nat
  reassert : Option Bool
  unshift : Option Bool
  spacing : Option Bool
  bells : PerClass (Option Nat)
deriving DecidableEq, Repr

/-- A circuit profile (R147). -/
structure Profile where
  form : Form
  stopMode : StopMode
  idleMode : IdleMode
  accepting : Bool
  abCheck : Bool
  abExpected : List Byte
  abWindow : Nat
  breakDetect : Nat
  restoreTime : Nat
  breakInLevel : BreakInLevel
  breakInWait : Nat
  depth : Nat
  shed : Nat
  stale : PerClass Nat
deriving DecidableEq, Repr

/-- The six circuit states (R116). -/
inductive CircuitState where
  | stopped | identifying | ready | sending | broken | faulted
deriving DecidableEq, Repr

/-- A queue entry (R62). It is resumed exactly when it holds a resume position. -/
structure Entry where
  handle : Nat
  prio : Priority
  resume : Option ReadPos
  estimate : Nat
deriving DecidableEq, Repr

/-- One item still to be emitted of a header (R106, R107): a fixed character, the rest of a word, a space between words,
or the closing line end. -/
inductive HeaderItem where
  | fixed (f : FiveUnit)
  | word (rest : List Byte)
  | space
  | close
deriving DecidableEq, Repr

/-- The step reached in a trailer (R110): the first line end, the rest of the tag and clock, the three marks, the two
closing line ends, and the end of the take. -/
inductive TrailerStep where
  | opening
  | body (rest : List Byte)
  | suspectMark | truncatedMark | cutMark
  | firstClose | secondClose
  | done
deriving DecidableEq, Repr

/-- The phase of a packing context (R95). -/
inductive Phase where
  | header (rest : List HeaderItem)
  | text
  | trailer (step : TrailerStep)
deriving DecidableEq, Repr

/-- The kinds of line end (R103). -/
inductive LineEnd where
  | fold | paragraph | headerClose | trailer
deriving DecidableEq, Repr

/-- The held word (R86, R99): the expansions looked up from the read position on; whether the word was found longer than
W, so that its further bytes are looked up as emission reaches them; whether nothing of it has been placed yet. -/
structure HeldWord where
  ahead : List (List Byte)
  long : Bool
  fresh : Bool
deriving DecidableEq, Repr

/-- A packing context (R95). `sequence` is what is still to come of the line end in progress; `lineEnd` names a line end
in progress, or complete and not yet acted on (R105, log 12). -/
structure Context where
  handle : Nat
  phase : Phase
  lead : Bool
  read : ReadPos
  word : Option HeldWord
  column : Nat
  shift : ShiftCase
  lineStart : ReadPos
  breakIn : Bool
  cut : Bool
  stopPending : Bool
  slots : Nat
  sequence : List FiveUnit
  lineEnd : Option LineEnd
  headerStarted : Bool
deriving DecidableEq, Repr

/-- A take in flight: the held entry and its packing context (R62, R95). -/
structure Flight where
  entry : Entry
  ctx : Context
deriving DecidableEq, Repr

/-- The pacer (R143 to R145): whether it runs, and the P and h that time the character time in progress. -/
structure Pacer where
  running : Bool
  period : Nat
  charLen : Nat
deriving DecidableEq, Repr

/-- What the send side carries in the present character time (R117, R143). -/
inductive Slot where
  | mark | space
  | char (f : FiveUnit)
deriving DecidableEq, Repr

/-- A character of the answer-back collection (R124). -/
inductive RxChar where
  | printed (c : Byte)
  | bell | wru | unassigned
deriving DecidableEq, Repr

/-- The open answer-back window: its ticks, and the length and expected answer-back read when it opened (R123). -/
structure Window where
  ticks : Nat
  limit : Nat
  expected : List Byte
deriving DecidableEq, Repr

/-- A return-line character being received (R146): the P and h under which it began, and the ticks left to the half-bit
sample of its start element, 0 once that is taken (log 22). -/
structure Reception where
  period : Nat
  charLen : Nat
  sampleIn : Nat
deriving DecidableEq, Repr

/-- The counters of a circuit (R134, R172). -/
structure CircuitCounters where
  takesSent : Counter
  slotsSent : Counter
  breakIns : Counter
  receiverBreaks : Counter
  stale : Counter
  displaced : Counter
  refusedFull : Counter
  shed : Counter
  unprintable : Counter
deriving DecidableEq, Repr

/-- One circuit controller OCn with its queue (R62 to R152). `stopNow`, `breakSeen` and `abandoned` are the orders of the
present character time that its end deals with (R119, R128, R140). -/
structure Circuit where
  active : Profile
  staged : Staged
  state : CircuitState
  queue : List Entry
  backlog : Nat
  flight : Option Flight
  stopNow : Bool
  breakSeen : Bool
  abandoned : Bool
  pacer : Pacer
  slot : Slot
  requestStep : Nat
  window : Option Window
  buffer : List RxChar
  tracked : ShiftCase
  receiving : Option Reception
  returnMark : Bool
  spacing : Option Nat
  marking : Option Nat
  counters : CircuitCounters
deriving DecidableEq, Repr

/-! ### Service Unit and Supervision (09, 10) -/

/-- The day clock (R169): `ticks` counts the ticks of the present second. -/
structure DayClock where
  hours : Nat
  minutes : Nat
  seconds : Nat
  ticks : Nat
deriving DecidableEq, Repr

/-- The service settings (R164). -/
structure Settings where
  secondCode : Nat
  secondOn : Bool
  generalOn : Bool
  retry : Nat
  deskLink : LinkId
  notices : Bool
  watchPeriod : Nat
deriving DecidableEq, Repr

/-- The retry-interval timer: its ticks and the interval read when it started (R157). -/
structure RetryTimer where
  ticks : Nat
  limit : Nat
deriving DecidableEq, Repr

/-- The link counters by name (R172). -/
inductive LinkPoint where
  | takesAccepted | checkFailures | formatFaults | duplicates | serialGap | charsLost | holdExpiries | afterKill
  | ignored | stray | serviceRefused | unrouted
deriving DecidableEq, Repr

/-- The circuit counters by name (R172). -/
inductive CircuitPoint where
  | takesSent | slotsSent | breakIns | receiverBreaks | stale | displaced | refusedFull | shed | unprintable
deriving DecidableEq, Repr

/-- A watch point (R172, R173): a counter or a gauge of one source. -/
inductive WatchPoint where
  | link (l : LinkId) (p : LinkPoint)
  | circuit (i : CircuitId) (p : CircuitPoint)
  | queueDepth (i : CircuitId)
  | backlog (i : CircuitId)
  | freeSegments | freeRecords | storiesInUse | reserveGrants
  | requestsDone | requestsTimedOut
deriving DecidableEq, Repr

/-- The fault codes (R176). -/
inductive FaultCode where
  | check | format | serialGap | serialRestart | overrun | holdExpired | silent | abandoned | noRecord
  | receiverBreak | noAnswerback | wrongAnswerback
  | reserveInUse | storeLow
  | requestOverflow | replyOverflow
deriving DecidableEq, Repr

/-! ### The whole state -/

/-- The state of the 816: everything the spec gives the part, and the queue of commands that wait (`pending`). -/
structure State where
  pending : List Instr
  resetHeld : Bool
  ms : Millis
  tickRun : Fin 5
  clock : DayClock
  ownCode : Nat
  links : Vector Link 8
  store : Store
  routes : Vector RouteEntry 216
  stories : List Story
  subst : Vector SubstEntry 32
  circuits : Vector Circuit 16
  requests : List Request
  retryTimer : Option RetryTimer
  settings : Settings
  requestsDone : Counter
  requestsTimedOut : Counter
  watch : List WatchPoint
  watchTimer : Option Nat
  faults : Vector (Option FaultCode) 26
  noticeNumber : Byte
deriving DecidableEq, Repr

/-- No command of the 816 ends in a fault: what its spec calls a fault is a code recorded in the fault summary (R176),
an effect on `State`. The type is empty. -/
inductive Fault
deriving DecidableEq, Repr

/-- The refusals. -/
inductive Refusal where
  /-- A command without a meaning, by its mnemonic; raised by no arm of `exec` in this model. Safe. -/
  | notModelled (mnemonic : String)
deriving DecidableEq, Repr

/-! ### Reset values -/

/-- The link profile at hardware reset (R1): the check and service are on for IL0 alone; the tags are AA to AH. -/
def LinkProfile.reset (l : LinkId) : LinkProfile :=
  { rate := .b2400, check := decide (l = 0), poly := 0x07, init := 0x00, policy := .mark, holdCapable := false,
    holdLimit := 5000, servicePermitted := decide (l = 0), tag := [0x41, BitVec.ofNat 8 (0x41 + l.val)],
    silenceLimit := 0, dupSuppress := true }

/-- Every counter of a link at 0 (R171). -/
def LinkCounters.zero : LinkCounters :=
  { takesAccepted := 0, checkFailures := 0, formatFaults := 0, duplicates := 0, serialGap := 0, charsLost := 0,
    holdExpiries := 0, afterKill := 0, ignored := 0, stray := 0, serviceRefused := 0, unrouted := 0 }

/-- A link at hardware reset (R2, R16, R20, R153). -/
def Link.reset (l : LinkId) : Link :=
  { profile := .reset l, rx := .idle, fifo := [], crc := 0, expected := none, recent := [], silenceTicks := 0,
    silent := false, hold := false, holdTicks := 0, holdSpent := false, counters := .zero, replies := [],
    sendRate := none }

/-- The store at hardware reset (R41). -/
def Store.reset : Store :=
  { free := Config.segments, reserve := 64, lowWater := 128, highWater := 256, low := false, waiting := [], takes := [],
    reserveGrants := 0 }

/-- A routing entry at hardware reset (R43). -/
def RouteEntry.reset : RouteEntry := { enabled := false, circuits := 0, adjust := 0 }

/-- A substitution entry at hardware reset (R83). -/
def SubstEntry.reset : SubstEntry := { source := none, replacement := [] }

/-- The staged fields' defaults (R147). -/
def Form.reset : Form :=
  { period := 18431, stop := .oneAndHalf, width := 69, nCR := 2, nLF := 1, reassert := true, unshift := false,
    spacing := true, bells := { flash := 10, bulletin := 5, urgent := 3, routine := 0, deferred := 0 } }

/-- No staged value (R147). -/
def Staged.absent : Staged :=
  { period := none, stop := none, width := none, nCR := none, nLF := none, reassert := none, unshift := none,
    spacing := none, bells := { flash := none, bulletin := none, urgent := none, routine := none, deferred := none } }

/-- The circuit profile at hardware reset (R147). -/
def Profile.reset : Profile :=
  { form := .reset, stopMode := .mark, idleMode := .mark, accepting := true, abCheck := false, abExpected := [],
    abWindow := 3000, breakDetect := 300, restoreTime := 1000, breakInLevel := .flash, breakInWait := 10000, depth := 32,
    shed := 0, stale := { flash := 0, bulletin := 0, urgent := 0, routine := 60, deferred := 30 } }

/-- Every counter of a circuit at 0 (R171). -/
def CircuitCounters.zero : CircuitCounters :=
  { takesSent := 0, slotsSent := 0, breakIns := 0, receiverBreaks := 0, stale := 0, displaced := 0, refusedFull := 0,
    shed := 0, unprintable := 0 }

/-- A circuit at hardware reset (R116, R151) whose return line stands at the given level. -/
def Circuit.reset (returnMark : Bool) : Circuit :=
  { active := .reset, staged := .absent, state := .stopped, queue := [], backlog := 0, flight := none, stopNow := false,
    breakSeen := false, abandoned := false, pacer := { running := false, period := 18431, charLen := 15 }, slot := .mark,
    requestStep := 0, window := none, buffer := [], tracked := .letters, receiving := none, returnMark := returnMark,
    spacing := none, marking := none, counters := .zero }

/-- The service settings at hardware reset (R164). -/
def Settings.reset : Settings :=
  { secondCode := 0, secondOn := false, generalOn := false, retry := 10, deskLink := 0, notices := true,
    watchPeriod := 0 }

/-- The part right after hardware reset, every field at the value the spec states; the straps and the return lines stand
as `Config.resetOwnCode` and `Config.resetReturnMark` say (log 6, log 7). -/
def State.reset : State :=
  { pending := [], resetHeld := false, ms := 0, tickRun := 0,
    clock := { hours := 0, minutes := 0, seconds := 0, ticks := 0 }, ownCode := Config.resetOwnCode,
    links := #v[.reset 0, .reset 1, .reset 2, .reset 3, .reset 4, .reset 5, .reset 6, .reset 7],
    store := .reset, routes := Vector.replicate 216 .reset, stories := [], subst := Vector.replicate 32 .reset,
    circuits := Vector.replicate 16 (.reset Config.resetReturnMark), requests := [], retryTimer := none,
    settings := .reset, requestsDone := 0, requestsTimedOut := 0, watch := [], watchTimer := none,
    faults := Vector.replicate 26 none, noticeNumber := 0 }

end Sys2Proof.Machine
end

