-- ==== Sys2Proof/Machine/Ops.lean ====
section
/-! DEFINITION. The named operations that every block shares: reading and updating links, circuits and the store,
counters, priorities, and the per-class fields. -/

namespace Sys2Proof.Machine

open Sys2Proof

/-! ### Reading and updating parts of the state -/

/-- Link `l`. -/
def State.link (s : State) (l : LinkId) : Link := s.links[l]

/-- Circuit `i`. -/
def State.circuit (s : State) (i : CircuitId) : Circuit := s.circuits[i]

/-- The state with link `l` replaced. -/
def State.setLink (s : State) (l : LinkId) (k : Link) : State := { s with links := s.links.set l k }

/-- The state with circuit `i` replaced. -/
def State.setCircuit (s : State) (i : CircuitId) (c : Circuit) : State := { s with circuits := s.circuits.set i c }

/-- The state with link `l` changed by `f`. -/
def State.modLink (s : State) (l : LinkId) (f : Link → Link) : State := s.setLink l (f (s.link l))

/-- The state with circuit `i` changed by `f`. -/
def State.modCircuit (s : State) (i : CircuitId) (f : Circuit → Circuit) : State := s.setCircuit i (f (s.circuit i))

/-- The state with the store changed by `f`. -/
def State.modStore (s : State) (f : Store → Store) : State := { s with store := f s.store }

/-- The links in order of number. -/
def allLinks : List LinkId := [0, 1, 2, 3, 4, 5, 6, 7]

/-- The circuits in order of number. -/
def allCircuits : List CircuitId := [0, 1, 2, 3, 4, 5, 6, 7, 8, 9, 10, 11, 12, 13, 14, 15]

/-! ### Counters (R171) -/

/-- A counter raised by `n`, holding at 65535. -/
def satPlus (c : Counter) (n : Nat) : Counter := BitVec.ofNat 16 (min 65535 (c.toNat + n))

/-- The value of a link counter. -/
def LinkCounters.get (c : LinkCounters) : LinkPoint → Counter
  | .takesAccepted => c.takesAccepted
  | .checkFailures => c.checkFailures
  | .formatFaults => c.formatFaults
  | .duplicates => c.duplicates
  | .serialGap => c.serialGap
  | .charsLost => c.charsLost
  | .holdExpiries => c.holdExpiries
  | .afterKill => c.afterKill
  | .ignored => c.ignored
  | .stray => c.stray
  | .serviceRefused => c.serviceRefused
  | .unrouted => c.unrouted

/-- The link counters with one of them set. -/
def LinkCounters.set (c : LinkCounters) (p : LinkPoint) (v : Counter) : LinkCounters :=
  match p with
  | .takesAccepted => { c with takesAccepted := v }
  | .checkFailures => { c with checkFailures := v }
  | .formatFaults => { c with formatFaults := v }
  | .duplicates => { c with duplicates := v }
  | .serialGap => { c with serialGap := v }
  | .charsLost => { c with charsLost := v }
  | .holdExpiries => { c with holdExpiries := v }
  | .afterKill => { c with afterKill := v }
  | .ignored => { c with ignored := v }
  | .stray => { c with stray := v }
  | .serviceRefused => { c with serviceRefused := v }
  | .unrouted => { c with unrouted := v }

/-- The value of a circuit counter. -/
def CircuitCounters.get (c : CircuitCounters) : CircuitPoint → Counter
  | .takesSent => c.takesSent
  | .slotsSent => c.slotsSent
  | .breakIns => c.breakIns
  | .receiverBreaks => c.receiverBreaks
  | .stale => c.stale
  | .displaced => c.displaced
  | .refusedFull => c.refusedFull
  | .shed => c.shed
  | .unprintable => c.unprintable

/-- The circuit counters with one of them set. -/
def CircuitCounters.set (c : CircuitCounters) (p : CircuitPoint) (v : Counter) : CircuitCounters :=
  match p with
  | .takesSent => { c with takesSent := v }
  | .slotsSent => { c with slotsSent := v }
  | .breakIns => { c with breakIns := v }
  | .receiverBreaks => { c with receiverBreaks := v }
  | .stale => { c with stale := v }
  | .displaced => { c with displaced := v }
  | .refusedFull => { c with refusedFull := v }
  | .shed => { c with shed := v }
  | .unprintable => { c with unprintable := v }

/-- A link with one of its counters raised by `n`. -/
def Link.count (k : Link) (p : LinkPoint) (n : Nat) : Link :=
  { k with counters := k.counters.set p (satPlus (k.counters.get p) n) }

/-- A circuit with one of its counters raised by `n`. -/
def Circuit.count (c : Circuit) (p : CircuitPoint) (n : Nat) : Circuit :=
  { c with counters := c.counters.set p (satPlus (c.counters.get p) n) }

/-- A link counter raised by `n`. -/
def State.countLink (s : State) (l : LinkId) (p : LinkPoint) (n : Nat) : State := s.modLink l (·.count p n)

/-- A circuit counter raised by `n`. -/
def State.countCircuit (s : State) (i : CircuitId) (p : CircuitPoint) (n : Nat) : State :=
  s.modCircuit i (·.count p n)

/-! ### Priorities and classes -/

/-- The number of a priority: 1 FLASH to 5 DEFERRED. -/
def Priority.num : Priority → Nat
  | .flash => 1
  | .bulletin => 2
  | .urgent => 3
  | .routine => 4
  | .deferred => 5

/-- The priority of a number limited to 1 to 5: 0 is taken as 1 and anything above 5 as 5 (R8). -/
def Priority.ofNum (n : Nat) : Priority :=
  if n ≤ 1 then .flash else if n = 2 then .bulletin else if n = 3 then .urgent else if n = 4 then .routine else .deferred

/-- The priorities in order of number. -/
def Priority.all : List Priority := [.flash, .bulletin, .urgent, .routine, .deferred]

/-- The value of a class. -/
def PerClass.get {α : Type} (v : PerClass α) : Priority → α
  | .flash => v.flash
  | .bulletin => v.bulletin
  | .urgent => v.urgent
  | .routine => v.routine
  | .deferred => v.deferred

/-- The values with one class set. -/
def PerClass.set {α : Type} (v : PerClass α) (p : Priority) (x : α) : PerClass α :=
  match p with
  | .flash => { v with flash := x }
  | .bulletin => { v with bulletin := x }
  | .urgent => { v with urgent := x }
  | .routine => { v with routine := x }
  | .deferred => { v with deferred := x }

/-! ### Circuit sets (R182) -/

/-- Whether a circuit is a member of a set. -/
def CircuitSet.has (c : CircuitSet) (i : CircuitId) : Bool := c.getLsbD i.val

/-- A set with a circuit added. -/
def CircuitSet.add (c : CircuitSet) (i : CircuitId) : CircuitSet := c ||| ((1 : BitVec 16) <<< i.val)

/-- The members of a set in order of circuit number. -/
def CircuitSet.members (c : CircuitSet) : List CircuitId := allCircuits.filter (CircuitSet.has c)

/-! ### The tick divider (R141) -/

/-- Reference cycles of a tick by its place in the run of five: 1843 for the first four, 1844 for the fifth. -/
def tickCycles (place : Fin 5) : Nat := if place = 4 then 1844 else 1843

end Sys2Proof.Machine
end

