-- ==== Sys2Proof/Machine/Code.lean ====
section
/-! DEFINITION. The five-unit code (chapter 11.6), the classes of stored and of line characters (R80, R81), the cases
(R88, R89, R93), the expansions of stored bytes (R82), and the elements of a character on the line (R143). -/

namespace Sys2Proof.Machine

open Sys2Proof

/-! ### The code chart (chapter 11.6) -/

/-- What a code is in figures case. -/
inductive FiguresMeaning where
  | mark (c : Byte)
  | bell | wru | unassigned
deriving DecidableEq, Repr

/-- The 26 codes with a letters meaning: code, letter, figures meaning. -/
def codeChart : List (Code5 × Byte × FiguresMeaning) :=
  [(0b11000#5, 0x41, .mark 0x2D), (0b10011#5, 0x42, .mark 0x3F), (0b01110#5, 0x43, .mark 0x3A),
   (0b10010#5, 0x44, .wru), (0b10000#5, 0x45, .mark 0x33), (0b10110#5, 0x46, .unassigned),
   (0b01011#5, 0x47, .unassigned), (0b00101#5, 0x48, .unassigned), (0b01100#5, 0x49, .mark 0x38),
   (0b11010#5, 0x4A, .bell), (0b11110#5, 0x4B, .mark 0x28), (0b01001#5, 0x4C, .mark 0x29),
   (0b00111#5, 0x4D, .mark 0x2E), (0b00110#5, 0x4E, .mark 0x2C), (0b00011#5, 0x4F, .mark 0x39),
   (0b01101#5, 0x50, .mark 0x30), (0b11101#5, 0x51, .mark 0x31)] ++
  [(0b01010#5, 0x52, .mark 0x34), (0b10100#5, 0x53, .mark 0x27), (0b00001#5, 0x54, .mark 0x35),
   (0b11100#5, 0x55, .mark 0x37), (0b01111#5, 0x56, .mark 0x3D), (0b11001#5, 0x57, .mark 0x32),
   (0b10111#5, 0x58, .mark 0x2F), (0b10101#5, 0x59, .mark 0x36), (0b10001#5, 0x5A, .mark 0x2B)]

/-- The code of the row that satisfies a test; 00000 where none does. -/
def chartCode (p : Code5 × Byte × FiguresMeaning → Bool) : Code5 := ((codeChart.find? p).map (·.1)).getD 0b00000#5

/-- The five code elements of a character (chapter 11.6). -/
def FiveUnit.code : FiveUnit → Code5
  | .letter c => chartCode (fun r => r.2.1 == c)
  | .figure c => chartCode (fun r => r.2.2 == .mark c)
  | .bell => 0b11010#5
  | .wru => 0b10010#5
  | .space => 0b00100#5
  | .cr => 0b00010#5
  | .lf => 0b01000#5
  | .blank => 0b00000#5
  | .ltrs => 0b11111#5
  | .figs => 0b11011#5

/-! ### Classes of stored bytes (R81) -/

/-- The space. -/
abbrev byteSpace : Byte := 0x20

/-- The paragraph mark. -/
abbrev byteParagraph : Byte := 0x0A

/-- A capital letter. -/
def isLetter (b : Byte) : Bool := decide (0x41 ≤ b.toNat ∧ b.toNat ≤ 0x5A)

/-- A digit. -/
def isDigit (b : Byte) : Bool := decide (0x30 ≤ b.toNat ∧ b.toNat ≤ 0x39)

/-- One of the eleven figure marks `-` `?` `:` `(` `)` `.` `,` `'` `=` `/` `+`. -/
def isMark (b : Byte) : Bool := [0x2D, 0x3F, 0x3A, 0x28, 0x29, 0x2E, 0x2C, 0x27, 0x3D, 0x2F, 0x2B].contains b

/-- A word character: a direct character other than the space and the paragraph mark. -/
def isWordChar (b : Byte) : Bool := isLetter b || isDigit b || isMark b

/-- A lower-case letter. -/
def isLower (b : Byte) : Bool := decide (0x61 ≤ b.toNat ∧ b.toNat ≤ 0x7A)

/-- Lower case folded to capitals (R8, R11). -/
def fold (b : Byte) : Byte := if isLower b then b - 0x20 else b

/-- A byte 0x80 to 0xFF. -/
def isHigh (b : Byte) : Bool := decide (0x80 ≤ b.toNat)

/-- One of the 21 printable bytes that are not direct, case folding apart (R81). -/
def isNonDirectPrintable (b : Byte) : Bool :=
  decide (0x21 ≤ b.toNat ∧ b.toNat ≤ 0x7E) && !isWordChar b && !isLower b

/-- The line character of a word character (R81). -/
def unitOf (b : Byte) : FiveUnit := if isLetter b then .letter b else .figure b

/-! ### Cases (R80, R88, R89, R91) -/

/-- The case a character needs; `none` for a BOTH character (R80). -/
def FiveUnit.needs : FiveUnit → Option ShiftCase
  | .letter _ => some .letters
  | .figure _ => some .figures
  | .bell => some .figures
  | .wru => some .figures
  | .space | .cr | .lf | .blank | .ltrs | .figs => none

/-- The assumed case after a character is emitted (R88), `unshift` being the unshift-on-space field (R91). -/
def FiveUnit.caseAfter (unshift : Bool) (before : ShiftCase) : FiveUnit → ShiftCase
  | .ltrs => .letters
  | .figs => .figures
  | .space => if unshift then .letters else before
  | .letter _ | .figure _ | .bell | .wru | .cr | .lf | .blank => before

/-- The shift that sets a case. -/
def ShiftCase.shift : ShiftCase → FiveUnit
  | .letters => .ltrs
  | .figures => .figs

/-- The character to send now for a character wanted next: the shift R89 calls for, or the character itself. -/
def withShift (assumed : ShiftCase) (f : FiveUnit) : FiveUnit :=
  match f.needs with
  | some k => if k = assumed then f else k.shift
  | none => f

/-- Printing positions a character takes (R97). -/
def FiveUnit.columns : FiveUnit → Nat
  | .letter _ | .figure _ | .wru | .space => 1
  | .bell | .cr | .lf | .blank | .ltrs | .figs => 0

/-! ### The substitution table (R82, R83) -/

/-- The replacement the table holds for a byte. -/
def substLookup (t : Vector SubstEntry 32) (b : Byte) : Option (List Byte) :=
  (t.toList.find? (fun e => e.source == some b)).map (·.replacement)

/-- The expansion of a stored byte of a word, and the unprintable bytes counted in finding it, 0 or 1 (R82). -/
def expansion (t : Vector SubstEntry 32) (b : Byte) : List Byte × Nat :=
  if isWordChar b then ([b], 0)
  else
    match substLookup t b with
    | some r => (r, 0)
    | none => ([], 1)

/-! ### The return line (R93) -/

/-- A decoded return-line character: a shift, a character that the collection ignores, or one it appends (R93, R124). -/
inductive Decoded where
  | shift (k : ShiftCase)
  | ignored
  | collect (c : RxChar)
deriving DecidableEq, Repr

/-- A code decoded in the tracked case (R93), sorted as the collection treats it (R124). -/
def decodeReturn (tracked : ShiftCase) (code : Code5) : Decoded :=
  if code = 0b11111#5 then .shift .letters
  else if code = 0b11011#5 then .shift .figures
  else if code = 0b00010#5 ∨ code = 0b01000#5 ∨ code = 0b00000#5 then .ignored
  else if code = 0b00100#5 then .collect (.printed byteSpace)
  else
    match codeChart.find? (·.1 == code) with
    | none => .collect .unassigned
    | some (_, letter, figures) =>
      match tracked, figures with
      | .letters, _ => .collect (.printed letter)
      | .figures, .mark c => .collect (.printed c)
      | .figures, .bell => .collect .bell
      | .figures, .wru => .collect .wru
      | .figures, .unassigned => .collect .unassigned

/-! ### Elements on the line (R80, R113, R143) -/

/-- Stop half-bits and character length in half-bits (R113). -/
def StopLength.charLen : StopLength → Nat
  | .one => 14
  | .oneAndHalf => 15
  | .two => 16

/-- Reference cycles of the character time in progress: h half-bits of P + 1 cycles (R143). -/
def Pacer.charCycles (p : Pacer) : Nat := p.charLen * (p.period + 1)

/-- The level (true is mark) of a slot in a half-bit of its character time (R143): start space, five code elements bit 1
first, stop mark; a slot without a character holds its level. -/
def Slot.level (slot : Slot) (halfBit : Nat) : Bool :=
  match slot with
  | .mark => true
  | .space => false
  | .char f => if halfBit < 2 then false else if halfBit < 12 then f.code.getMsbD ((halfBit - 2) / 2) else true

end Sys2Proof.Machine
end

