-- ==== Sys2Proof/Machine/Operands.lean ====
section
/-! DEFINITION. The byte forms of frames and of parameters (R181, R182): hexadecimal digits, the check value (R7), frame
composition, and the value forms of the field tables read from and written to bytes. -/

namespace Sys2Proof.Machine

open Sys2Proof

/-! ### The check value (R7) -/

/-- One shift of the accumulator: the bit shifted out decides whether the polynomial is exclusive-ORed in. -/
def crcShift (poly acc : Byte) : Byte := if acc.msb then (acc <<< 1) ^^^ poly else acc <<< 1

/-- The accumulator after one byte is taken in. -/
def crcByte (poly acc b : Byte) : Byte := (crcShift poly)^[8] (acc ^^^ b)

/-- The check value of a run of bytes from an initial value. -/
def crcBytes (poly init : Byte) (bs : List Byte) : Byte := bs.foldl (crcByte poly) init

/-! ### Hexadecimal digits (R14, R182) -/

/-- The upper-case digit of a value 0 to 15. -/
def hexDigit (n : Nat) : Byte := BitVec.ofNat 8 (if n < 10 then 0x30 + n else 0x37 + n)

/-- The two digits of a byte, high half first. -/
def hexByte (b : Byte) : List Byte := [hexDigit (b.toNat / 16), hexDigit (b.toNat % 16)]

/-- The digits of a run of bytes. -/
def hexBytes (bs : List Byte) : List Byte := bs.flatMap hexByte

/-- The value of a hexadecimal digit: `0` to `9` and `A` to `F` alone. -/
def hexValue (b : Byte) : Option Nat :=
  if 0x30 ≤ b.toNat ∧ b.toNat ≤ 0x39 then some (b.toNat - 0x30)
  else if 0x41 ≤ b.toNat ∧ b.toNat ≤ 0x46 then some (b.toNat - 0x37)
  else none

/-- The value of a decimal digit (R8). -/
def decimalValue (b : Byte) : Option Nat :=
  if 0x30 ≤ b.toNat ∧ b.toNat ≤ 0x39 then some (b.toNat - 0x30) else none

/-- Digits paired into bytes, high half first; `none` when a digit is left over (R14). -/
def pairDigits : List Nat → Option (List Byte)
  | [] => some []
  | [_] => none
  | hi :: lo :: rest => (pairDigits rest).map (BitVec.ofNat 8 (16 * hi + lo) :: ·)

/-! ### Frames (R159, R181) -/

/-- BEGIN of every frame. -/
abbrev byteBegin : Byte := 0x01

/-- TEXT of a copy frame. -/
abbrev byteText : Byte := 0x02

/-- END of every frame. -/
abbrev byteEnd : Byte := 0x03

/-- A whole frame: BEGIN, the class and its fields, END, and the check byte over everything after BEGIN (R159). -/
def composeFrame (poly init : Byte) (body : List Byte) : List Byte :=
  byteBegin :: (body ++ [byteEnd, crcBytes poly init (body ++ [byteEnd])])

/-! ### Value forms (R182) -/

/-- A number of one byte. -/
def num1 (n : Nat) : List Byte := [BitVec.ofNat 8 n]

/-- A number of two bytes, high byte first. -/
def num2 (n : Nat) : List Byte := [BitVec.ofNat 8 (n / 256), BitVec.ofNat 8 n]

/-- A switch. -/
def sw (b : Bool) : List Byte := [if b then 0x01 else 0x00]

/-- A string: its length, then its characters. -/
def str (cs : List Byte) : List Byte := BitVec.ofNat 8 cs.length :: cs

/-- A signed number of one byte. -/
def sgn1 (v : Int) : List Byte := [BitVec.ofInt 8 v]

/-- A one-byte number read from a value; `none` when the value is short. -/
def readNum1 : List Byte → Option Nat
  | b :: _ => some b.toNat
  | [] => none

/-- A two-byte number. -/
def readNum2 : List Byte → Option Nat
  | hi :: lo :: _ => some (256 * hi.toNat + lo.toNat)
  | _ => none

/-- A signed number. -/
def readSgn1 : List Byte → Option Int
  | b :: _ => some b.toInt
  | [] => none

/-- A switch; a byte other than 00 and 01 is refused. -/
def readSwitch : List Byte → Option Bool
  | b :: _ => if b = 0x00 then some false else if b = 0x01 then some true else none
  | [] => none

/-- A choice: the value that a list of (code, value) pairs gives the byte; any other byte is refused. -/
def readChoice {α : Type} (codes : List (Byte × α)) : List Byte → Option α
  | b :: _ => (codes.find? (·.1 == b)).map (·.2)
  | [] => none

/-- A string of at most `most` characters; a longer length byte and a string that ends short are refused. -/
def readString (most : Nat) : List Byte → Option (List Byte)
  | n :: rest => if n.toNat ≤ most ∧ n.toNat ≤ rest.length then some (rest.take n.toNat) else none
  | [] => none

/-- A number limited to a range, and whether it was limited (00_scope.md, "Limited and refused"). -/
def limit (lo hi n : Nat) : Nat × Bool := (max lo (min hi n), decide (n < lo ∨ hi < n))

/-- A signed number limited to a range, and whether it was limited. -/
def limitInt (lo hi n : Int) : Int × Bool := (max lo (min hi n), decide (n < lo ∨ hi < n))

/-! ### Codes of choices (R184, R185) -/

/-- The byte of a matched code, one digit in a reply (R181). -/
def MatchCode.digit : MatchCode → Byte
  | .own => 0x30
  | .second => 0x31
  | .general => 0x32

/-- The code of a circuit state (R184). -/
def CircuitState.code : CircuitState → Byte
  | .stopped => 0x00
  | .identifying => 0x01
  | .ready => 0x02
  | .sending => 0x03
  | .broken => 0x04
  | .faulted => 0x05

/-- The code of a link state (R184). -/
def Rx.code : Rx → Byte
  | .disabled => 0x00
  | .idle => 0x01
  | .header _ => 0x02
  | .text _ _ => 0x03
  | .checkCopy _ => 0x04
  | .checkService _ => 0x04
  | .discarding _ => 0x05

/-- The code of a disposition (R184). -/
def Disposition.code : Disposition → Byte
  | .normal => 0x00
  | .correction => 0x01
  | .kill => 0x02

/-- The codes of the link rates (R185). -/
def rateCodes : List (Byte × Rate) := [(0x00, .b1200), (0x01, .b2400), (0x02, .b4800), (0x03, .b9600)]

/-- The codes of the check failure policies (R185). -/
def policyCodes : List (Byte × CheckPolicy) := [(0x00, .mark), (0x01, .discard)]

/-- The codes of the stop lengths (R185). -/
def stopCodes : List (Byte × StopLength) := [(0x01, .one), (0x02, .oneAndHalf), (0x03, .two)]

/-- The codes of the stop modes (R185). -/
def stopModeCodes : List (Byte × StopMode) := [(0x00, .mark), (0x01, .space), (0x02, .fill)]

/-- The codes of the idle modes (R185). -/
def idleModeCodes : List (Byte × IdleMode) := [(0x00, .mark), (0x01, .fill)]

/-- The codes of the break-in levels (R185). -/
def breakInCodes : List (Byte × BreakInLevel) := [(0x00, .none), (0x01, .flash), (0x02, .flashBulletin)]

/-- The byte a list of codes gives a value. -/
def codeOf {α : Type} [DecidableEq α] (codes : List (Byte × α)) (x : α) : List Byte :=
  [((codes.find? (·.2 == x)).map (·.1)).getD 0x00]

end Sys2Proof.Machine
end

