-- ==== Sys2Proof/Machine/Flags.lean ====
section
/-! DEFINITION. The fault summary, ATTENTION, the reply queues and the notices (R159, R176 to R180, R183). -/

namespace Sys2Proof.Machine

open Sys2Proof

/-! ### Sources and codes (R176) -/

/-- The source number of a link: 0 to 7. -/
def linkSource (l : LinkId) : Fin 26 := ⟨l.val, by omega⟩

/-- The source number of a circuit: 8 to 23. -/
def circuitSource (i : CircuitId) : Fin 26 := ⟨8 + i.val, by omega⟩

/-- The source number of the store. -/
def storeSource : Fin 26 := 24

/-- The source number of the Service Unit. -/
def serviceSource : Fin 26 := 25

/-- The code of a fault. -/
def FaultCode.byte : FaultCode → Byte
  | .check => 0x10
  | .format => 0x11
  | .serialGap => 0x12
  | .serialRestart => 0x13
  | .overrun => 0x14
  | .holdExpired => 0x15
  | .silent => 0x16
  | .abandoned => 0x17
  | .noRecord => 0x18
  | .receiverBreak => 0x20
  | .noAnswerback => 0x21
  | .wrongAnswerback => 0x22
  | .reserveInUse => 0x30
  | .storeLow => 0x31
  | .requestOverflow => 0x40
  | .replyOverflow => 0x41

/-- The byte of a fault-summary entry: NONE is FF. -/
def faultByte (f : Option FaultCode) : Byte := (f.map FaultCode.byte).getD 0xFF

/-- The ATTENTION output: asserted while some entry holds a code (R177). -/
def State.attention (s : State) : Bool := s.faults.toList.any (·.isSome)

/-- A source's entry takes a code, whatever it held (R176). -/
def State.setFault (s : State) (src : Fin 26) (code : FaultCode) : State :=
  { s with faults := s.faults.set src (some code) }

/-! ### Reply queues (R159) -/

/-- A frame joins the tail of a reply queue. The frame that finds the queue empty begins to be sent at once, at the rate
of that moment (R159, log 17). -/
def Link.pushFrame (k : Link) (frame : List Byte) : Link :=
  { k with
    replies := k.replies ++ [frame]
    sendRate := if k.replies.isEmpty then some k.profile.rate else k.sendRate }

/-- A frame is queued on a link's return direction, or dropped with REPLY OVERFLOW, which queues no notice, when the
queue holds four (R159, R180). -/
def State.queueFrame (s : State) (l : LinkId) (frame : List Byte) : State :=
  if Config.replyQueue ≤ (s.link l).replies.length then s.setFault serviceSource .replyOverflow
  else s.modLink l (·.pushFrame frame)

/-- A frame with the given body is composed with the link's polynomial and initial value of that moment, and queued
(R159). -/
def State.sendBody (s : State) (l : LinkId) (body : List Byte) : State :=
  s.queueFrame l (composeFrame (s.link l).profile.poly (s.link l).profile.init body)

/-! ### Notices (R179, R180, R183) -/

/-- The body of a notice frame: class `N`, own station code, kind, notice number and fields (R181). -/
def noticeBody (own : Nat) (kind number : Byte) (fields : List Byte) : List Byte :=
  0x4E :: hexBytes (num1 own ++ [kind, number] ++ fields)

/-- A notice is composed, which raises the notice number, and queued on the desk link (R179, R183). -/
def State.notice (s : State) (kind : Byte) (fields : List Byte) : State :=
  { s with noticeNumber := s.noticeNumber + 1 }.sendBody s.settings.deskLink
    (noticeBody s.ownCode kind (s.noticeNumber + 1) fields)

/-- The fields of a fault notice: source, code, hours and minutes at the recording (R179). -/
def faultNoticeFields (s : State) (src : Fin 26) (code : FaultCode) : List Byte :=
  num1 src.val ++ [code.byte] ++ num1 s.clock.hours ++ num1 s.clock.minutes

/-- A fault is recorded against a source: its entry takes the code, and while fault notices are on a notice goes to the
desk link, but for REPLY OVERFLOW (R176, R179). -/
def State.recordFault (s : State) (src : Fin 26) (code : FaultCode) : State :=
  if s.settings.notices ∧ code ≠ .replyOverflow then
    (s.setFault src code).notice 0x01 (faultNoticeFields s src code)
  else s.setFault src code

end Sys2Proof.Machine
end

