-- ==== Sys2Proof/Machine/Store.lean ====
section
/-! DEFINITION. The copy store (02_the_copy_store_and_take_records.md): the take directory, the text of a take, the hold
lines, the LOW condition, grants and the arbiter, the return of segments and reference counts. -/

namespace Sys2Proof.Machine

open Sys2Proof

/-! ### The take directory (R32): handles strictly rising, FREE records not listed -/

/-- The record of a handle; `none` when it is FREE. -/
def Takes.get : List (Nat × Take) → Nat → Option Take
  | [], _ => none
  | (k, t) :: rest, h => if k = h then some t else Takes.get rest h

/-- The directory with the record of a handle set. -/
def Takes.put : List (Nat × Take) → Nat → Take → List (Nat × Take)
  | [], h, t => [(h, t)]
  | (k, u) :: rest, h, t =>
    if h < k then (h, t) :: (k, u) :: rest
    else if h = k then (h, t) :: rest
    else (k, u) :: Takes.put rest h t

/-- The directory with the record of a handle made FREE. -/
def Takes.erase (ts : List (Nat × Take)) (h : Nat) : List (Nat × Take) := ts.filter (fun e => e.1 != h)

/-- The lowest handle from `n` on that a directory in canonical form does not list (R32). -/
def Takes.lowestFree : List (Nat × Take) → Nat → Nat
  | [], n => n
  | (k, _) :: rest, n => if k = n then Takes.lowestFree rest (n + 1) else n

/-- The canonical form: handles strictly rising and below 512. -/
def Takes.wf (ts : List (Nat × Take)) : Bool :=
  decide (ts.Pairwise (fun a b => a.1 < b.1)) && ts.all (fun e => decide (e.1 < Config.takeRecords))

/-- The record of a handle (R40). -/
def State.take? (s : State) (h : Nat) : Option Take := Takes.get s.store.takes h

/-- The state with the record of a handle set. -/
def State.putTake (s : State) (h : Nat) (t : Take) : State :=
  s.modStore fun st => { st with takes := Takes.put st.takes h t }

/-- The state with a listed record changed. -/
def State.modTake (s : State) (h : Nat) (f : Take → Take) : State :=
  match s.take? h with
  | some t => s.putTake h (f t)
  | none => s

/-- The record allocated at header completion: the FREE record of lowest handle becomes FILLING (R32); `none` when every
record is in use. -/
def State.allocate (s : State) (t : Take) : Option (Nat × State) :=
  if Takes.lowestFree s.store.takes 0 < Config.takeRecords then
    some (Takes.lowestFree s.store.takes 0, s.putTake (Takes.lowestFree s.store.takes 0) t)
  else none

/-- FREE records, the store's gauge (R32). -/
def State.freeRecords (s : State) : Nat := Config.takeRecords - s.store.takes.length

/-- The records of a link and serial in one state, in handle order (R40). -/
def State.findTakes (s : State) (st : TakeState) (l : LinkId) (serial : Nat) : List Nat :=
  (s.store.takes.filter fun e => e.2.state == st && e.2.link == l && e.2.serial == serial).map (·.1)

/-! ### Text (R34) -/

/-- The stored character at a store position: segment p div 64, offset p mod 64. -/
def Take.charAt (t : Take) (p : Nat) : Byte :=
  (t.chain.getD (p / Config.segmentChars) []).getD (p % Config.segmentChars) 0

/-- Whether the current segment has room for one more character (R3). -/
def Take.hasRoom (t : Take) : Bool := decide (t.length < Config.segmentChars * t.chain.length)

/-- A character appended to the last segment (R34). -/
def Take.append (t : Take) (b : Byte) : Take :=
  { t with chain := t.chain.dropLast ++ [t.chain.getLastD [] ++ [b]], length := t.length + 1 }

/-- A character that begins a newly granted segment (R27, R34). -/
def Take.appendNew (t : Take) (b : Byte) : Take := { t with chain := t.chain ++ [[b]], length := t.length + 1 }

/-! ### Hold lines (R20) -/

/-- Whether a link asserts its hold line, the store being in LOW or not. -/
def Link.holdWanted (low : Bool) (k : Link) : Bool :=
  low && decide (k.rx ≠ .disabled) && k.profile.holdCapable && !k.holdSpent

/-- The hold line put to what R20 calls for; each assertion starts the hold timer from zero (R21). -/
def Link.refreshHold (low : Bool) (k : Link) : Link :=
  if k.holdWanted low = k.hold then k else { k with hold := k.holdWanted low, holdTicks := 0 }

/-- The hold line of one link refreshed. -/
def State.refreshHold (s : State) (l : LinkId) : State := s.modLink l (·.refreshHold s.store.low)

/-- The hold lines of all links refreshed. -/
def State.refreshHolds (s : State) : State := { s with links := s.links.map (·.refreshHold s.store.low) }

/-! ### The LOW condition (R26) -/

/-- Entry into LOW when the free count is at or below low water: STORE LOW is recorded and hold lines rise. -/
def State.testLowEntry (s : State) : State :=
  if s.store.low = false ∧ s.store.free ≤ s.store.lowWater then
    ((s.modStore fun st => { st with low := true }).recordFault storeSource .storeLow).refreshHolds
  else s

/-- Exit from LOW when the free count is at or above high water: hold-spent marks clear and hold lines fall. -/
def State.testLowExit (s : State) : State :=
  if s.store.low = true ∧ s.store.highWater ≤ s.store.free then
    { s with
      store := { s.store with low := false }
      links := s.links.map fun k => ({ k with holdSpent := false } : Link).refreshHold false }
  else s

/-! ### Grants (R27 to R29) -/

/-- Whether a request of this received priority is granted at once (R27). -/
def Store.eligible (st : Store) (p : Priority) : Bool :=
  if p.num ≤ 2 then decide (0 < st.free) else decide (st.reserve < st.free)

/-- The bookkeeping of one grant: the free count falls; RESERVE IN USE is recorded when it comes down to the reserve;
a grant from within the reserve is counted (R28); then LOW is tested (R26). -/
def State.noteGrant (s : State) : State :=
  let before := s.store.free
  let s1 := s.modStore fun st => { st with free := st.free - 1 }
  let s2 := if before = s.store.reserve + 1 then s1.recordFault storeSource .reserveInUse else s1
  let s3 := if before ≤ s.store.reserve then
      s2.modStore fun st => { st with reserveGrants := satPlus st.reserveGrants 1 }
    else s2
  s3.testLowEntry

/-- A granted segment joins the chain of a take with the byte that begins it (R27). -/
def State.grantSegment (s : State) (h : Nat) (b : Byte) : State :=
  match s.take? h with
  | some t => (s.putTake h (t.appendNew b)).noteGrant
  | none => s

/-- The waiting requests without those of a link. -/
def Store.withdraw (st : Store) (l : LinkId) : Store := { st with waiting := st.waiting.filter (·.link != l) }

/-- A link's waiting request withdrawn (R30). -/
def State.withdraw (s : State) (l : LinkId) : State := s.modStore (·.withdraw l)

/-- Whether a link waits for a segment. -/
def State.waits (s : State) (l : LinkId) : Bool := s.store.waiting.any (·.link == l)

/-- Of two waiting requests the one the arbiter prefers: higher priority, then lower link number (R29). -/
def preferred (a b : WaitingRequest) : WaitingRequest :=
  if b.prio.num < a.prio.num ∨ (b.prio.num = a.prio.num ∧ b.link.val < a.link.val) then b else a

/-- The eligible waiting request the arbiter serves next (R29). -/
def Store.nextServed (st : Store) : Option WaitingRequest :=
  match st.waiting.filter (fun w => st.eligible w.prio) with
  | [] => none
  | w :: ws => some (ws.foldl preferred w)

/-- A byte taken into a link's check accumulator while its check is on (R7). -/
def Link.takeCrc (k : Link) (b : Byte) : Link :=
  if k.profile.check then { k with crc := crcByte k.profile.poly k.crc b } else k

/-- The byte at the head of a FIFO drained, and taken into the check accumulator. -/
def Link.drainHead (k : Link) : Link :=
  match k.fifo with
  | [] => k
  | b :: rest => ({ k with fifo := rest } : Link).takeCrc b

/-- A waiting request granted: the link's waiting byte is stored in the new segment (R4, R29). -/
def State.grantWaiting (s : State) (w : WaitingRequest) : State :=
  match (s.link w.link).rx, (s.link w.link).fifo with
  | .text h _, b :: _ => ((s.withdraw w.link).modLink w.link (·.drainHead)).grantSegment h (fold b)
  | _, _ => s.withdraw w.link

/-- The arbiter serves waiting requests one segment at a time until none is eligible (R29); each step takes one from the
waiting requests, so their number bounds the steps. -/
def arbitrate : Nat → State → State
  | 0, s => s
  | n + 1, s =>
    match s.store.nextServed with
    | none => s
    | some w => arbitrate n (s.grantWaiting w)

/-- The arbiter run to its end. -/
def State.runArbiter (s : State) : State := arbitrate s.store.waiting.length s

/-! ### Returns and references (R31, R36 to R39) -/

/-- Segments enter the free pool: LOW exit, then the arbiter, with a LOW test after each grant (R31). -/
def State.returnSegments (s : State) (n : Nat) : State :=
  if n = 0 then s else (s.modStore fun st => { st with free := st.free + n }).testLowExit.runArbiter

/-- A record becomes FREE and its chain returns, with no report to the Router (R36, R39). -/
def State.freeTake (s : State) (h : Nat) : State :=
  match s.take? h with
  | some t => (s.modStore fun st => { st with takes := Takes.erase st.takes h }).returnSegments t.chain.length
  | none => s

/-- A story entry changed. -/
def State.modStory (s : State) (k : StoryKey) (f : Story → Story) : State :=
  { s with stories := s.stories.map fun e => if e.key = k then f e else e }

/-- The release of a take is reported to its story entry, whose queued count falls by one (R38, R50). -/
def State.reportRelease (s : State) (t : Take) : State :=
  match t.story with
  | some k => s.modStory k fun e => { e with queued := e.queued - 1 }
  | none => s

/-- A take's reference count falls by one; at 0 the record becomes FREE and its release is reported (R38). -/
def State.dropRef (s : State) (h : Nat) : State :=
  match s.take? h with
  | none => s
  | some t => if t.refs ≤ 1 then (s.reportRelease t).freeTake h else s.putTake h { t with refs := t.refs - 1 }

/-- A take's reference count rises by one (R37). -/
def State.addRef (s : State) (h : Nat) : State := s.modTake h fun t => { t with refs := t.refs + 1 }

end Sys2Proof.Machine
end

