-- ==== Sys2Proof/Machine/Queue.lean ====
section
/-! DEFINITION. The estimate arithmetic (R113 to R115) and the circuit queues (04_circuit_queues.md): order, insertion
with shedding and displacement, backlog, removals, resumed entries, and the orders the Router gives a context
(R111, R135, R138). -/

namespace Sys2Proof.Machine

open Sys2Proof

/-! ### Slots and estimates (R103, R114, R115) -/

/-- The line-end length E in slots (R103). -/
def Form.lineEndSlots (f : Form) : Nat := f.nCR + f.nLF + (if f.reassert then 1 else 0)

/-- The least whole number of widths that holds R characters (R115). -/
def widths (r w : Nat) : Nat := (r + (w - 1)) / w

/-- The estimated slots of R unsent stored characters (R114). -/
def slotsEst (f : Form) (r : Nat) : Nat := r + widths r f.width * f.lineEndSlots + (8 + 3 * f.lineEndSlots)

/-- The transmission-time estimate in ms, rounded up and held at 65535 (R114, R115). -/
def estimate (f : Form) (r : Nat) : Nat :=
  min 65535 ((slotsEst f r * f.stop.charLen * (f.period + 1) * 5 + 9215) / 9216)

/-! ### Occupancy and the pool (R62, R63) -/

/-- Entries a circuit uses: queued and held. -/
def Circuit.occupancy (c : Circuit) : Nat := c.queue.length + (if c.flight.isSome then 1 else 0)

/-- Entries in use on all circuits. -/
def State.entriesUsed (s : State) : Nat := (allCircuits.map fun i => (s.circuit i).occupancy).sum

/-- Free entries of the pool of 512. -/
def State.freeEntries (s : State) : Nat := Config.queueEntries - s.entriesUsed

/-! ### Order (R64, R65) -/

/-- A new entry behind every entry of its class or higher that stands before the first of lower class (R64). -/
def placeEntry (q : List Entry) (e : Entry) : List Entry :=
  q.takeWhile (fun x => decide (x.prio.num ≤ e.prio.num)) ++ e :: q.dropWhile (fun x => decide (x.prio.num ≤ e.prio.num))

/-- A resumed entry before the first entry of its own class (R65). -/
def placeResumed (q : List Entry) (e : Entry) : List Entry :=
  q.takeWhile (fun x => decide (x.prio.num < e.prio.num)) ++ e :: q.dropWhile (fun x => decide (x.prio.num < e.prio.num))

/-- The estimates stored in the entries of a queue, added up (R72). -/
def queueSum (q : List Entry) : Nat := (q.map (·.estimate)).sum

/-! ### Removals (R38, R69, R73, R77) -/

/-- The references of a list of entries dropped, from the head of the queue to its tail (DESIGN CHOICE, log 33). -/
def State.dropRefs (s : State) (es : List Entry) : State := es.foldl (fun s e => s.dropRef e.handle) s

/-- The entries of a circuit's queue that satisfy a test are removed: the backlog falls by their estimates and their
takes' references are dropped (R38, R72, R73). -/
def State.removeEntries (s : State) (i : CircuitId) (p : Entry → Bool) : State :=
  (s.modCircuit i fun c =>
    { c with
      queue := c.queue.filter (fun e => !p e)
      backlog := c.backlog - queueSum (c.queue.filter p) }).dropRefs ((s.circuit i).queue.filter p)

/-- The entry at a place of a circuit's queue is removed. -/
def State.removeAt (s : State) (i : CircuitId) (n : Nat) : State :=
  match (s.circuit i).queue[n]? with
  | some e =>
    (s.modCircuit i fun c => { c with queue := c.queue.eraseIdx n, backlog := c.backlog - e.estimate }).dropRef e.handle
  | none => s

/-- FLUSH: every queued entry removed and the backlog 0 (R77). -/
def State.flush (s : State) (i : CircuitId) : State :=
  (s.modCircuit i fun c => { c with queue := [], backlog := 0 }).dropRefs (s.circuit i).queue

/-! ### Insertion (R67 to R70) -/

/-- Whether a take of priority `p` is shed on a circuit (R68). -/
def Circuit.sheds (c : Circuit) (p : Priority) : Bool :=
  match p with
  | .routine => decide (0 < c.active.shed ∧ 2 * c.active.shed * 1000 < c.backlog)
  | .deferred => decide (0 < c.active.shed ∧ c.active.shed * 1000 < c.backlog)
  | .flash | .bulletin | .urgent => false

/-- Whether an insertion finds the circuit full (R69). -/
def State.full (s : State) (i : CircuitId) : Bool :=
  decide ((s.circuit i).active.depth ≤ (s.circuit i).occupancy ∨ s.freeEntries = 0)

/-- An entry that a take of priority `p` may displace: lower priority and not resumed (R69). -/
def Entry.displaceable (p : Priority) (e : Entry) : Bool := decide (p.num < e.prio.num) && e.resume.isNone

/-- The place of the displaceable entry nearest the tail (R69). -/
def displacedAt (q : List Entry) (p : Priority) : Option Nat :=
  (q.reverse.findIdx? (Entry.displaceable p)).map (fun n => q.length - 1 - n)

/-- Whether the break-in level admits a priority (R135). -/
def BreakInLevel.admits (b : BreakInLevel) (p : Priority) : Bool :=
  match b with
  | .none => false
  | .flash => decide (p.num = 1)
  | .flashBulletin => decide (p.num ≤ 2)

/-- An insertion of priority `p` offered for break-in against the take in flight (R135). -/
def State.offerBreakIn (s : State) (i : CircuitId) (p : Priority) : State :=
  match (s.circuit i).flight with
  | none => s
  | some f =>
    match s.take? f.entry.handle with
    | none => s
    | some t =>
      if (s.circuit i).state = .sending ∧ (s.circuit i).active.breakInLevel.admits p = true ∧
          p.num < f.entry.prio.num ∧ f.ctx.phase = .text ∧ f.ctx.breakIn = false ∧
          (s.circuit i).active.breakInWait < estimate (s.circuit i).active.form (t.length - f.ctx.read.pos) then
        s.modCircuit i fun c => { c with flight := some { f with ctx := { f.ctx with breakIn := true } } }
      else s

/-- Steps 3 to 6 of an insertion: placement, estimate, reference and break-in offer (R67). -/
def State.place (s : State) (i : CircuitId) (h : Nat) (t : Take) (p : Priority) : State :=
  let est := estimate (s.circuit i).active.form t.length
  ((s.modCircuit i fun c =>
    { c with
      queue := placeEntry c.queue { handle := h, prio := p, resume := none, estimate := est }
      backlog := c.backlog + est }).addRef h).offerBreakIn i p

/-- An insertion of a take on a circuit (R67): shedding, room, then the rest. -/
def State.insert (s : State) (i : CircuitId) (h : Nat) (p : Priority) : State :=
  match s.take? h with
  | none => s
  | some t =>
    if (s.circuit i).sheds p then s.countCircuit i .shed 1
    else if s.full i = false then s.place i h t p
    else if (s.circuit i).active.depth < (s.circuit i).occupancy then s.countCircuit i .refusedFull 1
    else
      match displacedAt (s.circuit i).queue p with
      | none => s.countCircuit i .refusedFull 1
      | some n => ((s.removeAt i n).countCircuit i .displaced 1).place i h t p

/-- A queued take replaced in place by a correction (R54, R66): the entry keeps its place and priority. -/
def State.replaceAt (s : State) (i : CircuitId) (n : Nat) (h : Nat) (t : Take) : State :=
  match (s.circuit i).queue[n]? with
  | none => s
  | some e =>
    let est := estimate (s.circuit i).active.form t.length
    ((s.modCircuit i fun c =>
      { c with
        queue := c.queue.set n { e with handle := h, resume := none, estimate := est }
        backlog := c.backlog - e.estimate + est }).addRef h).dropRef e.handle

/-! ### Cut orders (R111, R138) -/

/-- Whether a cut order still has an effect in a phase: not once step 4 of the trailer has begun (R111). -/
def Phase.cuttable : Phase → Bool
  | .header _ => true
  | .text => true
  | .trailer .secondClose => false
  | .trailer .done => false
  | .trailer .opening | .trailer (.body _) | .trailer .suspectMark | .trailer .truncatedMark | .trailer .cutMark
  | .trailer .firstClose => true

/-- A context given a cut order with mark `/` (R111). -/
def Context.cutOrder (x : Context) : Context := if x.phase.cuttable then { x with cut := true } else x

/-- A cut order for a take given to a circuit; it has no effect where the take is not in flight (R138). -/
def State.cutOrder (s : State) (i : CircuitId) (h : Nat) : State :=
  match (s.circuit i).flight with
  | some f =>
    if f.entry.handle = h then
      s.modCircuit i fun c => { c with flight := some { f with ctx := f.ctx.cutOrder } }
    else s
  | none => s

end Sys2Proof.Machine
end

