-- ==== Sys2Proof/Machine/Packer.lean ====
section
/-! DEFINITION. The Packer (05_five_unit_code_and_shift_economy.md, 06_line_building_and_slot_arithmetic.md): fresh
contexts, headers, words, spaces, folds, line ends and trailers. `choose` gives the next character of a context; it is
pure, and the circuit controller acts on what it answers. -/

namespace Sys2Proof.Machine

open Sys2Proof

/-- What the Packer answers when asked for the next character: a character, the context after it, the unprintable bytes
counted in finding it and whether it is the header's first character (R132); the take's end (R96); or a break-in to be
carried out (R136). -/
inductive Chosen where
  | char (f : FiveUnit) (ctx : Context) (unprintable : Nat) (headerStart : Bool)
  | takeEnd
  | breakIn
deriving DecidableEq, Repr

/-! ### Header lines (R106, R107) -/

/-- `FLASH`, `BULLETIN`, `URGENT`, or no word for classes 4 and 5 (R106). -/
def priorityWord : Priority → List Byte
  | .flash => [0x46, 0x4C, 0x41, 0x53, 0x48]
  | .bulletin => [0x42, 0x55, 0x4C, 0x4C, 0x45, 0x54, 0x49, 0x4E]
  | .urgent => [0x55, 0x52, 0x47, 0x45, 0x4E, 0x54]
  | .routine => []
  | .deferred => []

/-- `CORRECTION`, `KILL`, or no word (R106). -/
def dispositionWord : Disposition → List Byte
  | .normal => []
  | .correction => [0x43, 0x4F, 0x52, 0x52, 0x45, 0x43, 0x54, 0x49, 0x4F, 0x4E]
  | .kill => [0x4B, 0x49, 0x4C, 0x4C]

/-- `RESUME` (R107). -/
def resumeWord : List Byte := [0x52, 0x45, 0x53, 0x55, 0x4D, 0x45]

/-- A decimal digit's byte. -/
def digitByte (n : Nat) : Byte := BitVec.ofNat 8 (0x30 + n % 10)

/-- A number of at most two digits without a leading zero (R106). -/
def decimal (n : Nat) : List Byte := if n < 10 then [digitByte n] else [digitByte (n / 10), digitByte n]

/-- Two digits. -/
def twoDigits (n : Nat) : List Byte := [digitByte (n / 10), digitByte n]

/-- The words of a header line with single spaces between them, then the closing line end (R106). -/
def headerLine (words : List (List Byte)) : List HeaderItem :=
  ((words.filter (fun w => !w.isEmpty)).map HeaderItem.word).intersperse .space ++ [.close]

/-- The bells of a header: FIGS and the class's bells when it has any, then LTRS (R90, R92, R106). -/
def bellItems (bells : Nat) : List HeaderItem :=
  (if 0 < bells then HeaderItem.fixed .figs :: List.replicate bells (.fixed .bell) else []) ++ [.fixed .ltrs]

/-- A take header under the class of the held entry's priority (R106). -/
def takeHeader (f : Form) (p : Priority) (t : Take) : List HeaderItem :=
  bellItems (f.bells.get p) ++ headerLine [priorityWord p, dispositionWord t.disp, t.tag, t.slug, decimal t.part]

/-- A resume header (R107). -/
def resumeHeader (t : Take) : List HeaderItem :=
  .fixed .ltrs :: headerLine [resumeWord, t.tag, t.slug, decimal t.part]

/-- A fresh context for an entry taken into flight (R95): the lead is set after a break-in (R108) and a stop order may
pass to it (R120). -/
def freshContext (f : Form) (e : Entry) (t : Take) (lead stopPending : Bool) : Context :=
  { handle := e.handle
    phase := .header (if e.resume.isSome then resumeHeader t else takeHeader f e.prio t)
    lead := lead
    read := e.resume.getD { pos := 0, off := 0 }
    word := none, column := 0, shift := .letters
    lineStart := e.resume.getD { pos := 0, off := 0 }
    breakIn := false, cut := false, stopPending := stopPending, slots := 0, sequence := [], lineEnd := none,
    headerStarted := false }

/-! ### Emission (R88, R96, R97, R104, R112) -/

/-- A context after it emits one character: the slot, the case and the column. -/
def Context.emit (x : Context) (fm : Form) (f : FiveUnit) : Context :=
  { x with slots := x.slots + 1, shift := f.caseAfter fm.unshift x.shift, column := x.column + f.columns }

/-- The line-start position becomes the read position when a text line end has had its last character (R104). -/
def Context.markLineStart (x : Context) : Context :=
  if x.sequence.isEmpty && decide (x.phase = .text) then { x with lineStart := x.read } else x

/-- What follows the first CR of a line end (R103), with the further LF of a paragraph line end (R102). -/
def lineEndRest (fm : Form) (k : LineEnd) : List FiveUnit :=
  List.replicate (fm.nCR - 1) .cr ++ List.replicate fm.nLF .lf ++ (if fm.reassert then [.ltrs] else []) ++
    (if k = .paragraph ∧ fm.spacing then [.lf] else [])

/-- A line end begins: its first CR is emitted and sets the column to 0 (R97, R103). -/
def Context.beginLineEnd (x : Context) (fm : Form) (k : LineEnd) (unprintable : Nat) : Chosen :=
  .char .cr
    (({ x with sequence := lineEndRest fm k, lineEnd := some k, column := 0 } : Context).emit fm .cr).markLineStart
    unprintable false

/-- A wanted LETTER, FIGURE or BOTH character: the shift it needs is sent first, in a slot of its own, and the context
goes past the character (`past`) only when the character itself is sent (R89). -/
def Context.want (x : Context) (fm : Form) (f : FiveUnit) (past : Context → Context) (unprintable : Nat) : Chosen :=
  if withShift x.shift f = f then .char f ((past x).emit fm f) unprintable false
  else .char (withShift x.shift f) (x.emit fm (withShift x.shift f)) unprintable false

/-! ### Trailers (R110, R111) -/

/-- Tag, space and the four digits of the ready clock (R110, step 2). -/
def trailerText (t : Take) : List Byte :=
  t.tag ++ byteSpace :: (twoDigits (t.readyClock.getD (0, 0)).1 ++ twoDigits (t.readyClock.getD (0, 0)).2)

/-- Step 4: the first of the two closing line ends begins. -/
def trailerClose (fm : Form) (x : Context) (u : Nat) : Chosen :=
  ({ x with phase := .trailer .secondClose } : Context).beginLineEnd fm .trailer u

/-- The mark `/` if cut-pending is set, then step 4. -/
def trailerCutMark (fm : Form) (x : Context) (u : Nat) : Chosen :=
  if x.cut then
    ({ x with phase := .trailer .cutMark } : Context).want fm (.figure 0x2F)
      (fun y => { y with phase := .trailer .firstClose }) u
  else trailerClose fm x u

/-- The mark `+` if the take is truncated, then the rest. -/
def trailerTruncatedMark (fm : Form) (t : Take) (x : Context) (u : Nat) : Chosen :=
  if t.truncated then
    ({ x with phase := .trailer .truncatedMark } : Context).want fm (.figure 0x2B)
      (fun y => { y with phase := .trailer .cutMark }) u
  else trailerCutMark fm x u

/-- The mark `?` if the take is suspect, then the rest. -/
def trailerSuspectMark (fm : Form) (t : Take) (x : Context) (u : Nat) : Chosen :=
  if t.suspect then
    ({ x with phase := .trailer .suspectMark } : Context).want fm (.figure 0x3F)
      (fun y => { y with phase := .trailer .truncatedMark }) u
  else trailerTruncatedMark fm t x u

/-- The rest of the tag and clock, then the marks. -/
def trailerBody (fm : Form) (t : Take) (x : Context) (rest : List Byte) (u : Nat) : Chosen :=
  match rest with
  | [] => trailerSuspectMark fm t x u
  | b :: bs =>
    ({ x with phase := .trailer (.body rest) } : Context).want fm (if b = byteSpace then .space else unitOf b)
      (fun y => { y with phase := .trailer (.body bs) }) u

/-- The next character of a trailer at a step (R110); none is left at its end, where the take ends (R96). -/
def trailerNext (fm : Form) (t : Take) (x : Context) (step : TrailerStep) (u : Nat) : Chosen :=
  match step with
  | .opening =>
    if 0 < x.column then
      ({ x with phase := .trailer (.body (trailerText t)) } : Context).beginLineEnd fm .trailer u
    else trailerBody fm t x (trailerText t) u
  | .body rest => trailerBody fm t x rest u
  | .suspectMark => trailerSuspectMark fm t x u
  | .truncatedMark => trailerTruncatedMark fm t x u
  | .cutMark => trailerCutMark fm x u
  | .firstClose => trailerClose fm x u
  | .secondClose => ({ x with phase := .trailer .done } : Context).beginLineEnd fm .trailer u
  | .done => .takeEnd

/-- The phase becomes TRAILER; a pending break-in is dropped (R105, R109). -/
def startTrailer (fm : Form) (t : Take) (x : Context) (u : Nat) : Chosen :=
  trailerNext fm t { x with phase := .trailer .opening, word := none, breakIn := false } .opening u

/-! ### Text (R98 to R102) -/

/-- A byte that ends a word: a space or a paragraph mark (R98). -/
def endsWord (b : Byte) : Bool := decide (b = byteSpace ∨ b = byteParagraph)

/-- The word at a store position examined (R99): the expansions in store order, from the offset within the first; the
unprintable bytes counted; and whether the length was found longer than W, where measurement stops. The first number
bounds the bytes left. -/
def examineFrom (tbl : Vector SubstEntry 32) (t : Take) (w : Nat) :
    Nat → (pos off count : Nat) → List (List Byte) × Nat × Bool
  | 0, _, _, _ => ([], 0, false)
  | n + 1, pos, off, count =>
    if t.length ≤ pos ∨ endsWord (t.charAt pos) = true then ([], 0, false)
    else
      let e := expansion tbl (t.charAt pos)
      let count' := count + (e.1.length - off)
      if w < count' then ([e.1], e.2, true)
      else
        let r := examineFrom tbl t w n (pos + 1) 0 count'
        (e.1 :: r.1, e.2 + r.2.1, r.2.2)

/-- The store position after a run of spaces (R100). The first number bounds the bytes left. -/
def afterSpaces (t : Take) : Nat → Nat → Nat
  | 0, pos => pos
  | n + 1, pos => if pos < t.length ∧ t.charAt pos = byteSpace then afterSpaces t n (pos + 1) else pos

/-- Characters of the held word still to be emitted, as far as they are looked up, the first byte's from an offset on. -/
def HeldWord.remaining (w : HeldWord) (off : Nat) : Nat :=
  match w.ahead with
  | [] => 0
  | e :: es => (e.length - off) + (es.map List.length).sum

/-- Whether a fold comes before the next character of a word (R101): before a word that does not fit; before a word
longer than W that does not start at the margin; and inside such a word whenever the column has reached W. -/
def Context.wordFolds (x : Context) (w : HeldWord) (width : Nat) : Bool :=
  if w.long then (w.fresh && decide (0 < x.column)) || decide (width ≤ x.column)
  else decide (0 < x.column ∧ width < x.column + w.remaining x.read.off)

/-- A context past one character of the expansion `e` at its read position (R98): the read position moves on within the
expansion or to the next byte, and the word is dropped with its last character. -/
def Context.passChar (w : HeldWord) (e : List Byte) (es : List (List Byte)) (x : Context) : Context :=
  if x.read.off + 1 < e.length then
    { x with read := { x.read with off := x.read.off + 1 }, word := some { w with fresh := false } }
  else
    { x with
      read := { pos := x.read.pos + 1, off := 0 }
      word := if es.isEmpty && !w.long then none else some { w with ahead := es, fresh := false } }

/-- The next character of a take's text (R98 to R102), or of its trailer where the text ends (R109). Looking up words,
dropping bytes and passing on take no slot; the first number bounds that work and never runs out (log 28). A fold before a
word comes before any byte of it is passed over, so the line starts at the word's first stored character, dropped or not
(R104); inside a split word the line starts at its next character. The word at a resume position is examined when its first
character is chosen, after the resume header (DESIGN CHOICE, log 39). -/
def packText (fm : Form) (tbl : Vector SubstEntry 32) (t : Take) : Nat → Context → Nat → Chosen
  | 0, x, u => startTrailer fm t x u
  | n + 1, x, u =>
    if t.length ≤ x.read.pos then startTrailer fm t x u
    else
      match x.word with
      | none =>
        if t.charAt x.read.pos = byteSpace then
          if x.column < fm.width then
            .char .space (({ x with read := { pos := x.read.pos + 1, off := 0 } } : Context).emit fm .space) u false
          else
            ({ x with read := { pos := afterSpaces t t.length x.read.pos, off := 0 } } : Context).beginLineEnd fm .fold u
        else if t.charAt x.read.pos = byteParagraph then
          ({ x with read := { pos := x.read.pos + 1, off := 0 } } : Context).beginLineEnd fm .paragraph u
        else
          let r := examineFrom tbl t fm.width t.length x.read.pos x.read.off 0
          packText fm tbl t n { x with word := some { ahead := r.1, long := r.2.2, fresh := true } } (u + r.2.1)
      | some w =>
        match w.ahead with
        | [] =>
          if w.long = true ∧ endsWord (t.charAt x.read.pos) = false then
            let e := expansion tbl (t.charAt x.read.pos)
            packText fm tbl t n { x with word := some { w with ahead := [e.1] } } (u + e.2)
          else packText fm tbl t n { x with word := none } u
        | e :: es =>
          if w.fresh = true ∧ x.wordFolds w fm.width = true then
            ({ x with word := some { w with fresh := false } } : Context).beginLineEnd fm .fold u
          else
            match e[x.read.off]? with
            | none =>
              packText fm tbl t n
                { x with read := { pos := x.read.pos + 1, off := 0 }, word := some { w with ahead := es } } u
            | some b =>
              if x.wordFolds w fm.width then
                ({ x with word := some { w with fresh := false } } : Context).beginLineEnd fm .fold u
              else
                ({ x with word := some { w with fresh := false } } : Context).want fm (unitOf b) (Context.passChar w e es)
                  u

/-- The next character in phase TEXT, with work enough for every byte left. -/
def textNext (fm : Form) (tbl : Vector SubstEntry 32) (t : Take) (x : Context) : Chosen :=
  packText fm tbl t (4 * t.length + 4) x 0

/-! ### Headers (R106 to R108) -/

/-- The next character of a header's items: fixed characters as they stand, words and spaces packed as text. -/
def headerItems (fm : Form) (tbl : Vector SubstEntry 32) (t : Take) (x : Context) : List HeaderItem → Chosen
  | [] => textNext fm tbl t { x with phase := .text }
  | .fixed f :: rest =>
    .char f (({ x with phase := .header rest, headerStarted := true } : Context).emit fm f) 0 (!x.headerStarted)
  | .word [] :: rest => headerItems fm tbl t x rest
  | .word (b :: bs) :: rest =>
    if 0 < x.column ∧ fm.width < x.column + (b :: bs).length then
      ({ x with phase := .header (.word (b :: bs) :: rest) } : Context).beginLineEnd fm .fold 0
    else
      ({ x with phase := .header (.word (b :: bs) :: rest) } : Context).want fm (unitOf b)
        (fun y => { y with phase := .header (if bs.isEmpty then rest else .word bs :: rest) }) 0
  | .space :: rest =>
    if x.column < fm.width then .char .space (({ x with phase := .header rest } : Context).emit fm .space) 0 false
    else ({ x with phase := .header rest } : Context).beginLineEnd fm .fold 0
  | .close :: rest => ({ x with phase := .header rest } : Context).beginLineEnd fm .headerClose 0

/-- The next character in phase HEADER: the break-in lead first (R108). -/
def headerNext (fm : Form) (tbl : Vector SubstEntry 32) (t : Take) (x : Context) (items : List HeaderItem) : Chosen :=
  if x.lead then .char .lf (({ x with lead := false } : Context).emit fm .lf) 0 false
  else headerItems fm tbl t x items

/-! ### The next character (R96, R105) -/

/-- A complete line end: the context acts on its orders before anything is read (R105). -/
def lineEndDone (fm : Form) (tbl : Vector SubstEntry 32) (t : Take) (x : Context) (k : LineEnd) : Chosen :=
  match x.phase with
  | .header items =>
    if x.cut then startTrailer fm t x 0
    else if k = .headerClose then textNext fm tbl t { x with phase := .text }
    else headerNext fm tbl t x items
  | .text =>
    if t.length ≤ x.read.pos then startTrailer fm t x 0
    else if x.cut then startTrailer fm t x 0
    else if x.breakIn then .breakIn
    else textNext fm tbl t x
  | .trailer step => trailerNext fm t x step 0

/-- The next character of a context (R96): the line end in progress first; a complete line end acts on orders (R105);
then header, text or trailer. -/
def choose (fm : Form) (tbl : Vector SubstEntry 32) (t : Take) (x : Context) : Chosen :=
  match x.sequence with
  | f :: rest => .char f (({ x with sequence := rest } : Context).emit fm f).markLineStart 0 false
  | [] =>
    match x.lineEnd with
    | some k => lineEndDone fm tbl t { x with lineEnd := none } k
    | none =>
      match x.phase with
      | .header items => headerNext fm tbl t x items
      | .text => textNext fm tbl t x
      | .trailer step => trailerNext fm t x step 0

/-- The slot of the last trailer character is the one in progress: asked now, the Packer would answer the take's end
(R96, R119, R128). -/
def Context.trailerDone (x : Context) : Bool := x.sequence.isEmpty && decide (x.phase = .trailer .done)

end Sys2Proof.Machine
end

