-- ==== Sys2Proof/Machine/Circuit.lean ====
section
/-! DEFINITION. The circuit controllers (07_circuit_operation.md, 08_line_pacing_timers_and_profiles.md): line output and
pacer, entry into each state, takes in flight, the work of a character-time end, answer-back, break and restore. -/

namespace Sys2Proof.Machine

open Sys2Proof

/-! ### Staged values (R148, R149) -/

/-- The form after every staged value present becomes active. -/
def Form.withStaged (f : Form) (g : Staged) : Form :=
  { period := g.period.getD f.period
    stop := g.stop.getD f.stop
    width := g.width.getD f.width
    nCR := g.nCR.getD f.nCR
    nLF := g.nLF.getD f.nLF
    reassert := g.reassert.getD f.reassert
    unshift := g.unshift.getD f.unshift
    spacing := g.spacing.getD f.spacing
    bells :=
      { flash := g.bells.flash.getD f.bells.flash
        bulletin := g.bells.bulletin.getD f.bells.bulletin
        urgent := g.bells.urgent.getD f.bells.urgent
        routine := g.bells.routine.getD f.bells.routine
        deferred := g.bells.deferred.getD f.bells.deferred } }

/-- A take boundary: every staged value becomes active in one step, and none is staged any more (R149). -/
def Circuit.applyStaged (c : Circuit) : Circuit :=
  { c with active := { c.active with form := c.active.form.withStaged c.staged }, staged := .absent }

/-! ### Pacer and line (R117, R144, R145) -/

/-- A stopped pacer starts under the active values; a running one keeps its phase (R144), one that completes its last
character time among them (DEDUCED, log 19). -/
def Circuit.startPacer (c : Circuit) : Circuit :=
  if c.pacer.running then c
  else
    { c with
      pacer := { running := true, period := c.active.form.period, charLen := c.active.form.stop.charLen } }

/-- At a character-time end a pacer that goes on restarts its counters under the active values (R145). -/
def Circuit.relatchPacer (c : Circuit) : Circuit :=
  if c.pacer.running then
    { c with
      pacer := { running := true, period := c.active.form.period, charLen := c.active.form.stop.charLen } }
  else c

/-- The pacer stopped. -/
def Circuit.stopPacer (c : Circuit) : Circuit := { c with pacer := { c.pacer with running := false } }

/-- Whether a character is on the line. -/
def Slot.isChar : Slot → Bool
  | .char _ => true
  | .mark => false
  | .space => false

/-- A level put on the line at a character-time end, where the pacer stops too. -/
def Circuit.levelAtEnd (c : Circuit) (v : Slot) : Circuit := { c.stopPacer with slot := v }

/-- A level put on the line between character-time ends: a character on the line is completed first; the pacer, if it
runs, stops at its character-time end (R117, R144, log 18). -/
def Circuit.levelBetween (c : Circuit) (v : Slot) : Circuit := if c.slot.isChar then c else { c with slot := v }

/-- The level of a stop mode other than FILL (R117). -/
def StopMode.level : StopMode → Option Slot
  | .mark => some .mark
  | .space => some .space
  | .fill => none

/-- The stop mode put on the line at a character-time end (R117, R121): FILL places LTRS there. -/
def Circuit.stopModeAtEnd (c : Circuit) : Circuit :=
  match c.active.stopMode.level with
  | some v => c.levelAtEnd v
  | none => { c.startPacer with slot := .char .ltrs }

/-- The stop mode put on the line between character-time ends: FILL starts a stopped pacer (R117, R121). -/
def Circuit.stopModeBetween (c : Circuit) : Circuit :=
  match c.active.stopMode.level with
  | some v => c.levelBetween v
  | none => c.startPacer

/-- The idle output of READY placed at a character-time end (R117). -/
def Circuit.idleAtEnd (c : Circuit) : Circuit :=
  { c with slot := match c.active.idleMode with | .mark => .mark | .fill => .char .ltrs }

/-! ### Entry into the states -/

/-- Orders, measurements and answer-back state cleared, as entry into STOPPED does before the staged values are applied
(R121). -/
def Circuit.clearForStop (c : Circuit) : Circuit :=
  { c with
    state := .stopped, flight := none, stopNow := false, breakSeen := false, abandoned := false, requestStep := 0,
    window := none, buffer := [], receiving := none, spacing := none, marking := none }

/-- Entry into STOPPED at a character-time end (R121). -/
def Circuit.enterStoppedAtEnd (c : Circuit) : Circuit := c.clearForStop.applyStaged.stopModeAtEnd

/-- Entry into STOPPED between character-time ends (R121, R152). -/
def Circuit.enterStopped (c : Circuit) : Circuit := c.clearForStop.applyStaged.stopModeBetween

/-- The measurement of a spacing run on entry from outside into IDENTIFYING, READY or SENDING: it starts when the line
is then spacing (R127). -/
def Circuit.measureSpacing (c : Circuit) : Circuit :=
  { c with marking := none, spacing := if c.returnMark then none else some 0 }

/-- The circuit enters BROKEN; marking is measured when the line is then marking (R128, R129). -/
def Circuit.toBroken (c : Circuit) : Circuit :=
  { c with
    state := .broken, flight := none, stopNow := false, breakSeen := false, abandoned := false, requestStep := 0,
    window := none, buffer := [], receiving := none, spacing := none,
    marking := if c.returnMark then some 0 else none }

/-- Entry into BROKEN at a character-time end: the line holds MARK and the pacer stops (R117, R128). -/
def Circuit.enterBrokenAtEnd (c : Circuit) : Circuit := c.toBroken.levelAtEnd .mark

/-- Entry into BROKEN from IDENTIFYING or READY: the character on the line is completed (R128). -/
def Circuit.enterBroken (c : Circuit) : Circuit := c.toBroken.levelBetween .mark

/-- Entry into FAULTED from IDENTIFYING: the stop mode goes on the line, and no spacing is measured (R125, R127). -/
def Circuit.enterFaulted (c : Circuit) : Circuit :=
  ({ c with state := .faulted, window := none, receiving := none, spacing := none } : Circuit).stopModeBetween

/-- Entry into READY from IDENTIFYING: the pacer keeps its phase (R125). -/
def Circuit.identified (c : Circuit) : Circuit := { c with state := .ready, window := none, receiving := none }

/-- Into service from STOPPED, FAULTED or BROKEN: IDENTIFYING when the answer-back check is on, READY when it is off;
the pacer runs (R118, R129). DEDUCED: a pacer that still completes its character time keeps its phase (log 19); DESIGN
CHOICE: SPACE with no character on the line then stays to the end of that character time (log 42). -/
def Circuit.intoService (c : Circuit) : Circuit :=
  ({ c with
      state := if c.active.abCheck then .identifying else .ready
      requestStep := 0, window := none, receiving := none } : Circuit).measureSpacing.startPacer

/-! ### Takes leaving the line (R65, R76, R133, R138, R139) -/

/-- The held entry goes back to the pool and the take's reference is dropped; the context's slots are added to slots
sent (R76, R112). -/
def State.endFlight (s : State) (i : CircuitId) (f : Flight) : State :=
  ((s.modCircuit i fun c => { c with flight := none }).dropRef f.entry.handle).countCircuit i .slotsSent f.ctx.slots

/-- A take's end, steps 1 to 3 (R133): entry and reference, takes sent and slots sent, staged values. -/
def State.takeEnd (s : State) (i : CircuitId) (f : Flight) : State :=
  ((s.endFlight i f).countCircuit i .takesSent 1).modCircuit i (·.applyStaged)

/-- The take in flight returned to its queue as a resumed entry at a position (R65): its estimate is computed under the
active profile and the backlog rises by it. -/
def State.returnTake (s : State) (i : CircuitId) (f : Flight) (at_ : ReadPos) : State :=
  match s.take? f.entry.handle with
  | none => s.modCircuit i fun c => { c with flight := none }
  | some t =>
    let est := estimate (s.circuit i).active.form (t.length - at_.pos)
    (s.modCircuit i fun c =>
      { c with
        flight := none
        queue := placeResumed c.queue { f.entry with resume := some at_, estimate := est }
        backlog := c.backlog + est }).countCircuit i .slotsSent f.ctx.slots

/-- What becomes of the take when STOP NOW or a receiver break takes effect (R119, R128): ended if its trailer is
complete, ended unprinted if cut-pending is set, else returned at its line-start position. -/
def State.settleTake (s : State) (i : CircuitId) (f : Flight) : State :=
  if f.ctx.trailerDone then s.takeEnd i f
  else if f.ctx.cut then s.endFlight i f
  else s.returnTake i f f.ctx.lineStart

/-! ### Head selection (R74, R75) -/

/-- Whether an entry at the head is stale (R74). -/
def State.staleHead (s : State) (i : CircuitId) (e : Entry) : Bool :=
  match s.take? e.handle with
  | none => false
  | some t =>
    e.resume.isNone && decide (0 < (s.circuit i).active.stale.get e.prio) &&
      decide ((s.circuit i).active.stale.get e.prio * 60000 < (s.ms - t.readyTime.getD 0).toNat)

/-- Stale heads are removed and counted until the head is not stale or the queue is empty; the first number bounds the
removals. -/
def dropStale : Nat → State → CircuitId → State
  | 0, s, _ => s
  | n + 1, s, i =>
    match (s.circuit i).queue with
    | [] => s
    | e :: _ => if s.staleHead i e then dropStale n ((s.removeAt i 0).countCircuit i .stale 1) i else s

/-- The head entry passes into flight: it becomes the held entry, the backlog falls by its estimate, and a fresh context
starts (R75, R95). -/
def State.intoFlight (s : State) (i : CircuitId) (lead stopPending : Bool) : State :=
  match (s.circuit i).queue with
  | [] => s
  | e :: rest =>
    match s.take? e.handle with
    | none => s
    | some t =>
      s.modCircuit i fun c =>
        { c with
          queue := rest
          backlog := c.backlog - e.estimate
          flight := some { entry := e, ctx := freshContext c.active.form e t lead stopPending } }

/-- A head selection (R74, R75). -/
def State.headSelect (s : State) (i : CircuitId) (lead stopPending : Bool) : State :=
  (dropStale (s.circuit i).queue.length s i).intoFlight i lead stopPending

/-! ### The Packer's characters (R96, R132) -/

/-- A header start reported to the Router: the circuit joins the sent set of the take's story entry (R51, R132). -/
def State.reportHeaderStart (s : State) (i : CircuitId) (h : Nat) : State :=
  match s.take? h with
  | none => s
  | some t =>
    match t.story with
    | none => s
    | some k => s.modStory k fun e => { e with sent := CircuitSet.add e.sent i }

/-- A character of a context placed on the line: the context goes on, unprintable bytes are counted and a header start
is reported. -/
def State.putChar (s : State) (i : CircuitId) (f : Flight) (ch : FiveUnit) (x : Context) (unprintable : Nat)
    (start : Bool) : State :=
  let s1 := (s.modCircuit i fun c => { c with slot := .char ch, flight := some { f with ctx := x } }).countCircuit i
    .unprintable unprintable
  if start then s1.reportHeaderStart i f.entry.handle else s1

/-- What the Packer answers for the take in flight (R96). -/
def State.chosen (s : State) (i : CircuitId) (f : Flight) : Chosen :=
  match s.take? f.entry.handle with
  | some t => choose (s.circuit i).active.form s.subst t f.ctx
  | none => .takeEnd

/-- The first character of the context just started (R131, R133, R136). -/
def State.emitFirst (s : State) (i : CircuitId) : State :=
  match (s.circuit i).flight with
  | none => s
  | some f =>
    match s.chosen i f with
    | .char ch x u start => s.putChar i f ch x u start
    | .takeEnd => s
    | .breakIn => s

/-- After a head selection: SENDING with the context's first character when an entry passed into flight, READY with its
idle output when none did (R131, R133). -/
def State.sendOrIdle (s : State) (i : CircuitId) : State :=
  match (s.circuit i).flight with
  | some _ => (s.modCircuit i fun c => { c with state := .sending }).emitFirst i
  | none => s.modCircuit i fun c => ({ c with state := .ready } : Circuit).idleAtEnd

/-! ### A character-time end (R96, R116 to R152) -/

/-- A SENDING circuit whose take a copy restart abandoned: staged values, then STOPPED, BROKEN or READY (R140). -/
def Circuit.endAbandoned (c : Circuit) : Circuit :=
  if c.stopNow then c.enterStoppedAtEnd
  else if c.breakSeen then c.applyStaged.enterBrokenAtEnd
  else ({ c.applyStaged with state := .ready, abandoned := false } : Circuit).idleAtEnd

/-- A character-time end of a circuit with a take in flight. DESIGN CHOICE (log 40): a receiver break seen in the character
time that completes the trailer takes the circuit to BROKEN even where stop-pending is set, the order being lost with the
context (R120, R128), where R133 could be read to enter STOPPED. -/
def State.sendingEnd (s : State) (i : CircuitId) (f : Flight) : State :=
  if (s.circuit i).stopNow then (s.settleTake i f).modCircuit i (·.enterStoppedAtEnd)
  else if (s.circuit i).breakSeen then (s.settleTake i f).modCircuit i (·.applyStaged.enterBrokenAtEnd)
  else
    match s.chosen i f with
    | .char ch x u start => s.putChar i f ch x u start
    | .takeEnd =>
      if f.ctx.stopPending then (s.takeEnd i f).modCircuit i (·.enterStoppedAtEnd)
      else ((s.takeEnd i f).headSelect i false false).sendOrIdle i
    | .breakIn =>
      (((s.returnTake i f f.ctx.read).countCircuit i .breakIns 1).headSelect i true f.ctx.stopPending).sendOrIdle i

/-- A character-time end in IDENTIFYING: FIGS, WRU, LTRS, and then the window opens and the line holds MARK (R123). -/
def Circuit.identifyingEnd (c : Circuit) : Circuit :=
  match c.requestStep with
  | 0 => { c with requestStep := 1, slot := .char .figs }
  | 1 => { c with requestStep := 2, slot := .char .wru }
  | 2 => { c with requestStep := 3, slot := .char .ltrs }
  | 3 =>
    { c with
      requestStep := 4, slot := .mark, buffer := [], tracked := .letters, receiving := none
      window := some { ticks := 0, limit := c.active.abWindow, expected := c.active.abExpected } }
  | _ => { c with slot := .mark }

/-- What a circuit does at a character-time end, by its state. -/
def State.characterEnd (s : State) (i : CircuitId) : State :=
  match (s.circuit i).state with
  | .stopped => s.modCircuit i (·.stopModeAtEnd)
  | .faulted => s.modCircuit i (·.stopModeAtEnd)
  | .broken => s.modCircuit i (·.levelAtEnd .mark)
  | .identifying => s.modCircuit i (·.identifyingEnd)
  | .ready =>
    if (s.circuit i).queue.isEmpty then s.modCircuit i (·.idleAtEnd)
    else (s.headSelect i false false).sendOrIdle i
  | .sending =>
    match (s.circuit i).flight with
    | some f => s.sendingEnd i f
    | none => s.modCircuit i (·.endAbandoned)

/-- A character-time end of a circuit whose pacer runs; a circuit whose pacer is stopped has none (R143, R144). -/
def State.characterTimeEnd (s : State) (i : CircuitId) : State :=
  if (s.circuit i).pacer.running then (s.characterEnd i).modCircuit i (·.relatchPacer) else s

/-! ### Desk orders (R118 to R122) -/

/-- START (R118). -/
def Circuit.start (c : Circuit) : Circuit :=
  match c.state with
  | .stopped => c.intoService
  | .faulted => c.intoService
  | .identifying | .ready | .sending | .broken => c

/-- STOP NOW (R119): at once, or at the character-time end when SENDING. -/
def Circuit.stop (c : Circuit) : Circuit :=
  match c.state with
  | .stopped => c
  | .sending => { c with stopNow := true }
  | .identifying | .ready | .broken | .faulted => c.enterStopped

/-- STOP AT TAKE END (R120): stop-pending in a SENDING context, and STOP NOW in every other state. A SENDING circuit
whose take was abandoned has no context to set it in (log 20). -/
def Circuit.stopAtEnd (c : Circuit) : Circuit :=
  match c.state with
  | .sending =>
    { c with flight := c.flight.map fun f => { f with ctx := { f.ctx with stopPending := true } } }
  | .stopped | .identifying | .ready | .broken | .faulted => c.stop

/-- OPEN and CLOSE (R122). -/
def Circuit.setAccepting (c : Circuit) (b : Bool) : Circuit := { c with active := { c.active with accepting := b } }

/-! ### Receiver break and restore (R127 to R130) -/

/-- Whether the circuit measures spacing (R127). -/
def CircuitState.watchesBreak : CircuitState → Bool
  | .identifying => true
  | .ready => true
  | .sending => true
  | .stopped => false
  | .broken => false
  | .faulted => false

/-- Whether the present spacing run has reached the break detect time (R127). -/
def Circuit.breakDue (c : Circuit) : Bool :=
  c.state.watchesBreak && (match c.spacing with | some n => decide (c.active.breakDetect ≤ n) | none => false)

/-- The circuit's side of a detected break (R128). -/
def Circuit.broken (c : Circuit) : Circuit :=
  match c.state with
  | .sending => { c with breakSeen := true, spacing := none }
  | .identifying | .ready | .stopped | .broken | .faulted => c.enterBroken

/-- A receiver break detected: RECEIVER BREAK is recorded and counted, and the circuit acts by its state (R128). -/
def State.detectBreak (s : State) (i : CircuitId) : State :=
  ((s.recordFault (circuitSource i) .receiverBreak).countCircuit i .receiverBreaks 1).modCircuit i (·.broken)

/-- Whether the present marking run of a BROKEN circuit has reached the restore time (R129). -/
def Circuit.restoreDue (c : Circuit) : Bool :=
  decide (c.state = .broken) && (match c.marking with | some n => decide (c.active.restoreTime ≤ n) | none => false)

/-- A character started at an edge under the timing of a form; its half-bit sample, P + 1 cycles after the edge, is taken
at the tick by which they have gone by (R146, log 22). -/
def Form.startReception (f : Form) : Reception :=
  { period := f.period, charLen := f.stop.charLen, sampleIn := ((f.period + 1) * 5 + 9215) / 9216 }

/-- A change of level on the return line ends the present run and starts a new one (R127, R129); a mark-to-space edge in
an open window starts a character under the active timing when the receiver hunts (R123, R146). -/
def Circuit.levelChange (c : Circuit) : Circuit :=
  { c with
    returnMark := !c.returnMark
    spacing := if c.returnMark && c.state.watchesBreak then some 0 else none
    marking := if !c.returnMark && decide (c.state = .broken) then some 0 else none
    receiving :=
      if c.returnMark && c.window.isSome && c.receiving.isNone then some c.active.form.startReception
      else c.receiving }

/-! ### Answer-back (R93, R124, R125) -/

/-- Whether a buffer agrees with the expected answer-back, character by character (R125). -/
def answerAgrees (buffer : List RxChar) (expected : List Byte) : Bool := buffer == expected.map RxChar.printed

/-- A decoded character of the open window (R124, R125): shifts set the tracked case, some are ignored, the others are
appended, and the nth decides between READY and FAULTED. DESIGN CHOICE (log 21): with an empty expected answer-back no
character is the nth, and each is appended past the bound of n that R124 states. -/
def State.answerback (s : State) (i : CircuitId) (w : Window) (code : Code5) : State :=
  let s1 := s.modCircuit i fun c => { c with receiving := none }
  match decodeReturn (s.circuit i).tracked code with
  | .shift k => s1.modCircuit i fun c => { c with tracked := k }
  | .ignored => s1
  | .collect ch =>
    let s2 := s1.modCircuit i fun c => { c with buffer := c.buffer ++ [ch] }
    if (s2.circuit i).buffer.length = w.expected.length then
      if answerAgrees (s2.circuit i).buffer w.expected then s2.modCircuit i (·.identified)
      else (s2.recordFault (circuitSource i) .wrongAnswerback).modCircuit i (·.enterFaulted)
    else s2

/-- Whether the answer-back window has expired short (R125). -/
def Circuit.windowExpired (c : Circuit) : Bool :=
  match c.window with
  | some w => decide (w.limit ≤ w.ticks) && decide (c.buffer.length < w.expected.length)
  | none => false

/-! ### Copy restart (R140) -/

/-- A circuit at copy restart: its queue is empty and a SENDING circuit abandons its take at the character on the line;
its slots are handed on (R79, R112, R140). -/
def Circuit.copyRestart (c : Circuit) : Circuit :=
  let c1 : Circuit :=
    match c.flight with
    | some f => c.count .slotsSent f.ctx.slots
    | none => c
  { c1 with queue := [], backlog := 0, flight := none, abandoned := decide (c.state = .sending) }

end Sys2Proof.Machine
end

