-- ==== Sys2Proof/Machine/Router.lean ====
section
/-! DEFINITION. The Router (03_routing_stories_corrections_and_kills.md): lookup and adjusted priority, the story index,
fan-out, corrections, kills, the end of routing, and take spikes. -/

namespace Sys2Proof.Machine

open Sys2Proof

/-! ### Lookup and adjusted priority (R43 to R45) -/

/-- The default category `*` (R43). -/
abbrev defaultCategory : Fin 27 := 26

/-- The index of the routing entry of a link and category: link × 27 + category (R43). -/
def routeIndex (l : LinkId) (c : Fin 27) : Fin 216 := ⟨l.val * 27 + c.val, by omega⟩

/-- The routing entry of a take: that of its category when enabled, else that of the default category when enabled,
else none (R44). -/
def State.lookup (s : State) (l : LinkId) (c : Fin 27) : Option RouteEntry :=
  if s.routes[routeIndex l c].enabled then some s.routes[routeIndex l c]
  else if s.routes[routeIndex l defaultCategory].enabled then some s.routes[routeIndex l defaultCategory]
  else none

/-- The adjusted priority: the sum limited to 1 to 5, where 1 stands only for a take received as 1 (R45). -/
def adjustedPriority (received : Priority) (adjust : Int) : Priority :=
  if received = .flash then .ofNum (received.num + adjust).toNat
  else .ofNum (max 2 (received.num + adjust).toNat)

/-- A kill's priority: 2 when it is above 2 (R58, R59). -/
def killPriority (p : Priority) : Priority := if 2 < p.num then .bulletin else p

/-! ### The story index (R47 to R50) -/

/-- What the story lookup of a take met (R48, R49). -/
inductive StoryCase where
  | active | killed | fresh | unindexed
deriving DecidableEq, Repr

/-- The key of a take's story. -/
def Take.key (t : Take) : StoryKey := { link := t.link, slug := t.slug }

/-- The entry of a key. -/
def State.story? (s : State) (k : StoryKey) : Option Story := s.stories.find? (fun e => e.key == k)

/-- A touched entry returns to the most recent end of the recency order (R47). -/
def State.touchStory (s : State) (e : Story) : State :=
  { s with stories := e :: s.stories.filter (fun x => x.key != e.key) }

/-- The index without the least recently touched entry of queued count 0; `none` where every entry is in use by a take
(R49). The most recent entry stands first. -/
def evictStory (es : List Story) : Option (List Story) :=
  match es.reverse.findIdx? (fun e => e.queued == 0) with
  | some n => some (es.eraseIdx (es.length - 1 - n))
  | none => none

/-- The entry created for a take's story: KILLED for a kill, else ACTIVE (R48). -/
def Take.newStory (t : Take) : Story :=
  { key := t.key, state := if t.disp = .kill then .killed else .active, sent := 0, queued := 0 }

/-- Step 2 of routing: the story entry is touched, created, created in the place of an evicted one, or cannot be had
(R48, R49); the take record carries the entry or the unindexed mark. -/
def State.indexStory (s : State) (h : Nat) (t : Take) : State × StoryCase :=
  match s.story? t.key with
  | some e =>
    ((s.touchStory e).modTake h fun u => { u with story := some t.key },
      if e.state = .killed then .killed else .active)
  | none =>
    match if s.stories.length < Config.storyEntries then some s.stories else evictStory s.stories with
    | some es =>
      (({ s with stories := t.newStory :: es } : State).modTake h fun u => { u with story := some t.key }, .fresh)
    | none => (s.modTake h fun u => { u with unindexed := true }, .unindexed)

/-! ### Fan-out (R46) -/

/-- A take inserted at a priority on each circuit of a list, in order. -/
def State.insertAll (s : State) (h : Nat) (p : Priority) (is : List CircuitId) : State :=
  is.foldl (fun s i => s.insert i h p) s

/-- The open circuits of a set in order of number (R46). -/
def State.openMembers (s : State) (set : CircuitSet) : List CircuitId :=
  (CircuitSet.members set).filter fun i => (s.circuit i).active.accepting

/-- Fan-out of a take to the open circuits of a set (R46). -/
def State.fanOut (s : State) (h : Nat) (p : Priority) (set : CircuitSet) : State := s.insertAll h p (s.openMembers set)

/-! ### Corrections (R53 to R55) -/

/-- Whether a queue entry matches a correction: its take has the correction's link, slug and part number and is no kill,
and it is not resumed (R53). -/
def State.matchesCorrection (s : State) (t : Take) (e : Entry) : Bool :=
  match s.take? e.handle with
  | some u => u.link == t.link && u.slug == t.slug && u.part == t.part && u.disp != .kill && e.resume.isNone
  | none => false

/-- The matches behind a place of a circuit's queue removed, from head to tail (R53, R73; log 33). -/
def State.removeBehind (s : State) (i : CircuitId) (n : Nat) (p : Entry → Bool) : State :=
  (s.modCircuit i fun c =>
    { c with
      queue := c.queue.take (n + 1) ++ (c.queue.drop (n + 1)).filter (fun e => !p e)
      backlog := c.backlog - queueSum ((c.queue.drop (n + 1)).filter p) }).dropRefs
    (((s.circuit i).queue.drop (n + 1)).filter p)

/-- A correction on one circuit: extra matches removed, then the match nearest the head replaced in place when the
priorities agree, or removed and the correction inserted at its own priority (R53 to R55). -/
def State.correctOn (s : State) (h : Nat) (t : Take) (p : Priority) (i : CircuitId) : State :=
  match (s.circuit i).queue.findIdx? (s.matchesCorrection t) with
  | none => s
  | some n =>
    let s1 := s.removeBehind i n (s.matchesCorrection t)
    if ((s.circuit i).queue[n]?).map (·.prio) = some p then s1.replaceAt i n h t
    else (s1.removeAt i n).insert i h p

/-- The circuits whose queue holds a match. -/
def State.matched (s : State) (t : Take) : List CircuitId :=
  allCircuits.filter fun i => (s.circuit i).queue.any (s.matchesCorrection t)

/-- A correction: the queue search on OC0 to OC15, then fan-out to the open routed circuits without a match
(R53 to R55). -/
def State.correct (s : State) (h : Nat) (t : Take) (p : Priority) (set : CircuitSet) : State :=
  ((s.matched t).foldl (fun s i => s.correctOn h t p i) s).insertAll h p
    ((s.openMembers set).filter fun i => !(s.matched t).contains i)

/-! ### Kills (R56 to R59) -/

/-- Whether a take named by a handle belongs to a story. -/
def State.ofStory (s : State) (k : StoryKey) (h : Nat) : Bool :=
  match s.take? h with
  | some u => u.key == k
  | none => false

/-- The purge: every queued entry of the story removed, OC0 to OC15 (R56), on each circuit from head to tail (log 33). -/
def State.purge (s : State) (k : StoryKey) : State :=
  allCircuits.foldl (fun s i => s.removeEntries i fun e => s.ofStory k e.handle) s

/-- The circuits with a take of the story in flight (R57). -/
def State.inFlightOf (s : State) (k : StoryKey) : List CircuitId :=
  allCircuits.filter fun i =>
    match (s.circuit i).flight with
    | some f => s.ofStory k f.entry.handle
    | none => false

/-- The cut orders of a kill: each circuit with a take of the story in flight is given one and joins the sent set
(R57). -/
def State.cutStory (s : State) (k : StoryKey) : State :=
  (s.inFlightOf k).foldl
    (fun s i =>
      match (s.circuit i).flight with
      | some f => (s.cutOrder i f.entry.handle).modStory k fun e => { e with sent := CircuitSet.add e.sent i }
      | none => s) s

/-- The sent set of a story's entry. -/
def State.sentSet (s : State) (k : StoryKey) : CircuitSet := ((s.story? k).map (·.sent)).getD 0

/-- A kill queued on the circuits of its story's sent set, open or closed (R58). -/
def State.queueKill (s : State) (h : Nat) (p : Priority) (k : StoryKey) : State :=
  s.insertAll h p (CircuitSet.members (s.sentSet k))

/-- The disposition handling of a kill (R56 to R59). -/
def State.handleKill (s : State) (h : Nat) (t : Take) (p : Priority) (set : CircuitSet) (c : StoryCase) : State :=
  let s1 := match c with
    | .active => (s.purge t.key).cutStory t.key
    | .killed | .fresh | .unindexed => s
  let s2 := s1.modTake h fun u => { u with adjusted := some (killPriority p) }
  match c with
  | .active => (s2.queueKill h (killPriority p) t.key).modStory t.key fun e => { e with state := .killed }
  | .killed => s2.queueKill h (killPriority p) t.key
  | .fresh => s2.fanOut h (killPriority p) set
  | .unindexed => s2.fanOut h (killPriority p) set

/-! ### Routing (R42) -/

/-- Whether a take is discarded because its story is KILLED (R52, R53). -/
def discardedAfterKill (d : Disposition) (c : StoryCase) : Bool := d != .kill && c == .killed

/-- Step 3: the disposition handling (R52 to R59). -/
def State.disposition (s : State) (h : Nat) (t : Take) (p : Priority) (set : CircuitSet) (c : StoryCase) : State :=
  match t.disp with
  | .normal => if c = .killed then s else s.fanOut h p set
  | .correction => if c = .killed then s else s.correct h t p set
  | .kill => s.handleKill h t p set c

/-- Step 4, the end of routing: a take without a reference is freed and counted as after-kill or unrouted; one that
stays READY raises its story's queued count (R39, R50). -/
def State.endRouting (s : State) (h : Nat) (afterKill : Bool) : State :=
  match s.take? h with
  | none => s
  | some t =>
    if t.refs = 0 then (s.freeTake h).countLink t.link (if afterKill then .afterKill else .unrouted) 1
    else
      match t.story with
      | some k => s.modStory k fun e => { e with queued := e.queued + 1 }
      | none => s

/-- The Router's handling of a READY take, one event (R42). -/
def State.route (s : State) (h : Nat) : State :=
  match s.take? h with
  | none => s
  | some t =>
    let entry := s.lookup t.link t.category
    let p := adjustedPriority t.prio ((entry.map (·.adjust)).getD 0)
    let r := (s.modTake h fun u => { u with adjusted := some p }).indexStory h t
    (r.1.disposition h t p ((entry.map (·.circuits)).getD 0) r.2).endRouting h (discardedAfterKill t.disp r.2)

/-! ### Take spikes (R40, R60) -/

/-- Whether the search by link and serial finds a FILLING take (R40). -/
def State.spikeWaits (s : State) (l : LinkId) (serial : Nat) : Bool := !(s.findTakes .filling l serial).isEmpty

/-- The handles of the READY takes of a link and serial, in handle order (R40). -/
def State.readyTakes (s : State) (l : LinkId) (serial : Nat) : List Nat := s.findTakes .ready l serial

/-- One READY take spiked: its entries removed from every queue, then a cut order to every circuit that has it in flight
(R60). -/
def State.spike (s : State) (h : Nat) : State :=
  allCircuits.foldl (fun s i => s.cutOrder i h)
    (allCircuits.foldl (fun s i => s.removeEntries i fun e => e.handle == h) s)

/-- Every take of a list of handles spiked, in order. -/
def State.spikeAll (s : State) (hs : List Nat) : State := hs.foldl State.spike s

end Sys2Proof.Machine
end

