-- ==== Sys2Proof/Machine/Links.lean ====
section
/-! DEFINITION. The link receivers' side of accepted, discarded and abandoned frames, link control, silence and hold
(R12, R13, R16 to R23). -/

namespace Sys2Proof.Machine

open Sys2Proof

/-! ### Accepting and discarding a take (R13, R16, R35, R36) -/

/-- The FILLING record made READY and stamped (R35). -/
def State.stampReady (s : State) (h : Nat) : State :=
  s.modTake h fun t =>
    { t with state := .ready, readyTime := some s.ms, readyClock := some (s.clock.hours, s.clock.minutes), refs := 0 }

/-- A serial joins a recent-serial set as its newest member; the oldest of more than 16 leaves (R16). -/
def joinRecent (recent : List Nat) (serial : Nat) : List Nat :=
  let moved := recent.filter (· != serial) ++ [serial]
  moved.drop (moved.length - Config.recentSerials)

/-- How far a serial lies ahead of the expected one, modulo 10000 (R16). -/
def serialDistance (serial expected : Nat) : Nat := (serial + 10000 - expected) % 10000

/-- The serial tests against the expected serial (R16). -/
def State.testSerial (s : State) (l : LinkId) (serial : Nat) : State :=
  match (s.link l).expected with
  | none => s
  | some e =>
    if serialDistance serial e = 0 then s
    else if serialDistance serial e ≤ 4999 then
      (s.recordFault (linkSource l) .serialGap).countLink l .serialGap (serialDistance serial e)
    else s.recordFault (linkSource l) .serialRestart

/-- Serial tracking: the tests, then the expected serial and the recent-serial set (R16). -/
def State.trackSerial (s : State) (l : LinkId) (serial : Nat) : State :=
  (s.testSerial l serial).modLink l fun k =>
    { k with expected := some ((serial + 1) % 10000), recent := joinRecent k.recent serial }

/-- A take accepted: READY and stamped, serial tracking, takes accepted, and then the Router (R13). -/
def State.accept (s : State) (l : LinkId) (h : Nat) : State :=
  match s.take? h with
  | none => s
  | some t => (((s.stampReady h).trackSerial l t.serial).countLink l .takesAccepted 1).route h

/-- A FILLING take discarded: its waiting request is withdrawn before its segments return (R36). -/
def State.discard (s : State) (l : LinkId) (h : Nat) : State := (s.withdraw l).freeTake h

/-- A link put in a state. -/
def State.setRx (s : State) (l : LinkId) (rx : Rx) : State := s.modLink l fun k => { k with rx := rx }

/-! ### Frames ended early (R12, R17) -/

/-- The fate of a copy take whose frame is ended by BEGIN or by silence, by the check failure policy (R17). -/
def State.endCopy (s : State) (l : LinkId) (h : Nat) : State :=
  match (s.link l).profile.policy with
  | .mark => ((s.withdraw l).modTake h fun t => { t with truncated := true, suspect := true }).accept l h
  | .discard => s.discard l h

/-- The frame in progress ended as R17 sets out: ABANDONED is recorded, the link leaves the frame, and a copy take meets
its fate (log 36). -/
def State.abandonFrame (s : State) (l : LinkId) : State :=
  let s1 := (s.recordFault (linkSource l) .abandoned).setRx l .idle
  match (s.link l).rx with
  | .text h _ => s1.endCopy l h
  | .checkCopy h => s1.endCopy l h
  | .disabled | .idle | .header _ | .checkService _ | .discarding _ => s1

/-- Whether a link is between frames, as LINK DISABLE and LINK writes require (R157). -/
def Rx.betweenFrames : Rx → Bool
  | .disabled => true
  | .idle => true
  | .header _ | .text _ _ | .checkCopy _ | .checkService _ | .discarding _ => false

/-! ### Silence and hold (R19, R21) -/

/-- Whether a link's silence timer has reached its limit (R19). -/
def Link.silenceDue (k : Link) : Bool :=
  decide (k.rx ≠ .disabled ∧ k.profile.silenceLimit ≠ 0 ∧ k.profile.silenceLimit * 1000 ≤ k.silenceTicks) && !k.silent

/-- The frame that silence finds in progress is ended (R19). -/
def State.endSilentFrame (s : State) (l : LinkId) : State :=
  match (s.link l).rx with
  | .header _ => s.abandonFrame l
  | .text _ _ => s.abandonFrame l
  | .checkCopy _ => s.abandonFrame l
  | .checkService _ => s.abandonFrame l
  | .discarding _ => s.setRx l .idle
  | .disabled | .idle => s

/-- SILENT set and fault SILENT recorded (R19). -/
def State.setSilent (s : State) (l : LinkId) : State :=
  (s.modLink l fun k => { k with silent := true }).recordFault (linkSource l) .silent

/-- Whether a link's asserted hold has lasted its limit (R21). -/
def Link.holdDue (k : Link) : Bool := k.hold && decide (k.profile.holdLimit ≤ k.holdTicks)

/-- Hold expiry: the line drops, the hold-spent mark is set, HOLD EXPIRED is recorded and counted (R21). -/
def State.expireHold (s : State) (l : LinkId) : State :=
  (((s.modLink l fun k => { k with holdSpent := true }).refreshHold l).recordFault (linkSource l) .holdExpired).countLink l
    .holdExpiries 1

/-! ### Link control (R22, R23) -/

/-- LINK ENABLE (R22). -/
def State.enableLink (s : State) (l : LinkId) : State :=
  if (s.link l).rx = .disabled then
    (s.modLink l fun k => { k with rx := .idle, fifo := [], silenceTicks := 0 }).refreshHold l
  else s

/-- LINK DISABLE, executed only while the link is IDLE or DISABLED (R22). -/
def State.disableLink (s : State) (l : LinkId) : State :=
  if (s.link l).rx = .disabled then s
  else (s.modLink l fun k => { k with rx := .disabled, fifo := [], silent := false }).refreshHold l

/-- The frame in progress discarded without a fault, a FILLING take among it (R23). -/
def State.dropFrame (s : State) (l : LinkId) : State :=
  match (s.link l).rx with
  | .text h _ => s.discard l h
  | .checkCopy h => s.discard l h
  | .disabled | .idle | .header _ | .checkService _ | .discarding _ => s.withdraw l

/-- The FIFO that LINK RESET leaves (R4, R23): of a link that waits, the waiting byte and those behind it, which are then
drained from IDLE; of any other, nothing (log 31). -/
def State.resetFifo (s : State) (l : LinkId) : List Byte :=
  match (s.link l).rx with
  | .text _ _ => if s.waits l then (s.link l).fifo else []
  | .disabled | .idle | .header _ | .checkCopy _ | .checkService _ | .discarding _ => []

/-- LINK RESET in the order R23 lists (log 31). The bytes of a link that waited drain from IDLE at the close of the step
(R4, log 3), and so empty the FIFO. -/
def State.resetLink (s : State) (l : LinkId) : State :=
  let s1 := s.dropFrame l
  (s1.modLink l fun k =>
    { k with
      rx := if k.rx = .disabled then .disabled else .idle
      fifo := s.resetFifo l, expected := none, recent := [], holdSpent := k.holdSpent || s1.store.low, silent := false
      silenceTicks := 0 }).refreshHold l

/-! ### Copy restart (R2, R41) -/

/-- A link at copy restart (R2, R20): the store being out of LOW, hold falls and the hold-spent mark clears. -/
def Link.copyRestart (k : Link) : Link :=
  ({ k with
      rx := if k.rx = .disabled then .disabled else .idle
      fifo := [], expected := none, recent := [], holdSpent := false } : Link).refreshHold false

/-- The store at copy restart (R41). -/
def Store.copyRestart (st : Store) : Store :=
  { st with free := Config.segments, low := false, waiting := [], takes := [] }

/-- The block effects of a copy restart, all together (R170). -/
def State.emptyCopy (s : State) : State :=
  { s with
    links := s.links.map Link.copyRestart
    store := s.store.copyRestart
    stories := []
    circuits := s.circuits.map Circuit.copyRestart }

end Sys2Proof.Machine
end

