-- ==== Sys2Proof/Machine/Tables.lean ====
section
/-! DEFINITION. The six tables of TABLE READ and TABLE WRITE (R1, R25, R43, R83 to R85, R126, R147 to R150, R161 to R164)
with the field numbers and forms of R185. -/

namespace Sys2Proof.Machine

open Sys2Proof

/-- The six tables by code (R184). -/
inductive Table where
  | route | circuit | link | subst | store | service
deriving DecidableEq, Repr

/-- The table a code names; any other code is BAD TABLE (R184). -/
def Table.ofCode (b : Byte) : Option Table :=
  if b = 0x01 then some .route
  else if b = 0x02 then some .circuit
  else if b = 0x03 then some .link
  else if b = 0x04 then some .subst
  else if b = 0x05 then some .store
  else if b = 0x06 then some .service
  else none

/-- The number of entries of a table (R161). -/
def Table.entries : Table → Nat
  | .route => 216
  | .circuit => 16
  | .link => 8
  | .subst => 32
  | .store => 1
  | .service => 1

/-- The circuit of a number below 16. -/
def circuitOf (n : Nat) : CircuitId := Fin.ofNat 16 n

/-- The link of a number below 8. -/
def linkOf (n : Nat) : LinkId := Fin.ofNat 8 n

/-! ### Reading (R150, R162) -/

/-- A ROUTE field (R185). -/
def RouteEntry.readField (e : RouteEntry) (f : Byte) : Option (List Byte) :=
  if f = 0x01 then some (sw e.enabled)
  else if f = 0x02 then some (num2 e.circuits.toNat)
  else if f = 0x03 then some (sgn1 e.adjust)
  else none

/-- Whether any staged value is present: the staging summary (R150). -/
def Staged.any (g : Staged) : Bool := decide (g ≠ .absent)

/-- The class of a bell or stale-limit field from the field number of class 1 (R185). -/
def classField (first f : Byte) : Option Priority :=
  if f = first then some .flash
  else if f = first + 1 then some .bulletin
  else if f = first + 2 then some .urgent
  else if f = first + 3 then some .routine
  else if f = first + 4 then some .deferred
  else none

/-- A staged CIRCUIT field: its active value and whether a staged value is present (R150, R185). -/
def Circuit.readForm (c : Circuit) (f : Byte) : Option (List Byte × Bool) :=
  if f = 0x01 then some (num2 c.active.form.period, c.staged.period.isSome)
  else if f = 0x02 then some (codeOf stopCodes c.active.form.stop, c.staged.stop.isSome)
  else if f = 0x03 then some (num1 c.active.form.width, c.staged.width.isSome)
  else if f = 0x04 then some (num1 c.active.form.nCR, c.staged.nCR.isSome)
  else if f = 0x05 then some (num1 c.active.form.nLF, c.staged.nLF.isSome)
  else if f = 0x06 then some (sw c.active.form.reassert, c.staged.reassert.isSome)
  else if f = 0x07 then some (sw c.active.form.unshift, c.staged.unshift.isSome)
  else if f = 0x08 then some (sw c.active.form.spacing, c.staged.spacing.isSome)
  else (classField 0x09 f).map fun p => (num1 (c.active.form.bells.get p), (c.staged.bells.get p).isSome)

/-- A CIRCUIT field that applies at once, or a read-only one (R150, R185). -/
def Circuit.readPlain (c : Circuit) (f : Byte) : Option (List Byte) :=
  if f = 0x0E then some (codeOf stopModeCodes c.active.stopMode)
  else if f = 0x0F then some (codeOf idleModeCodes c.active.idleMode)
  else if f = 0x10 then some (sw c.active.accepting)
  else if f = 0x11 then some (sw c.active.abCheck)
  else if f = 0x12 then some (str c.active.abExpected)
  else if f = 0x13 then some (num2 c.active.abWindow)
  else if f = 0x14 then some (num2 c.active.breakDetect)
  else if f = 0x15 then some (num2 c.active.restoreTime)
  else if f = 0x16 then some (codeOf breakInCodes c.active.breakInLevel)
  else if f = 0x17 then some (num2 c.active.breakInWait)
  else if f = 0x18 then some (num1 c.active.depth)
  else if f = 0x19 then some (num2 c.active.shed)
  else if f = 0x20 then some [c.state.code]
  else if f = 0x21 then some (sw c.staged.any)
  else (classField 0x1A f).map fun p => num2 (c.active.stale.get p)

/-- A CIRCUIT field with its pending switch, clear for a field that is never staged (R150, log 14). -/
def Circuit.readField (c : Circuit) (f : Byte) : Option (List Byte) :=
  match c.readForm f with
  | some (v, pending) => some (v ++ sw pending)
  | none => (c.readPlain f).map (· ++ sw false)

/-- A LINK field (R185). -/
def Link.readField (k : Link) (f : Byte) : Option (List Byte) :=
  if f = 0x01 then some (sw (decide (k.rx ≠ .disabled)))
  else if f = 0x02 then some (codeOf rateCodes k.profile.rate)
  else if f = 0x03 then some (sw k.profile.check)
  else if f = 0x04 then some [k.profile.poly]
  else if f = 0x05 then some [k.profile.init]
  else if f = 0x06 then some (codeOf policyCodes k.profile.policy)
  else if f = 0x07 then some (sw k.profile.holdCapable)
  else if f = 0x08 then some (num2 k.profile.holdLimit)
  else if f = 0x09 then some (sw k.profile.servicePermitted)
  else if f = 0x0A then some (str k.profile.tag)
  else if f = 0x0B then some (num2 k.profile.silenceLimit)
  else if f = 0x0C then some (sw k.profile.dupSuppress)
  else if f = 0x20 then some [k.rx.code]
  else if f = 0x21 then some (sw k.silent)
  else if f = 0x22 then some (sw k.hold)
  else none

/-- A SUBST field; 0x00 stands for NONE (R83). -/
def SubstEntry.readField (e : SubstEntry) (f : Byte) : Option (List Byte) :=
  if f = 0x01 then some [e.source.getD 0x00]
  else if f = 0x02 then some (str e.replacement)
  else none

/-- A STORE field (R185). -/
def Store.readField (st : Store) (f : Byte) : Option (List Byte) :=
  if f = 0x01 then some (num2 st.reserve)
  else if f = 0x02 then some (num2 st.lowWater)
  else if f = 0x03 then some (num2 st.highWater)
  else if f = 0x20 then some (num2 st.free)
  else if f = 0x21 then some (sw st.low)
  else none

/-- A SERVICE field (R185). -/
def State.readService (s : State) (f : Byte) : Option (List Byte) :=
  if f = 0x01 then some (num1 s.settings.secondCode)
  else if f = 0x02 then some (sw s.settings.secondOn)
  else if f = 0x03 then some (sw s.settings.generalOn)
  else if f = 0x04 then some (num1 s.settings.retry)
  else if f = 0x05 then some (num1 s.settings.deskLink.val)
  else if f = 0x06 then some (sw s.settings.notices)
  else if f = 0x07 then some (num2 s.settings.watchPeriod)
  else if f = 0x20 then some (num1 s.ownCode)
  else if f = 0x21 then some (num1 s.clock.hours ++ num1 s.clock.minutes ++ num1 s.clock.seconds)
  else none

/-- The value of a field of an entry; `none` is BAD FIELD (R161, R162). The index lies in the table's range. -/
def State.readField (s : State) (t : Table) (n : Nat) (f : Byte) : Option (List Byte) :=
  match t with
  | .route => s.routes[Fin.ofNat 216 n].readField f
  | .circuit => (s.circuit (circuitOf n)).readField f
  | .link => (s.link (linkOf n)).readField f
  | .subst => s.subst[Fin.ofNat 32 n].readField f
  | .store => s.store.readField f
  | .service => s.readService f

/-! ### Writing (R163) -/

/-- The outcome of a write whose address is good (R163): refused as BAD VALUE; or taken, with whether it is staged,
whether it was limited, the value held, and the state after it. -/
inductive Written where
  | refused
  | taken (staged limited : Bool) (held : List Byte) (after : State)

/-- A value in a form that cannot be limited: taken at once, or refused when it was not read. -/
def Written.exact {α : Type} (v : Option α) (form : α → List Byte) (act : α → State) : Written :=
  match v with
  | some x => .taken false false (form x) (act x)
  | none => .refused

/-- A number limited to a range and taken at once; refused when its bytes end short. -/
def Written.number (v : Option Nat) (lo hi : Nat) (form : Nat → List Byte) (act : Nat → State) : Written :=
  match v with
  | some n => .taken false (limit lo hi n).2 (form (limit lo hi n).1) (act (limit lo hi n).1)
  | none => .refused

/-! #### ROUTE (R43) -/

/-- The state with a routing entry changed. -/
def State.modRoute (s : State) (n : Nat) (f : RouteEntry → RouteEntry) : State :=
  { s with routes := s.routes.set (Fin.ofNat 216 n) (f s.routes[Fin.ofNat 216 n]) }

/-- A write of a ROUTE field (R43); `none` is BAD FIELD. -/
def State.writeRoute (s : State) (n : Nat) (f : Byte) (v : List Byte) : Option Written :=
  if f = 0x01 then some (.exact (readSwitch v) sw fun b => s.modRoute n fun e => { e with enabled := b })
  else if f = 0x02 then
    some (.exact (readNum2 v) num2 fun m => s.modRoute n fun e => { e with circuits := BitVec.ofNat 16 m })
  else if f = 0x03 then
    some (match readSgn1 v with
      | some a =>
        .taken false (limitInt (-2) 2 a).2 (sgn1 (limitInt (-2) 2 a).1)
          (s.modRoute n fun e => { e with adjust := (limitInt (-2) 2 a).1 })
      | none => .refused)
  else none

/-! #### CIRCUIT (R126, R145, R147, R148) -/

/-- A write of a staged field (R148): staged while the circuit is SENDING, else active at once. -/
def State.writeForm (s : State) (i : CircuitId) (limited : Bool) (held : List Byte) (stage : Staged → Staged)
    (act : Form → Form) : Written :=
  if (s.circuit i).state = .sending then
    .taken true limited held (s.modCircuit i fun c => { c with staged := stage c.staged })
  else
    .taken false limited held
      (s.modCircuit i fun c => { c with active := { c.active with form := act c.active.form } })

/-- A numeric staged field. -/
def State.writeFormNum (s : State) (i : CircuitId) (v : Option Nat) (lo hi : Nat) (form : Nat → List Byte)
    (stage : Nat → Staged → Staged) (act : Nat → Form → Form) : Written :=
  match v with
  | some n =>
    s.writeForm i (limit lo hi n).2 (form (limit lo hi n).1) (stage (limit lo hi n).1) (act (limit lo hi n).1)
  | none => .refused

/-- A staged switch or choice. -/
def State.writeFormExact {α : Type} (s : State) (i : CircuitId) (v : Option α) (form : α → List Byte)
    (stage : α → Staged → Staged) (act : α → Form → Form) : Written :=
  match v with
  | some x => s.writeForm i false (form x) (stage x) (act x)
  | none => .refused

/-- A write of one of the thirteen staged fields (R148). -/
def State.writeStagedField (s : State) (i : CircuitId) (f : Byte) (v : List Byte) : Option Written :=
  if f = 0x01 then
    some (s.writeFormNum i (readNum2 v) 4607 65535 num2 (fun n g => { g with period := some n })
      (fun n g => { g with period := n }))
  else if f = 0x02 then
    some (s.writeFormExact i (readChoice stopCodes v) (codeOf stopCodes) (fun x g => { g with stop := some x })
      (fun x g => { g with stop := x }))
  else if f = 0x03 then
    some (s.writeFormNum i (readNum1 v) 20 80 num1 (fun n g => { g with width := some n })
      (fun n g => { g with width := n }))
  else if f = 0x04 then
    some (s.writeFormNum i (readNum1 v) 1 2 num1 (fun n g => { g with nCR := some n }) (fun n g => { g with nCR := n }))
  else if f = 0x05 then
    some (s.writeFormNum i (readNum1 v) 1 2 num1 (fun n g => { g with nLF := some n }) (fun n g => { g with nLF := n }))
  else if f = 0x06 then
    some (s.writeFormExact i (readSwitch v) sw (fun b g => { g with reassert := some b })
      (fun b g => { g with reassert := b }))
  else if f = 0x07 then
    some (s.writeFormExact i (readSwitch v) sw (fun b g => { g with unshift := some b })
      (fun b g => { g with unshift := b }))
  else if f = 0x08 then
    some (s.writeFormExact i (readSwitch v) sw (fun b g => { g with spacing := some b })
      (fun b g => { g with spacing := b }))
  else
    (classField 0x09 f).map fun p =>
      s.writeFormNum i (readNum1 v) 0 15 num1 (fun n g => { g with bells := g.bells.set p (some n) })
        (fun n g => { g with bells := g.bells.set p n })

/-- The state with the active profile of a circuit changed. -/
def State.modProfile (s : State) (i : CircuitId) (f : Profile → Profile) : State :=
  s.modCircuit i fun c => { c with active := f c.active }

/-- What a stop mode just written does to a STOPPED or FAULTED circuit (R117, R144): FILL starts a stopped pacer; a level
goes on the line at once when the pacer is stopped, else at the next character-time end. DESIGN CHOICE (log 41): that holds
too where the pacer completes a character time with no character on the line, of which R144 says "at once". -/
def Circuit.showStopMode (c : Circuit) : Circuit :=
  if c.state = .stopped ∨ c.state = .faulted then
    match c.active.stopMode.level with
    | some v => if c.pacer.running then c else { c with slot := v }
    | none => c.startPacer
  else c

/-- A receiver break detected at once by a written break detect time (R127). -/
def State.detectIfDue (s : State) (i : CircuitId) : State := if (s.circuit i).breakDue then s.detectBreak i else s

/-- A line restored at once by a written restore time (R129). -/
def State.restoreIfDue (s : State) (i : CircuitId) : State :=
  if (s.circuit i).restoreDue then s.modCircuit i (·.intoService) else s

/-- A character of an expected answer-back: A to Z, 0 to 9, the eleven figure marks and space (R126). -/
def isAnswerChar (b : Byte) : Bool := isWordChar b || decide (b = byteSpace)

/-- A write of the answer-back check: turning it on while the expected answer-back is empty is refused (R126). -/
def State.writeAbCheck (s : State) (i : CircuitId) (v : List Byte) : Written :=
  match readSwitch v with
  | some b =>
    if b = true ∧ (s.circuit i).active.abExpected = [] then .refused
    else .taken false false (sw b) (s.modProfile i fun p => { p with abCheck := b })
  | none => .refused

/-- A write of the expected answer-back: a longer one, another character, and an empty one while the check is on are
refused (R126). -/
def State.writeAbExpected (s : State) (i : CircuitId) (v : List Byte) : Written :=
  match readString 16 v with
  | some cs =>
    if cs.all isAnswerChar = false ∨ (cs = [] ∧ (s.circuit i).active.abCheck = true) then .refused
    else .taken false false (str cs) (s.modProfile i fun p => { p with abExpected := cs })
  | none => .refused

/-- A write of a CIRCUIT field that applies at once (R147). -/
def State.writePlainField (s : State) (i : CircuitId) (f : Byte) (v : List Byte) : Option Written :=
  if f = 0x0E then
    some (.exact (readChoice stopModeCodes v) (codeOf stopModeCodes) fun m =>
      (s.modProfile i fun p => { p with stopMode := m }).modCircuit i (·.showStopMode))
  else if f = 0x0F then
    some (.exact (readChoice idleModeCodes v) (codeOf idleModeCodes) fun m =>
      s.modProfile i fun p => { p with idleMode := m })
  else if f = 0x10 then some (.exact (readSwitch v) sw fun b => s.modCircuit i (·.setAccepting b))
  else if f = 0x11 then some (s.writeAbCheck i v)
  else if f = 0x12 then some (s.writeAbExpected i v)
  else if f = 0x13 then
    some (.number (readNum2 v) 500 10000 num2 fun n => s.modProfile i fun p => { p with abWindow := n })
  else if f = 0x14 then
    some (.number (readNum2 v) 100 2000 num2 fun n =>
      (s.modProfile i fun p => { p with breakDetect := n }).detectIfDue i)
  else if f = 0x15 then
    some (.number (readNum2 v) 100 10000 num2 fun n =>
      (s.modProfile i fun p => { p with restoreTime := n }).restoreIfDue i)
  else if f = 0x16 then
    some (.exact (readChoice breakInCodes v) (codeOf breakInCodes) fun b =>
      s.modProfile i fun p => { p with breakInLevel := b })
  else if f = 0x17 then
    some (.number (readNum2 v) 0 65535 num2 fun n => s.modProfile i fun p => { p with breakInWait := n })
  else if f = 0x18 then
    some (.number (readNum1 v) 1 64 num1 fun n => s.modProfile i fun p => { p with depth := n })
  else if f = 0x19 then
    some (.number (readNum2 v) 0 3600 num2 fun n => s.modProfile i fun p => { p with shed := n })
  else
    (classField 0x1A f).map fun q =>
      .number (readNum2 v) 0 1440 num2 fun n => s.modProfile i fun p => { p with stale := p.stale.set q n }

/-- A write of a CIRCUIT field; `none` is BAD FIELD. -/
def State.writeCircuit (s : State) (n : Nat) (f : Byte) (v : List Byte) : Option Written :=
  match s.writeStagedField (circuitOf n) f v with
  | some w => some w
  | none => s.writePlainField (circuitOf n) f v

/-! #### LINK (R1, R19 to R22) -/

/-- The state with the profile of a link changed. -/
def State.modLinkProfile (s : State) (l : LinkId) (f : LinkProfile → LinkProfile) : State :=
  s.modLink l fun k => { k with profile := f k.profile }

/-- A link after a write of its silence limit: the timing restarts, and a limit of 0 clears SILENT (R19). -/
def Link.silenceWritten (k : Link) : Link :=
  { k with silenceTicks := 0, silent := k.silent && decide (k.profile.silenceLimit ≠ 0) }

/-- A hold expired at once by a written hold limit (R21). -/
def State.expireHoldIfDue (s : State) (l : LinkId) : State := if (s.link l).holdDue then s.expireHold l else s

/-- An agency tag: exactly two letters A to Z (R1, R185). -/
def readTag (v : List Byte) : Option (List Byte) :=
  match readString 2 v with
  | some cs => if cs.length = 2 ∧ cs.all isLetter = true then some cs else none
  | none => none

/-- A write of a LINK field; `none` is BAD FIELD. -/
def State.writeLink (s : State) (n : Nat) (f : Byte) (v : List Byte) : Option Written :=
  let l := linkOf n
  if f = 0x01 then some (.exact (readSwitch v) sw fun b => if b then s.enableLink l else s.disableLink l)
  else if f = 0x02 then
    some (.exact (readChoice rateCodes v) (codeOf rateCodes) fun r => s.modLinkProfile l fun p => { p with rate := r })
  else if f = 0x03 then some (.exact (readSwitch v) sw fun b => s.modLinkProfile l fun p => { p with check := b })
  else if f = 0x04 then
    some (.exact (readNum1 v) num1 fun m => s.modLinkProfile l fun p => { p with poly := BitVec.ofNat 8 m })
  else if f = 0x05 then
    some (.exact (readNum1 v) num1 fun m => s.modLinkProfile l fun p => { p with init := BitVec.ofNat 8 m })
  else if f = 0x06 then
    some (.exact (readChoice policyCodes v) (codeOf policyCodes) fun c =>
      s.modLinkProfile l fun p => { p with policy := c })
  else if f = 0x07 then
    some (.exact (readSwitch v) sw fun b => (s.modLinkProfile l fun p => { p with holdCapable := b }).refreshHold l)
  else if f = 0x08 then
    some (.number (readNum2 v) 100 60000 num2 fun m =>
      (s.modLinkProfile l fun p => { p with holdLimit := m }).expireHoldIfDue l)
  else if f = 0x09 then
    some (.exact (readSwitch v) sw fun b => s.modLinkProfile l fun p => { p with servicePermitted := b })
  else if f = 0x0A then some (.exact (readTag v) str fun cs => s.modLinkProfile l fun p => { p with tag := cs })
  else if f = 0x0B then
    some (.number (readNum2 v) 0 3600 num2 fun m =>
      (s.modLinkProfile l fun p => { p with silenceLimit := m }).modLink l (·.silenceWritten))
  else if f = 0x0C then
    some (.exact (readSwitch v) sw fun b => s.modLinkProfile l fun p => { p with dupSuppress := b })
  else none

/-! #### SUBST (R84, R85) -/

/-- The state with a substitution entry changed. -/
def State.modSubst (s : State) (n : Nat) (f : SubstEntry → SubstEntry) : State :=
  { s with subst := s.subst.set (Fin.ofNat 32 n) (f s.subst[Fin.ofNat 32 n]) }

/-- Whether an entry other than one holds a source byte (R84). -/
def sourceElsewhere (t : Vector SubstEntry 32) (n : Nat) (b : Byte) : Bool :=
  (List.finRange 32).any fun j => decide (j ≠ Fin.ofNat 32 n) && decide (t[j].source = some b)

/-- A write of a source: NONE, or a non-direct printable byte or a byte 0x80 to 0xFF that no other entry holds (R84). -/
def State.writeSource (s : State) (n : Nat) (v : List Byte) : Written :=
  match v with
  | [] => .refused
  | b :: _ =>
    if b = 0x00 then .taken false false [b] (s.modSubst n fun e => { e with source := none })
    else if (isNonDirectPrintable b || isHigh b) && !sourceElsewhere s.subst n b then
      .taken false false [b] (s.modSubst n fun e => { e with source := some b })
    else .refused

/-- A write of a SUBST field; `none` is BAD FIELD. A replacement holds up to three word characters (R85). -/
def State.writeSubst (s : State) (n : Nat) (f : Byte) (v : List Byte) : Option Written :=
  if f = 0x01 then some (s.writeSource n v)
  else if f = 0x02 then
    some (match readString 3 v with
      | some cs =>
        if cs.all isWordChar then .taken false false (str cs) (s.modSubst n fun e => { e with replacement := cs })
        else .refused
      | none => .refused)
  else none

/-! #### STORE (R25, R26, R29) -/

/-- The order reserve ≤ low water < high water ≤ 1024 (R25). -/
def Store.ordered (st : Store) : Bool :=
  decide (st.reserve ≤ st.lowWater ∧ st.lowWater < st.highWater ∧ st.highWater ≤ Config.segments)

/-- The store with settings just taken: LOW is tested against them, and a lowered reserve runs the arbiter (R25, R26,
R29). -/
def State.storeWritten (s : State) (lowered : Bool) : State :=
  if lowered then s.testLowExit.testLowEntry.runArbiter else s.testLowExit.testLowEntry

/-- A STORE setting limited to its range, then tested against the order (R25); a refused write carries no limited flag. -/
def State.writeSetting (s : State) (v : Option Nat) (lo hi : Nat) (set : Nat → Store → Store) : Written :=
  match v with
  | some n =>
    if (set (limit lo hi n).1 s.store).ordered then
      .taken false (limit lo hi n).2 (num2 (limit lo hi n).1)
        ((s.modStore (set (limit lo hi n).1)).storeWritten
          (decide ((set (limit lo hi n).1 s.store).reserve < s.store.reserve)))
    else .refused
  | none => .refused

/-- A write of a STORE field; `none` is BAD FIELD. -/
def State.writeStore (s : State) (f : Byte) (v : List Byte) : Option Written :=
  if f = 0x01 then some (s.writeSetting (readNum2 v) 0 256 fun n st => { st with reserve := n })
  else if f = 0x02 then some (s.writeSetting (readNum2 v) 0 1023 fun n st => { st with lowWater := n })
  else if f = 0x03 then some (s.writeSetting (readNum2 v) 1 1024 fun n st => { st with highWater := n })
  else none

/-! #### SERVICE (R164, R175) -/

/-- The state with the service settings changed. -/
def State.modSettings (s : State) (f : Settings → Settings) : State := { s with settings := f s.settings }

/-- A written watch period stops the period timer, and starts it afresh when the value is not 0 (R175). -/
def State.setWatchPeriod (s : State) (n : Nat) : State :=
  { s.modSettings (fun g => { g with watchPeriod := n }) with watchTimer := if n = 0 then none else some 0 }

/-- A write of a SERVICE field; `none` is BAD FIELD. -/
def State.writeService (s : State) (f : Byte) (v : List Byte) : Option Written :=
  if f = 0x01 then
    some (.number (readNum1 v) 0 62 num1 fun n => s.modSettings fun g => { g with secondCode := n })
  else if f = 0x02 then some (.exact (readSwitch v) sw fun b => s.modSettings fun g => { g with secondOn := b })
  else if f = 0x03 then some (.exact (readSwitch v) sw fun b => s.modSettings fun g => { g with generalOn := b })
  else if f = 0x04 then some (.number (readNum1 v) 0 255 num1 fun n => s.modSettings fun g => { g with retry := n })
  else if f = 0x05 then
    some (.number (readNum1 v) 0 7 num1 fun n => s.modSettings fun g => { g with deskLink := linkOf n })
  else if f = 0x06 then some (.exact (readSwitch v) sw fun b => s.modSettings fun g => { g with notices := b })
  else if f = 0x07 then some (.number (readNum2 v) 0 3600 num2 s.setWatchPeriod)
  else none

/-- A write of a field of an entry; `none` is BAD FIELD (R161, R163). The index lies in the table's range. -/
def State.writeField (s : State) (t : Table) (n : Nat) (f : Byte) (v : List Byte) : Option Written :=
  match t with
  | .route => s.writeRoute n f v
  | .circuit => s.writeCircuit n f v
  | .link => s.writeLink n f v
  | .subst => s.writeSubst n f v
  | .store => s.writeStore f v
  | .service => s.writeService f v

/-- Whether a write waits for its link to be between frames (R157). -/
def State.writeWaits (s : State) (t : Table) (n : Nat) : Bool :=
  decide (t = .link) && !(s.link (linkOf n)).rx.betweenFrames

end Sys2Proof.Machine
end

