-- ==== Sys2Proof/Machine/Supervision.lean ====
section
/-! DEFINITION. Supervision (10_watch_list_faults_and_notices.md): watch points, their values and clearing, the watch
report and the reading of the fault summary. -/

namespace Sys2Proof.Machine

open Sys2Proof

/-! ### Watch points (R172) -/

/-- The counter of a LINK counter id. -/
def linkPoint (id : Byte) : Option LinkPoint :=
  [LinkPoint.takesAccepted, .checkFailures, .formatFaults, .duplicates, .serialGap, .charsLost, .holdExpiries,
    .afterKill, .ignored, .stray, .serviceRefused, .unrouted][id.toNat - 1]?.filter fun _ => decide (id ≠ 0x00)

/-- The counter of a CIRCUIT counter id. -/
def circuitPoint (id : Byte) : Option CircuitPoint :=
  [CircuitPoint.takesSent, .slotsSent, .breakIns, .receiverBreaks, .stale, .displaced, .refusedFull, .shed,
    .unprintable][id.toNat - 1]?.filter fun _ => decide (id ≠ 0x00)

/-- The watch point of a link. -/
def linkWatch (index id : Byte) : Option WatchPoint :=
  if index.toNat < 8 then (linkPoint id).map (.link (linkOf index.toNat)) else none

/-- The watch point of a circuit: queue depth 10, backlog 11, else a counter. -/
def circuitWatch (index id : Byte) : Option WatchPoint :=
  if index.toNat < 16 then
    if id = 0x10 then some (.queueDepth (circuitOf index.toNat))
    else if id = 0x11 then some (.backlog (circuitOf index.toNat))
    else (circuitPoint id).map (.circuit (circuitOf index.toNat))
  else none

/-- The watch point of the store. -/
def storeWatch (index id : Byte) : Option WatchPoint :=
  if index = 0x00 then
    if id = 0x01 then some .freeSegments
    else if id = 0x02 then some .freeRecords
    else if id = 0x03 then some .storiesInUse
    else if id = 0x04 then some .reserveGrants
    else none
  else none

/-- The watch point of the Service Unit. -/
def serviceWatch (index id : Byte) : Option WatchPoint :=
  if index = 0x00 then
    if id = 0x01 then some .requestsDone
    else if id = 0x02 then some .requestsTimedOut
    else none
  else none

/-- The watch point that three bytes name: kind, index, counter id; `none` names nothing (R172, R184). -/
def watchPoint (kind index id : Byte) : Option WatchPoint :=
  if kind = 0x01 then linkWatch index id
  else if kind = 0x02 then circuitWatch index id
  else if kind = 0x03 then storeWatch index id
  else if kind = 0x04 then serviceWatch index id
  else none

/-- The points of a WATCH ENTER: `n` of them read from the bytes; `none` when the bytes end short or a point names
nothing (R173). -/
def readPoints : Nat → List Byte → Option (List WatchPoint)
  | 0, _ => some []
  | n + 1, kind :: index :: id :: rest =>
    match watchPoint kind index id, readPoints n rest with
    | some p, some ps => some (p :: ps)
    | _, _ => none
  | _ + 1, _ => none

/-! ### Values (R171, R172, R174) -/

/-- The present value of a watch point. -/
def State.pointValue (s : State) : WatchPoint → Nat
  | .link l p => ((s.link l).counters.get p).toNat
  | .circuit i p => ((s.circuit i).counters.get p).toNat
  | .queueDepth i => (s.circuit i).queue.length
  | .backlog i => min 65535 (s.circuit i).backlog
  | .freeSegments => s.store.free
  | .freeRecords => s.freeRecords
  | .storiesInUse => s.stories.length
  | .reserveGrants => s.store.reserveGrants.toNat
  | .requestsDone => s.requestsDone.toNat
  | .requestsTimedOut => s.requestsTimedOut.toNat

/-- The counter of a watch point set to 0; a gauge is left as it is. -/
def State.clearPoint (s : State) : WatchPoint → State
  | .link l p => s.modLink l fun k => { k with counters := k.counters.set p 0 }
  | .circuit i p => s.modCircuit i fun c => { c with counters := c.counters.set p 0 }
  | .reserveGrants => s.modStore fun st => { st with reserveGrants := 0 }
  | .requestsDone => { s with requestsDone := 0 }
  | .requestsTimedOut => { s with requestsTimedOut := 0 }
  | .queueDepth _ => s
  | .backlog _ => s
  | .freeSegments => s
  | .freeRecords => s
  | .storiesInUse => s

/-- The count of points of the watch list and their values in list order (R174, R184). -/
def State.watchValues (s : State) : List Byte := num1 s.watch.length ++ s.watch.flatMap fun p => num2 (s.pointValue p)

/-- Every counter that the watch list names set to 0 (R174). -/
def State.clearWatch (s : State) : State := s.watch.foldl State.clearPoint s

/-! ### The watch report (R175) -/

/-- Whether the watch period has expired. -/
def State.reportDue (s : State) : Bool :=
  match s.watchTimer with
  | some n => decide (s.settings.watchPeriod * 1000 ≤ n)
  | none => false

/-- An expiry of the watch period: the timer restarts, and a report goes to the desk link when the list is not empty
(R175). -/
def State.watchReport (s : State) : State :=
  if s.watch.isEmpty then { s with watchTimer := some 0 }
  else { s with watchTimer := some 0 }.notice 0x02 s.watchValues

/-! ### The fault summary (R178) -/

/-- The 26 codes in source order. -/
def State.faultCodes (s : State) : List Byte := s.faults.toList.map faultByte

/-- Every entry set to NONE. -/
def State.clearFaults (s : State) : State := { s with faults := Vector.replicate 26 none }

end Sys2Proof.Machine
end

