-- ==== Sys2Proof/Machine/Service.lean ====
section
/-! DEFINITION. The Service Unit (09_service_requests.md): the request queue, execution of each request kind, results and
replies, time checks and retries. -/

namespace Sys2Proof.Machine

open Sys2Proof

/-- The result codes of a reply (R158). -/
inductive Result where
  | done | staged | unknownRequest | badTable | badIndex | badField | badValue | notFound | noWatchList | timedOut
deriving DecidableEq, Repr

/-- The code of a result (R158). -/
def Result.code : Result → Byte
  | .done => 0x00
  | .staged => 0x01
  | .unknownRequest => 0x02
  | .badTable => 0x03
  | .badIndex => 0x04
  | .badField => 0x05
  | .badValue => 0x06
  | .notFound => 0x07
  | .noWatchList => 0x08
  | .timedOut => 0x09

/-- The outcome of executing a request (R156, R157): it waits, which changes nothing; or it is answered, with the result,
the limited flag, the values and the state after its effect. -/
inductive Performed where
  | waits
  | answered (result : Result) (limited : Bool) (values : List Byte) (after : State)

/-- A request answered with a refusal: no effect, no values, limited flag clear (R158). -/
def State.refuse (s : State) (result : Result) : Performed := .answered result false [] s

/-- A request answered DONE with values. -/
def Performed.ok (values : List Byte) (after : State) : Performed := .answered .done false values after

/-! ### IDENTIFY (R160) -/

/-- The values of IDENTIFY in the order of R184. -/
def State.identity (s : State) : List Byte :=
  [0x08, 0x16, 0x01] ++ num1 s.ownCode ++ num1 s.settings.secondCode ++ sw s.settings.secondOn ++
    sw s.settings.generalOn ++ num2 8 ++ num2 16 ++ num2 1024 ++ num2 512 ++ num2 256 ++ num2 512 ++ num2 32 ++ num2 20

/-! ### TABLE READ and TABLE WRITE (R161 to R163) -/

/-- The address checks of R161 in order: table, then index. -/
def State.withTable (s : State) (table index : Byte) (go : Table → Performed) : Performed :=
  match Table.ofCode table with
  | none => s.refuse .badTable
  | some t => if index.toNat < t.entries then go t else s.refuse .badIndex

/-- TABLE READ of a field (R162). -/
def State.tableRead (s : State) (table index field : Byte) : Performed :=
  s.withTable table index fun t =>
    match s.readField t index.toNat field with
    | some v => .ok v s
    | none => s.refuse .badField

/-- TABLE WRITE of a field: address, value, wait, effect (R163). -/
def State.tableWrite (s : State) (table index field : Byte) (value : List Byte) : Performed :=
  s.withTable table index fun t =>
    match s.writeField t index.toNat field value with
    | none => s.refuse .badField
    | some .refused => s.refuse .badValue
    | some (.taken staged limited held after) =>
      if s.writeWaits t index.toNat then .waits
      else .answered (if staged then .staged else .done) limited held after

/-! ### CIRCUIT CONTROL and LINK CONTROL (R165, R166) -/

/-- An action of CIRCUIT CONTROL done, answered with the circuit state just after it (R165). -/
def State.circuitAct (s : State) (i : CircuitId) (f : State → State) : Performed :=
  .ok [((f s).circuit i).state.code] (f s)

/-- CIRCUIT CONTROL: index, then action (R165, log 15). -/
def State.circuitControl (s : State) (circuit action : Byte) : Performed :=
  let i := circuitOf circuit.toNat
  if 16 ≤ circuit.toNat then s.refuse .badIndex
  else if action = 0x01 then s.circuitAct i (·.modCircuit i Circuit.start)
  else if action = 0x02 then s.circuitAct i (·.modCircuit i Circuit.stop)
  else if action = 0x03 then s.circuitAct i (·.modCircuit i Circuit.stopAtEnd)
  else if action = 0x04 then s.circuitAct i (·.modCircuit i (·.setAccepting true))
  else if action = 0x05 then s.circuitAct i (·.modCircuit i (·.setAccepting false))
  else if action = 0x06 then s.circuitAct i (·.flush i)
  else s.refuse .badValue

/-- An action of LINK CONTROL done, answered with the link state just after it (R166). -/
def State.linkAct (s : State) (l : LinkId) (f : State → State) : Performed := .ok [((f s).link l).rx.code] (f s)

/-- LINK CONTROL: index, then action; DISABLE waits for the link to be between frames (R166, log 15). -/
def State.linkControl (s : State) (link action : Byte) : Performed :=
  let l := linkOf link.toNat
  if 8 ≤ link.toNat then s.refuse .badIndex
  else if action = 0x01 then s.linkAct l (·.enableLink l)
  else if action = 0x02 then if (s.link l).rx.betweenFrames then s.linkAct l (·.disableLink l) else .waits
  else if action = 0x03 then s.linkAct l (·.resetLink l)
  else s.refuse .badValue

/-! ### TAKE SPIKE and QUEUE READ (R78, R167, R168) -/

/-- The number of takes spiked, one byte (R167, R184); past 255 the free value (log 38). -/
def spikeCount (n : Nat) : List Byte := if n < 256 then num1 n else [Config.spikeCountByte n]

/-- TAKE SPIKE (R60, R167; log 15, log 38). -/
def State.takeSpike (s : State) (link : Byte) (serial : Nat) : Performed :=
  if 8 ≤ link.toNat then s.refuse .badIndex
  else if 9999 < serial then s.refuse .badValue
  else if s.spikeWaits (linkOf link.toNat) serial then .waits
  else if (s.readyTakes (linkOf link.toNat) serial).isEmpty then s.refuse .notFound
  else
    .ok (spikeCount (s.readyTakes (linkOf link.toNat) serial).length)
      (s.spikeAll (s.readyTakes (linkOf link.toNat) serial))

/-- The values of the in-flight position (R78, R184). -/
def flightValues (f : Flight) (t : Take) : List Byte :=
  num2 f.entry.handle ++ num1 t.link.val ++ num2 t.serial ++ num1 f.entry.prio.num ++ num2 f.ctx.read.pos ++
    num2 t.length

/-- The values of a queued position (R78, R184). -/
def entryValues (e : Entry) (t : Take) : List Byte :=
  num2 e.handle ++ num1 t.link.val ++ num2 t.serial ++ num1 t.part ++ [t.disp.code] ++ num1 e.prio.num ++
    sw e.resume.isSome ++ num2 (e.resume.getD { pos := 0, off := 0 }).pos ++
    num1 (e.resume.getD { pos := 0, off := 0 }).off ++ num2 e.estimate ++ num1 (t.readyClock.getD (0, 0)).1 ++
    num1 (t.readyClock.getD (0, 0)).2

/-- The values of a position of a circuit's queue, 0 being the take in flight; `none` where there is no such position. -/
def State.queueValues (s : State) (i : CircuitId) (position : Nat) : Option (List Byte) :=
  match position with
  | 0 =>
    match (s.circuit i).flight with
    | some f => (s.take? f.entry.handle).map (flightValues f)
    | none => none
  | n + 1 =>
    match (s.circuit i).queue[n]? with
    | some e => (s.take? e.handle).map (entryValues e)
    | none => none

/-- QUEUE READ (R78, R168). -/
def State.queueRead (s : State) (circuit position : Byte) : Performed :=
  if 16 ≤ circuit.toNat then s.refuse .badIndex
  else
    match s.queueValues (circuitOf circuit.toNat) position.toNat with
    | some v => .ok v s
    | none => s.refuse .notFound

/-! ### WATCH ENTER, WATCH READ, FAULT READ (R173, R174, R178) -/

/-- WATCH ENTER: the count, then the points, the whole list replaced (R173). -/
def State.watchEnter (s : State) (count : Nat) (points : List Byte) : Performed :=
  if Config.watchPoints < count then s.refuse .badValue
  else
    match readPoints count points with
    | some ps => .ok (num1 count) { s with watch := ps }
    | none => s.refuse .badValue

/-- WATCH READ: the flag, then the list, then the values read before any clear (R174). -/
def State.watchRead (s : State) (clear : Byte) : Performed :=
  if ¬(clear = 0x00 ∨ clear = 0x01) then s.refuse .badValue
  else if s.watch.isEmpty then s.refuse .noWatchList
  else .ok s.watchValues (if clear = 0x01 then s.clearWatch else s)

/-- FAULT READ: the 26 codes as read, then every entry NONE (R178). -/
def State.faultRead (s : State) : Performed := .ok s.faultCodes s.clearFaults

/-! ### CLOCK SET and COPY RESTART (R169, R170) -/

/-- CLOCK SET: each value limited, the tick count back to 0 (R169). -/
def State.clockSet (s : State) (h m sec : Nat) : Performed :=
  .answered .done ((limit 0 23 h).2 || (limit 0 59 m).2 || (limit 0 59 sec).2)
    (num1 (limit 0 23 h).1 ++ num1 (limit 0 59 m).1 ++ num1 (limit 0 59 sec).1)
    { s with
      clock :=
        { hours := (limit 0 23 h).1, minutes := (limit 0 59 m).1, seconds := (limit 0 59 sec).1, ticks := 0 } }

/-- COPY RESTART: the blocks emptied, then every reply queue of each frame not yet begun (R170). -/
def State.copyRestart (s : State) : State :=
  { s.emptyCopy with links := s.emptyCopy.links.map fun k => { k with replies := k.replies.take 1 } }

/-! ### Execution (R156) -/

/-- A request executed: its kind, its parameters (bytes beyond those needed are ignored), and its effect (R156). -/
def State.perform (s : State) (kind : Byte) (params : List Byte) : Performed :=
  if kind = 0x01 then .ok s.identity s
  else if kind = 0x02 then
    match params with
    | t :: i :: f :: _ => s.tableRead t i f
    | _ => s.refuse .badValue
  else if kind = 0x03 then
    match params with
    | t :: i :: f :: v => s.tableWrite t i f v
    | _ => s.refuse .badValue
  else if kind = 0x04 then
    match params with
    | c :: a :: _ => s.circuitControl c a
    | _ => s.refuse .badValue
  else if kind = 0x05 then
    match params with
    | l :: a :: _ => s.linkControl l a
    | _ => s.refuse .badValue
  else if kind = 0x06 then
    match params with
    | l :: hi :: lo :: _ => s.takeSpike l (256 * hi.toNat + lo.toNat)
    | _ => s.refuse .badValue
  else if kind = 0x07 then
    match params with
    | c :: p :: _ => s.queueRead c p
    | _ => s.refuse .badValue
  else if kind = 0x08 then
    match params with
    | n :: ps => s.watchEnter n.toNat ps
    | _ => s.refuse .badValue
  else if kind = 0x09 then
    match params with
    | c :: _ => s.watchRead c
    | _ => s.refuse .badValue
  else if kind = 0x0A then s.faultRead
  else if kind = 0x0B then
    match params with
    | h :: m :: sec :: _ => s.clockSet h.toNat m.toNat sec.toNat
    | _ => s.refuse .badValue
  else if kind = 0x0C then .ok [] s.copyRestart
  else s.refuse .unknownRequest

/-! ### Replies (R158, R181) -/

/-- The body of a reply frame (R181). -/
def replyBody (own : Nat) (r : Request) (result : Result) (limited : Bool) (values : List Byte) : List Byte :=
  0x52 :: (hexBytes (num1 own) ++ [MatchCode.digit r.matched] ++ hexBytes [r.kind, r.serial, result.code] ++
    [if limited then 0x31 else 0x30] ++ hexBytes values)

/-- A reply composed and queued on the link that carried its request (R159). -/
def State.reply (s : State) (r : Request) (result : Result) (limited : Bool) (values : List Byte) : State :=
  s.sendBody r.link (replyBody s.ownCode r result limited values)

/-- The head request leaves the queue by execution: its timers stop, it is counted as done, and its reply is queued
(R156, R158). -/
def State.complete (s : State) (r : Request) (result : Result) (limited : Bool) (values : List Byte) : State :=
  ({ s with requests := s.requests.tail, retryTimer := none, requestsDone := satPlus s.requestsDone 1 } : State).reply r
    result limited values

/-- The retry-interval timer started, an interval of 0 running for 1 ms (R157, R164). -/
def State.startRetry (s : State) : State := { s with retryTimer := some { ticks := 0, limit := max 1 s.settings.retry } }

/-- The head of the request queue executed, and then each next one, until one waits or the queue is empty (R156, R157).
The first number bounds the executions: the length of the queue does. DESIGN CHOICE (log 3): links that one request gave
segments drain on after the last of these executions, not between them. -/
def runRequests : Nat → State → State
  | 0, s => s
  | n + 1, s =>
    match s.requests with
    | [] => s
    | r :: _ =>
      match s.perform r.kind r.params with
      | .waits => s.startRetry
      | .answered result limited values after => runRequests n (after.complete r result limited values)

/-- The request queue run from its head. -/
def State.runQueue (s : State) : State := runRequests s.requests.length s

/-- A request handed over: it joins the tail, or meets a queue of 8 and is discarded with REQUEST OVERFLOW; one that
joins an empty queue is executed at once (R154). -/
def State.handOver (s : State) (r : Request) : State :=
  if Config.requestQueue ≤ s.requests.length then s.recordFault serviceSource .requestOverflow
  else if s.requests.isEmpty then ({ s with requests := [r] } : State).runQueue
  else { s with requests := s.requests ++ [r] }

/-! ### Time checks and retries (R155, R157) -/

/-- The limit of a request's time check in ticks; 0 and 1 are taken as 2 (R155). -/
def Request.limit (r : Request) : Nat := max 2 r.timeCheck * 10

/-- Whether the time check of the request at a place of the queue has expired. -/
def State.timeCheckDue (s : State) (n : Nat) : Bool :=
  match s.requests[n]? with
  | some r => decide (r.limit ≤ r.elapsed)
  | none => false

/-- A request withdrawn by its time check and answered TIMED OUT; if it was the head, the next one is executed at once
(R155). -/
def State.timeOut (s : State) (n : Nat) : State :=
  match s.requests[n]? with
  | none => s
  | some r =>
    let s1 : State :=
      { s with requests := s.requests.eraseIdx n, requestsTimedOut := satPlus s.requestsTimedOut 1 }
    if n = 0 then (({ s1 with retryTimer := none } : State).reply r .timedOut false []).runQueue
    else s1.reply r .timedOut false []

/-- Whether the retry interval has expired. -/
def State.retryDue (s : State) : Bool :=
  match s.retryTimer with
  | some t => decide (t.limit ≤ t.ticks)
  | none => false

end Sys2Proof.Machine
end

