-- ==== Sys2Proof/Machine/Reception.lean ====
section
/-! DEFINITION. Reception (01_copy_link_reception.md): a byte drained from a receive FIFO and parsed against the frame in
progress, the draining of all FIFOs, and the arrival of a byte. -/

namespace Sys2Proof.Machine

open Sys2Proof

/-! ### Frames begun and refused (R6, R9, R17) -/

/-- BEGIN starts a frame: the accumulator takes the initial value and the link enters HEADER (R6, R7). -/
def State.beginFrame (s : State) (l : LinkId) : State :=
  s.modLink l fun k => { k with crc := k.profile.init, rx := .header .unclassed }

/-- A misplaced BEGIN: the frame in progress is ended and a new one starts (R17). -/
def State.misplacedBegin (s : State) (l : LinkId) : State := (s.abandonFrame l).beginFrame l

/-- A frame refused: FORMAT is recorded and counted, and the frame goes to DISCARDING (R9). -/
def State.refuseFormat (s : State) (l : LinkId) : State :=
  ((s.recordFault (linkSource l) .format).countLink l .formatFaults 1).setRx l (.discarding false)

/-- END of a frame that nothing is left of: IDLE, or with checking on one more byte in DISCARDING (R9, R18). -/
def State.endDiscarded (s : State) (l : LinkId) : State :=
  s.setRx l (if (s.link l).profile.check then .discarding true else .idle)

/-! ### Station codes (R15) -/

/-- How a station code matches: own, then second, then general call, then not at all. -/
def State.matchStation (s : State) (code : Nat) : Option MatchCode :=
  if code = s.ownCode then some .own
  else if s.settings.secondOn ∧ code = s.settings.secondCode then some .second
  else if s.settings.generalOn ∧ code = 63 then some .general
  else none

/-! ### Copy headers (R8, R10) -/

/-- The header right after the class byte `C`. -/
def CopyHeader.fresh : CopyHeader :=
  { pos := 1, prio := .flash, serial := 0, category := defaultCategory, disp := .normal, part := 0, slug := [] }

/-- A category: letters folded and numbered from 0, anything else the default category (R8, R43). -/
def categoryOf (b : Byte) : Fin 27 := if isLetter (fold b) then Fin.ofNat 27 ((fold b).toNat - 0x41) else defaultCategory

/-- A disposition: `C` and `K` as they stand, anything else normal (R8). -/
def dispositionOf (b : Byte) : Disposition := if b = 0x43 then .correction else if b = 0x4B then .kill else .normal

/-- A slug byte: A to Z, a to z folded, 0 to 9 and `-` (R8). -/
def slugByte (b : Byte) : Option Byte :=
  if isLetter (fold b) || isDigit b || decide (b = 0x2D) then some (fold b) else none

/-- A copy header field parsed and normalised (R8); `none` is a malformed byte (R9). TEXT is not among the bytes. -/
def CopyHeader.field (h : CopyHeader) (b : Byte) : Option CopyHeader :=
  if h.pos = 1 then (decimalValue b).map fun d => { h with pos := 2, prio := .ofNum d }
  else if h.pos ≤ 5 then (decimalValue b).map fun d => { h with pos := h.pos + 1, serial := 10 * h.serial + d }
  else if h.pos = 6 then some { h with pos := 7, category := categoryOf b }
  else if h.pos = 7 then some { h with pos := 8, disp := dispositionOf b }
  else if h.pos = 8 then (decimalValue b).map fun d => { h with pos := 9, part := d }
  else if h.pos = 9 then (decimalValue b).map fun d => { h with pos := 10, part := max 1 (10 * h.part + d) }
  else if h.slug.length < Config.slugChars then
    (slugByte b).map fun c => { h with pos := h.pos + 1, slug := h.slug ++ [c] }
  else some { h with pos := h.pos + 1 }

/-- The FILLING record of a complete copy header (R10, R33). -/
def CopyHeader.take (h : CopyHeader) (l : LinkId) (tag : List Byte) : Take :=
  { state := .filling, link := l, serial := h.serial, prio := h.prio, adjusted := none, disp := h.disp, slug := h.slug,
    part := h.part, tag := tag, category := h.category, length := 0, chain := [], truncated := false, suspect := false,
    unindexed := false, readyTime := none, readyClock := none, refs := 0, story := none }

/-- A copy header complete: the duplicate test, then the take record (R10, R32). -/
def State.completeHeader (s : State) (l : LinkId) (h : CopyHeader) : State :=
  if (s.link l).profile.dupSuppress ∧ (s.link l).recent.contains h.serial then
    (s.countLink l .duplicates 1).setRx l (.discarding false)
  else
    match s.allocate (h.take l (s.link l).profile.tag) with
    | some (n, s1) => s1.setRx l (.text n false)
    | none => (s.recordFault (linkSource l) .noRecord).setRx l (.discarding false)

/-- A byte of a copy header, neither BEGIN nor END (R8, R9). -/
def State.copyHeaderByte (s : State) (l : LinkId) (h : CopyHeader) (b : Byte) : State :=
  if b = byteText then if h.slug.isEmpty then s.refuseFormat l else s.completeHeader l h
  else
    match h.field b with
    | some h' => s.setRx l (.header (.copy h'))
    | none => s.refuseFormat l

/-! ### Service headers (R14) -/

/-- Hexadecimal digits of a service header before its parameters: station, kind, serial and time check. -/
abbrev serviceHeaderDigits : Nat := 10

/-- A hexadecimal digit of a service frame (R14): the station code is matched at its second digit (R15), and a 129th
parameter digit refuses the frame. -/
def State.serviceDigit (s : State) (l : LinkId) (h : ServiceHeader) (d : Nat) : State :=
  let digits := h.digits ++ [d]
  if serviceHeaderDigits + Config.paramDigits < digits.length then s.refuseFormat l
  else
    match digits with
    | [hi, lo] =>
      match s.matchStation (16 * hi + lo) with
      | some m => s.setRx l (.header (.service { matched := some m, digits := digits }))
      | none => s.setRx l (.discarding false)
    | _ => s.setRx l (.header (.service { h with digits := digits }))

/-- A byte of a service header, neither BEGIN nor END (R14). -/
def State.serviceHeaderByte (s : State) (l : LinkId) (h : ServiceHeader) (b : Byte) : State :=
  match hexValue b with
  | some d => s.serviceDigit l h d
  | none => s.refuseFormat l

/-- The request of a service frame at its END; `none` when the header is not complete or a digit is left over (R14). -/
def ServiceHeader.request (h : ServiceHeader) (l : LinkId) : Option Request :=
  match h.matched, pairDigits h.digits with
  | some m, some (_ :: kind :: serial :: hi :: lo :: params) =>
    some { link := l, matched := m, kind := kind, serial := serial, timeCheck := 256 * hi.toNat + lo.toNat,
           params := params, elapsed := 0 }
  | _, _ => none

/-! ### Bytes by link state (R2) -/

/-- The class byte (R8, R14). -/
def State.classByte (s : State) (l : LinkId) (b : Byte) : State :=
  if b = 0x43 then s.setRx l (.header (.copy .fresh))
  else if b = 0x53 then
    if (s.link l).profile.check ∧ (s.link l).profile.servicePermitted then
      s.setRx l (.header (.service { matched := none, digits := [] }))
    else (s.countLink l .serviceRefused 1).setRx l (.discarding false)
  else s.refuseFormat l

/-- END drained in HEADER: a complete service frame awaits its check byte, and any other frame is refused (R14, R18). -/
def State.endInHeader (s : State) (l : LinkId) (h : Header) : State :=
  match h with
  | .service v =>
    match v.request l with
    | some r => s.setRx l (.checkService r)
    | none => (s.refuseFormat l).endDiscarded l
  | .unclassed => (s.refuseFormat l).endDiscarded l
  | .copy _ => (s.refuseFormat l).endDiscarded l

/-- A byte drained in HEADER (R8, R14, R17, R18). -/
def State.headerByte (s : State) (l : LinkId) (h : Header) (b : Byte) : State :=
  if b = byteBegin then s.misplacedBegin l
  else if b = byteEnd then s.endInHeader l h
  else
    match h with
    | .unclassed => s.classByte l b
    | .copy c => s.copyHeaderByte l c b
    | .service v => s.serviceHeaderByte l v b

/-- Whether a text byte is one that R11 stores: printable, the paragraph mark, or a byte 0x80 to 0xFF with an entry in
the substitution table. -/
def State.storable (s : State) (b : Byte) : Bool :=
  decide (0x20 ≤ b.toNat ∧ b.toNat ≤ 0x7E) || decide (b = byteParagraph) || (isHigh b && (substLookup s.subst b).isSome)

/-- END drained in TEXT: the check byte is awaited, or the take is accepted (R12). -/
def State.endText (s : State) (l : LinkId) (h : Nat) : State :=
  if (s.link l).profile.check then s.setRx l (.checkCopy h) else (s.setRx l .idle).accept l h

/-- A take marked truncated and its text closed (R5, R11). -/
def State.closeText (s : State) (l : LinkId) (h : Nat) : State :=
  (s.modTake h fun t => { t with truncated := true }).setRx l (.text h true)

/-- The link's head byte drained. -/
def State.pop (s : State) (l : LinkId) : State := s.modLink l (·.drainHead)

/-- The waiting request of a link for its FILLING take joins the store's (R27, R29). -/
def State.askSegment (s : State) (l : LinkId) (p : Priority) : State :=
  s.modStore fun st => { st with waiting := st.waiting ++ [{ link := l, prio := p }] }

/-- A storable byte at the head of a FIFO (R3, R11, R27): the 4096th character closes the text; the byte goes into the
current segment, into one granted at once, or waits at the head with a request for one. -/
def State.storeByte (s : State) (l : LinkId) (h : Nat) (b : Byte) : State :=
  match s.take? h with
  | none => s.pop l
  | some t =>
    if Config.maxText ≤ t.length then (s.pop l).closeText l h
    else if t.hasRoom then (s.pop l).putTake h (t.append (fold b))
    else if s.store.eligible t.prio then (s.pop l).grantSegment h (fold b)
    else s.askSegment l t.prio

/-- The byte at the head of a FIFO drained in TEXT (R11, R12, R17). -/
def State.textByte (s : State) (l : LinkId) (h : Nat) (closed : Bool) (b : Byte) : State :=
  if b = byteBegin then (s.pop l).misplacedBegin l
  else if b = byteEnd then (s.pop l).endText l h
  else if closed then s.pop l
  else if s.storable b then s.storeByte l h b
  else (s.pop l).countLink l .ignored 1

/-- The check byte of a copy frame (R12). -/
def State.checkCopyByte (s : State) (l : LinkId) (h : Nat) (b : Byte) : State :=
  if b = (s.link l).crc then (s.setRx l .idle).accept l h
  else if b = byteBegin then s.misplacedBegin l
  else
    let s1 := ((s.recordFault (linkSource l) .check).countLink l .checkFailures 1).setRx l .idle
    match (s.link l).profile.policy with
    | .mark => (s1.modTake h fun t => { t with suspect := true }).accept l h
    | .discard => s1.discard l h

/-- The check byte of a service frame (R14). -/
def State.checkServiceByte (s : State) (l : LinkId) (r : Request) (b : Byte) : State :=
  if b = (s.link l).crc then (s.setRx l .idle).handOver r
  else if b = byteBegin then s.misplacedBegin l
  else ((s.recordFault (linkSource l) .check).countLink l .checkFailures 1).setRx l .idle

/-- A byte drained in DISCARDING (R6, R9). -/
def State.discardingByte (s : State) (l : LinkId) (checkDue : Bool) (b : Byte) : State :=
  if checkDue then s.setRx l .idle
  else if b = byteBegin then s.beginFrame l
  else if b = byteEnd then s.endDiscarded l
  else s

/-- A byte removed from a FIFO that is not covered by the check: BEGIN of a new frame, a check byte, a byte hunted past
or consumed. -/
def State.popUncovered (s : State) (l : LinkId) : State := s.modLink l fun k => { k with fifo := k.fifo.tail }

/-- The byte at the head of a link's FIFO drained and parsed by the link state (R2, R3). Every byte of a frame in HEADER
or TEXT, and of a refused frame up to its END, is taken into the accumulator first (R7). -/
def State.drainByte (s : State) (l : LinkId) (b : Byte) : State :=
  match (s.link l).rx with
  | .disabled => s.popUncovered l
  | .idle => if b = byteBegin then (s.popUncovered l).beginFrame l else (s.popUncovered l).countLink l .stray 1
  | .header h => (s.pop l).headerByte l h b
  | .text h closed => s.textByte l h closed b
  | .checkCopy h => (s.popUncovered l).checkCopyByte l h b
  | .checkService r => (s.popUncovered l).checkServiceByte l r b
  | .discarding due => (if due then s.popUncovered l else s.pop l).discardingByte l due b

/-! ### Draining (R3, R4, log 3) -/

/-- A link that can drain: its FIFO holds a byte and it does not wait for a segment. -/
def State.canDrain (s : State) (l : LinkId) : Bool := !(s.link l).fifo.isEmpty && !s.waits l

/-- One byte drained on the lowest-numbered link that can drain; `none` when no link can. -/
def State.drainOne (s : State) : Option State :=
  match allLinks.find? s.canDrain with
  | none => none
  | some l =>
    match (s.link l).fifo with
    | [] => none
    | b :: _ => some (s.drainByte l b)

/-- Draining until no link can drain; the first number bounds the bytes. -/
def drainAll : Nat → State → State
  | 0, s => s
  | n + 1, s =>
    match s.drainOne with
    | none => s
    | some s' => drainAll n s'

/-- Bytes in all FIFOs. -/
def State.fifoBytes (s : State) : Nat := (allLinks.map fun l => (s.link l).fifo.length).sum

/-- Every FIFO drained as far as store space allows: the close of every step that may have moved it. Each byte is drained
once and asks for space at most once, and each of eight links may stand waiting at the end. -/
def State.settle (s : State) : State := drainAll (2 * s.fifoBytes + 16) s

/-! ### Arrival (R3, R5, R19) -/

/-- A byte lost at a full FIFO: OVERRUN is recorded and characters lost counted; what becomes of the frame depends on the
link state (R5). -/
def State.overrun (s : State) (l : LinkId) : State :=
  let s1 := (s.recordFault (linkSource l) .overrun).countLink l .charsLost 1
  match (s.link l).rx with
  | .text h _ => (s1.withdraw l).closeText l h
  | .header _ => s1.setRx l (.discarding false)
  | .disabled | .idle | .checkCopy _ | .checkService _ | .discarding _ => s1

/-- A byte arriving on a link (R2, R3, R5, R19): ignored when DISABLED; else it clears SILENT and restarts the silence
timing, enters the FIFO or is lost, and the FIFO drains. -/
def State.byteArrives (s : State) (l : LinkId) (b : Byte) : State :=
  if (s.link l).rx = .disabled then s
  else
    let s1 := s.modLink l fun k => { k with silenceTicks := 0, silent := false }
    if Config.fifoBytes ≤ (s1.link l).fifo.length then (s1.overrun l).settle
    else (s1.modLink l fun k => { k with fifo := k.fifo ++ [b] }).settle

end Sys2Proof.Machine
end

