-- ==== Sys2Proof/Machine/Clock.lean ====
section
/-! DEFINITION. The meanings of the reset and time commands: HARDWARE_RESET, RESET_INPUT_ASSERTED, MILLISECOND_TICK and
DAY_CLOCK_SECOND (R15, R141, R142, R169, R186). -/

namespace Sys2Proof.Machine

open Sys2Proof

/-- What a command does while the reset input is not asserted; asserted, it does nothing (R186, log 9). -/
def State.live (s : State) (f : State → State) : State := if s.resetHeld then s else f s

/-! ### Reset (R15, R186) -/

/-- The own station code of the strap levels: 63 is taken as 62 (R15). -/
def ownCodeOf (straps : BitVec 6) : Nat := min 62 straps.toNat

/-- The reset state at the release of the reset input: the straps are sampled, the return lines stand at the levels they
have, and the commands still waiting are kept (R15, R186, log 7). -/
def State.hardwareReset (s : State) (straps : BitVec 6) : State :=
  { State.reset with
    pending := s.pending
    ownCode := ownCodeOf straps
    circuits := s.circuits.map fun c => Circuit.reset c.returnMark }

/-- HARDWARE_RESET. -/
def execHardwareReset (straps : BitVec 6) (s : State) : Host.Outcome State Fault Refusal :=
  .next (s.hardwareReset straps)

/-- A circuit whose line is cut by the reset input: MARK at once, the character on it cut short (R186). -/
def Circuit.cutLine (c : Circuit) : Circuit := { c.stopPacer with slot := .mark }

/-- The reset input asserted: every send side and every return direction at mark at once (R186). -/
def State.assertReset (s : State) : State :=
  { s with
    resetHeld := true
    circuits := s.circuits.map Circuit.cutLine
    links := s.links.map fun k => { k with sendRate := none } }

/-- RESET_INPUT_ASSERTED. -/
def execResetInputAsserted (s : State) : Host.Outcome State Fault Refusal := .next (s.live State.assertReset)

/-! ### The tick (R141, R142) -/

/-- A link's timers at a tick: silence, and hold while it is asserted (R19, R21). -/
def Link.tick (k : Link) : Link :=
  { k with silenceTicks := k.silenceTicks + 1, holdTicks := if k.hold then k.holdTicks + 1 else k.holdTicks }

/-- A character being received at a tick: where the half-bit sample of its start element falls and the line is marking,
it was a false start, and the receiver hunts again (R146, log 22). -/
def Reception.tick (mark : Bool) (r : Reception) : Option Reception :=
  if r.sampleIn = 1 ∧ mark = true then none else some { r with sampleIn := r.sampleIn - 1 }

/-- A circuit's timers at a tick: answer-back window, start sample, break detect and restore (R123, R127, R129, R146). -/
def Circuit.tick (c : Circuit) : Circuit :=
  { c with
    window := c.window.map fun w => { w with ticks := w.ticks + 1 }
    receiving := c.receiving.bind (Reception.tick c.returnMark)
    spacing := c.spacing.map (· + 1)
    marking := c.marking.map (· + 1) }

/-- A tick of the time base: the millisecond count rises by one and wraps, the divider goes on in its run of five, and
every timer counts one (R141, R142). -/
def State.tick (s : State) : State :=
  { s with
    ms := s.ms + 1
    tickRun := s.tickRun + 1
    clock := { s.clock with ticks := s.clock.ticks + 1 }
    links := s.links.map Link.tick
    circuits := s.circuits.map Circuit.tick
    requests := s.requests.map fun r => { r with elapsed := r.elapsed + 1 }
    retryTimer := s.retryTimer.map fun t => { t with ticks := t.ticks + 1 }
    watchTimer := s.watchTimer.map (· + 1) }

/-- MILLISECOND_TICK. -/
def execMillisecondTick (s : State) : Host.Outcome State Fault Refusal := .next (s.live State.tick)

/-! ### The day clock (R169) -/

/-- The clock one second on, carrying into minutes and hours; after 23:59:59 it reads 00:00:00 (R169). -/
def DayClock.nextSecond (c : DayClock) : DayClock :=
  if c.seconds < 59 then { c with seconds := c.seconds + 1 }
  else if c.minutes < 59 then { c with minutes := c.minutes + 1, seconds := 0 }
  else if c.hours < 23 then { c with hours := c.hours + 1, minutes := 0, seconds := 0 }
  else { c with hours := 0, minutes := 0, seconds := 0 }

/-- The thousandth tick of the present second: the tick count returns to 0 and the clock advances (R169, log 23). -/
def State.daySecond (s : State) : State :=
  if 1000 ≤ s.clock.ticks then { s with clock := { s.clock.nextSecond with ticks := s.clock.ticks - 1000 } } else s

/-- DAY_CLOCK_SECOND. -/
def execDayClockSecond (s : State) : Host.Outcome State Fault Refusal := .next (s.live State.daySecond)

end Sys2Proof.Machine
end

