-- ==== Sys2Proof/Machine/CircuitEvents.lean ====
section
/-! DEFINITION. The meanings of the commands of circuits: CHARACTER_TIME_END, ANSWERBACK_CHARACTER, NO_ANSWERBACK,
RECEIVER_BREAK, RESTORE and RETURN_LINE_LEVEL_CHANGE (R96, R124, R125, R127 to R129). -/

namespace Sys2Proof.Machine

open Sys2Proof

/-- CHARACTER_TIME_END (R96): the circuit acts, and links that its take end gave segments drain on (R4, log 3). -/
def execCharacterTimeEnd (i : CircuitId) (s : State) : Host.Outcome State Fault Refusal :=
  .next (s.live fun s => (s.characterTimeEnd i).settle)

/-- A character decoded on the return line: collected when its start element came while the window was open (R123,
R124, log 37). -/
def State.answerbackCharacter (s : State) (i : CircuitId) (code : Code5) : State :=
  match (s.circuit i).window with
  | some w => if (s.circuit i).receiving.isSome then s.answerback i w code else s
  | none => s

/-- ANSWERBACK_CHARACTER (R124). -/
def execAnswerbackCharacter (i : CircuitId) (code : Code5) (s : State) : Host.Outcome State Fault Refusal :=
  .next (s.live fun s => s.answerbackCharacter i code)

/-- The answer-back window expired short: NO ANSWERBACK is recorded and the circuit enters FAULTED (R125, log 1). -/
def State.noAnswerback (s : State) (i : CircuitId) : State :=
  if (s.circuit i).windowExpired then
    (s.recordFault (circuitSource i) .noAnswerback).modCircuit i (·.enterFaulted)
  else s

/-- NO_ANSWERBACK (R125). -/
def execNoAnswerback (i : CircuitId) (s : State) : Host.Outcome State Fault Refusal :=
  .next (s.live fun s => s.noAnswerback i)

/-- RECEIVER_BREAK (R128, log 1). -/
def execReceiverBreak (i : CircuitId) (s : State) : Host.Outcome State Fault Refusal :=
  .next (s.live fun s => s.detectIfDue i)

/-- RESTORE (R129, log 1). -/
def execRestore (i : CircuitId) (s : State) : Host.Outcome State Fault Refusal :=
  .next (s.live fun s => s.restoreIfDue i)

/-- A change of level on the return line. While the reset input is asserted the level is not received: only the pin has
it (R186, log 7). -/
def State.returnLevelChange (s : State) (i : CircuitId) : State :=
  if s.resetHeld then s.modCircuit i fun c => { c with returnMark := !c.returnMark }
  else s.modCircuit i Circuit.levelChange

/-- RETURN_LINE_LEVEL_CHANGE (R127). -/
def execReturnLineLevelChange (i : CircuitId) (s : State) : Host.Outcome State Fault Refusal :=
  .next (s.returnLevelChange i)

end Sys2Proof.Machine
end

