-- ==== Sys2Proof/Machine/LinkEvents.lean ====
section
/-! DEFINITION. The meanings of the commands of links and store: BYTE_ARRIVES, SEGMENT_GRANT, SILENCE_EXPIRY, HOLD_EXPIRY
and REPLY_FRAME_SENT (R3, R19, R21, R29, R159). -/

namespace Sys2Proof.Machine

open Sys2Proof

/-- BYTE_ARRIVES (R3). -/
def execByteArrives (l : LinkId) (b : Byte) (s : State) : Host.Outcome State Fault Refusal :=
  .next (s.live fun s => s.byteArrives l b)

/-- One step of the grant arbiter, after which the chosen link drains on (R4, R29); without an eligible waiting request
there is no step (log 3). -/
def State.segmentGrant (s : State) : State :=
  match s.store.nextServed with
  | some w => (s.grantWaiting w).settle
  | none => s

/-- SEGMENT_GRANT (R29). -/
def execSegmentGrant (s : State) : Host.Outcome State Fault Refusal := .next (s.live State.segmentGrant)

/-- The silence timer at its limit (R19): the frame in progress is ended, bytes still in the FIFO drain from IDLE, and
SILENT is set and recorded (log 1, log 32). -/
def State.silenceExpiry (s : State) (l : LinkId) : State :=
  if (s.link l).silenceDue then (s.endSilentFrame l).settle.setSilent l else s

/-- SILENCE_EXPIRY (R19). -/
def execSilenceExpiry (l : LinkId) (s : State) : Host.Outcome State Fault Refusal :=
  .next (s.live fun s => s.silenceExpiry l)

/-- HOLD_EXPIRY (R21, log 1). -/
def execHoldExpiry (l : LinkId) (s : State) : Host.Outcome State Fault Refusal :=
  .next (s.live fun s => s.expireHoldIfDue l)

/-- The frame at the head of a reply queue leaves it; the next one, if any, begins at the rate of this moment (R159). -/
def Link.frameSent (k : Link) : Link :=
  match k.replies with
  | [] => k
  | _ :: [] => { k with replies := [], sendRate := none }
  | _ :: rest => { k with replies := rest, sendRate := some k.profile.rate }

/-- REPLY_FRAME_SENT (R159). -/
def execReplyFrameSent (l : LinkId) (s : State) : Host.Outcome State Fault Refusal :=
  .next (s.live fun s => s.modLink l Link.frameSent)

end Sys2Proof.Machine
end

