-- ==== Sys2Proof/Machine/Requests.lean ====
section
/-! DEFINITION. The meanings of the Service Unit's commands: the service requests, each handed over as the completion of
its frame would (R14, R154, log 5), REQUEST_TIMED_OUT, RETRY and WATCH_REPORT (R155, R157, R175). -/

namespace Sys2Proof.Machine

open Sys2Proof

/-- The request that a head, a kind and parameter bytes make (R153). -/
def ReqHead.request (h : ReqHead) (kind : Byte) (params : List Byte) : Request :=
  { link := h.link, matched := h.matched, kind := kind, serial := h.serial, timeCheck := h.timeCheck.toNat,
    params := params, elapsed := 0 }

/-- A request handed to the Service Unit, and links that its effect gave segments draining on (R4, R154, log 3). -/
def State.request (s : State) (h : ReqHead) (kind : Byte) (params : List Byte) : State :=
  s.live fun s => (s.handOver (ReqHead.request h kind params)).settle

/-! ### The service requests (R156, R184) -/

/-- IDENTIFY (R160). -/
def execIdentify (h : ReqHead) (s : State) : Host.Outcome State Fault Refusal :=
  .next (s.request h 0x01 [])

/-- TABLE_READ (R162). -/
def execTableRead (h : ReqHead) (table index field : Byte) (s : State) : Host.Outcome State Fault Refusal :=
  .next (s.request h 0x02 [table, index, field])

/-- TABLE_WRITE_ROUTE (R43). -/
def execTableWriteRoute (h : ReqHead) (index field : Byte) (value : List Byte) (s : State) :
    Host.Outcome State Fault Refusal :=
  .next (s.request h 0x03 (0x01 :: index :: field :: value))

/-- TABLE_WRITE_CIRCUIT (R148). -/
def execTableWriteCircuit (h : ReqHead) (index field : Byte) (value : List Byte) (s : State) :
    Host.Outcome State Fault Refusal :=
  .next (s.request h 0x03 (0x02 :: index :: field :: value))

/-- TABLE_WRITE_LINK (R1). -/
def execTableWriteLink (h : ReqHead) (index field : Byte) (value : List Byte) (s : State) :
    Host.Outcome State Fault Refusal :=
  .next (s.request h 0x03 (0x03 :: index :: field :: value))

/-- TABLE_WRITE_SUBST (R84). -/
def execTableWriteSubst (h : ReqHead) (index field : Byte) (value : List Byte) (s : State) :
    Host.Outcome State Fault Refusal :=
  .next (s.request h 0x03 (0x04 :: index :: field :: value))

/-- TABLE_WRITE_STORE (R25). -/
def execTableWriteStore (h : ReqHead) (index field : Byte) (value : List Byte) (s : State) :
    Host.Outcome State Fault Refusal :=
  .next (s.request h 0x03 (0x05 :: index :: field :: value))

/-- TABLE_WRITE_SERVICE (R164). -/
def execTableWriteService (h : ReqHead) (index field : Byte) (value : List Byte) (s : State) :
    Host.Outcome State Fault Refusal :=
  .next (s.request h 0x03 (0x06 :: index :: field :: value))

/-- START (R118). -/
def execStart (h : ReqHead) (circuit : Byte) (s : State) : Host.Outcome State Fault Refusal :=
  .next (s.request h 0x04 [circuit, 0x01])

/-- STOP_NOW (R119). -/
def execStopNow (h : ReqHead) (circuit : Byte) (s : State) : Host.Outcome State Fault Refusal :=
  .next (s.request h 0x04 [circuit, 0x02])

/-- STOP_AT_TAKE_END (R120). -/
def execStopAtTakeEnd (h : ReqHead) (circuit : Byte) (s : State) : Host.Outcome State Fault Refusal :=
  .next (s.request h 0x04 [circuit, 0x03])

/-- OPEN (R122). -/
def execOpenCircuit (h : ReqHead) (circuit : Byte) (s : State) : Host.Outcome State Fault Refusal :=
  .next (s.request h 0x04 [circuit, 0x04])

/-- CLOSE (R122). -/
def execCloseCircuit (h : ReqHead) (circuit : Byte) (s : State) : Host.Outcome State Fault Refusal :=
  .next (s.request h 0x04 [circuit, 0x05])

/-- FLUSH (R77). -/
def execFlush (h : ReqHead) (circuit : Byte) (s : State) : Host.Outcome State Fault Refusal :=
  .next (s.request h 0x04 [circuit, 0x06])

/-- LINK_ENABLE (R22). -/
def execLinkEnable (h : ReqHead) (link : Byte) (s : State) : Host.Outcome State Fault Refusal :=
  .next (s.request h 0x05 [link, 0x01])

/-- LINK_DISABLE (R22). -/
def execLinkDisable (h : ReqHead) (link : Byte) (s : State) : Host.Outcome State Fault Refusal :=
  .next (s.request h 0x05 [link, 0x02])

/-- LINK_RESET (R23). -/
def execLinkReset (h : ReqHead) (link : Byte) (s : State) : Host.Outcome State Fault Refusal :=
  .next (s.request h 0x05 [link, 0x03])

/-- TAKE_SPIKE (R60). -/
def execTakeSpike (h : ReqHead) (link : Byte) (serial : BitVec 16) (s : State) : Host.Outcome State Fault Refusal :=
  .next (s.request h 0x06 [link, serial.extractLsb' 8 8, serial.extractLsb' 0 8])

/-- QUEUE_READ (R78). -/
def execQueueRead (h : ReqHead) (circuit position : Byte) (s : State) : Host.Outcome State Fault Refusal :=
  .next (s.request h 0x07 [circuit, position])

/-- WATCH_ENTER (R173). -/
def execWatchEnter (h : ReqHead) (count : Byte) (points : List Byte) (s : State) : Host.Outcome State Fault Refusal :=
  .next (s.request h 0x08 (count :: points))

/-- WATCH_READ (R174). -/
def execWatchRead (h : ReqHead) (clear : Byte) (s : State) : Host.Outcome State Fault Refusal :=
  .next (s.request h 0x09 [clear])

/-- FAULT_READ (R178). -/
def execFaultRead (h : ReqHead) (s : State) : Host.Outcome State Fault Refusal :=
  .next (s.request h 0x0A [])

/-- CLOCK_SET (R169). -/
def execClockSet (h : ReqHead) (hours minutes seconds : Byte) (s : State) : Host.Outcome State Fault Refusal :=
  .next (s.request h 0x0B [hours, minutes, seconds])

/-- COPY_RESTART (R170). -/
def execCopyRestart (h : ReqHead) (s : State) : Host.Outcome State Fault Refusal :=
  .next (s.request h 0x0C [])

/-! ### Timers of the Service Unit and Supervision (R155, R157, R175) -/

/-- A time check expired: the request at a place of the queue is withdrawn and answered TIMED OUT (R155, log 1); links
drain on after the requests that then execute (log 3). -/
def State.requestTimedOut (s : State) (n : Nat) : State := if s.timeCheckDue n then (s.timeOut n).settle else s

/-- REQUEST_TIMED_OUT (R155). -/
def execRequestTimedOut (position : Fin 8) (s : State) : Host.Outcome State Fault Refusal :=
  .next (s.live fun s => s.requestTimedOut position.val)

/-- The retry interval expired: the waiting head is executed again from the start (R157, log 1); links drain on after
the requests that then execute (log 3). -/
def State.retry (s : State) : State := if s.retryDue then s.runQueue.settle else s

/-- RETRY (R157). -/
def execRetry (s : State) : Host.Outcome State Fault Refusal := .next (s.live State.retry)

/-- WATCH_REPORT (R175, log 1). -/
def execWatchReport (s : State) : Host.Outcome State Fault Refusal :=
  .next (s.live fun s => if s.reportDue then s.watchReport else s)

end Sys2Proof.Machine
end

