-- ==== Sys2Proof/Machine/Dispatch.lean ====
section
/-! DEFINITION. One arm per command, each one direct call of its meaning. -/

namespace Sys2Proof.Machine

open Sys2Proof

def exec (i : Instr) (s : State) : Host.Outcome State Fault Refusal :=
  match i with
  | .hardwareReset straps => Sys2Proof.Machine.execHardwareReset straps s
  | .millisecondTick => Sys2Proof.Machine.execMillisecondTick s
  | .dayClockSecond => Sys2Proof.Machine.execDayClockSecond s
  | .byteArrives link b => Sys2Proof.Machine.execByteArrives link b s
  | .segmentGrant => Sys2Proof.Machine.execSegmentGrant s
  | .silenceExpiry link => Sys2Proof.Machine.execSilenceExpiry link s
  | .holdExpiry link => Sys2Proof.Machine.execHoldExpiry link s
  | .characterTimeEnd circuit => Sys2Proof.Machine.execCharacterTimeEnd circuit s
  | .answerbackCharacter circuit code => Sys2Proof.Machine.execAnswerbackCharacter circuit code s
  | .noAnswerback circuit => Sys2Proof.Machine.execNoAnswerback circuit s
  | .receiverBreak circuit => Sys2Proof.Machine.execReceiverBreak circuit s
  | .restore circuit => Sys2Proof.Machine.execRestore circuit s
  | .requestTimedOut position => Sys2Proof.Machine.execRequestTimedOut position s
  | .retry => Sys2Proof.Machine.execRetry s
  | .identify h => Sys2Proof.Machine.execIdentify h s
  | .tableRead h table index field => Sys2Proof.Machine.execTableRead h table index field s
  | .tableWriteRoute h index field value => Sys2Proof.Machine.execTableWriteRoute h index field value s
  | .tableWriteCircuit h index field value => Sys2Proof.Machine.execTableWriteCircuit h index field value s
  | .tableWriteLink h index field value => Sys2Proof.Machine.execTableWriteLink h index field value s
  | .tableWriteSubst h index field value => Sys2Proof.Machine.execTableWriteSubst h index field value s
  | .tableWriteStore h index field value => Sys2Proof.Machine.execTableWriteStore h index field value s
  | .tableWriteService h index field value => Sys2Proof.Machine.execTableWriteService h index field value s
  | .start h circuit => Sys2Proof.Machine.execStart h circuit s
  | .stopNow h circuit => Sys2Proof.Machine.execStopNow h circuit s
  | .stopAtTakeEnd h circuit => Sys2Proof.Machine.execStopAtTakeEnd h circuit s
  | .openCircuit h circuit => Sys2Proof.Machine.execOpenCircuit h circuit s
  | .closeCircuit h circuit => Sys2Proof.Machine.execCloseCircuit h circuit s
  | .flush h circuit => Sys2Proof.Machine.execFlush h circuit s
  | .linkEnable h link => Sys2Proof.Machine.execLinkEnable h link s
  | .linkDisable h link => Sys2Proof.Machine.execLinkDisable h link s
  | .linkReset h link => Sys2Proof.Machine.execLinkReset h link s
  | .takeSpike h link serial => Sys2Proof.Machine.execTakeSpike h link serial s
  | .queueRead h circuit position => Sys2Proof.Machine.execQueueRead h circuit position s
  | .watchEnter h count points => Sys2Proof.Machine.execWatchEnter h count points s
  | .watchRead h clear => Sys2Proof.Machine.execWatchRead h clear s
  | .faultRead h => Sys2Proof.Machine.execFaultRead h s
  | .clockSet h hours minutes seconds => Sys2Proof.Machine.execClockSet h hours minutes seconds s
  | .copyRestart h => Sys2Proof.Machine.execCopyRestart h s
  | .replyFrameSent link => Sys2Proof.Machine.execReplyFrameSent link s
  | .watchReport => Sys2Proof.Machine.execWatchReport s
  | .resetInputAsserted => Sys2Proof.Machine.execResetInputAsserted s
  | .returnLineLevelChange circuit => Sys2Proof.Machine.execReturnLineLevelChange circuit s

end Sys2Proof.Machine
end

