-- ==== Sys2Proof/Safety.lean ====
section
/-! DEFINITION. What a sound state of the 816 is, in the terms that statements use: the laws that the spec states of its
queues, backlogs, segments, references, faults, hold lines and bounded buffers; when a request finds the Service Unit
idle; and the characters that the Packer gives up to a take's end. -/

namespace Sys2Proof.Machine

open Sys2Proof

/-! ### Laws of the circuits (R64, R72, R116) -/

/-- No entry of a queue stands behind an entry of numerically greater priority (R64). -/
abbrev inClassOrder (q : List Entry) : Prop := q.Pairwise fun a b => a.prio.num ≤ b.prio.num

/-- Every circuit queue is in class order (R64). -/
abbrev State.queuesOrdered (s : State) : Prop := ∀ i : CircuitId, inClassOrder (s.circuit i).queue

/-- Every backlog figure is the sum of the estimates stored in its queue (R72). -/
abbrev State.backlogsExact (s : State) : Prop := ∀ i : CircuitId, (s.circuit i).backlog = queueSum (s.circuit i).queue

/-- Only a SENDING circuit has a take in flight (R116). -/
abbrev State.onlySendingHasFlight (s : State) : Prop :=
  ∀ i : CircuitId, (s.circuit i).state ≠ .sending → (s.circuit i).flight = none

/-! ### Laws of the store (R20, R24 to R26, R32, R38) -/

/-- Segments held in the chains of the listed records. -/
def Takes.segments (ts : List (Nat × Take)) : Nat := (ts.map fun e => e.2.chain.length).sum

/-- The directory is in canonical form, and free segments and held segments make 1024 (R24, R32). -/
abbrev State.segmentsConserved (s : State) : Prop :=
  Takes.wf s.store.takes = true ∧ s.store.free + Takes.segments s.store.takes = Config.segments

/-- The settings are in order; outside LOW the free count is above low water, in LOW below high water (R25, R26). -/
abbrev State.lowConsistent (s : State) : Prop :=
  s.store.ordered = true ∧ (s.store.low = false → s.store.lowWater < s.store.free) ∧
    (s.store.low = true → s.store.free < s.store.highWater)

/-- Every hold line stands as R20 calls for. -/
abbrev State.holdsFollowLow (s : State) : Prop := ∀ l : LinkId, (s.link l).hold = (s.link l).holdWanted s.store.low

/-- The references to a handle that a circuit holds: its queued entries and its held entry (R38). -/
def Circuit.refsTo (c : Circuit) (h : Nat) : Nat :=
  (c.queue.filter fun e => e.handle == h).length + (if (c.flight.map (·.entry.handle)) = some h then 1 else 0)

/-- The references to a handle on all circuits. -/
def State.refsTo (s : State) (h : Nat) : Nat := (allCircuits.map fun i => (s.circuit i).refsTo h).sum

/-- Every listed record counts the references to it (R38). -/
abbrev State.refsCounted (s : State) : Prop := ∀ e ∈ s.store.takes, e.2.refs = s.refsTo e.1

/-- The handles that a circuit's queue and its take in flight name. -/
def Circuit.handles (c : Circuit) : List Nat := c.queue.map (·.handle) ++ (c.flight.map (·.entry.handle)).toList

/-- Every listed record counts the references to it; a READY one has at least one and a FILLING one none; and every
handle named on a circuit is that of a listed record (R38). -/
abbrev State.refsExact (s : State) : Prop :=
  s.refsCounted ∧ (∀ e ∈ s.store.takes, e.2.state = .ready ↔ 0 < e.2.refs) ∧
    ∀ i : CircuitId, ∀ h ∈ (s.circuit i).handles, (s.take? h).isSome = true

/-- The record that a link in TEXT or CHECK fills. -/
def Rx.handle? : Rx → Option Nat
  | .text h _ => some h
  | .checkCopy h => some h
  | .disabled | .idle | .header _ | .checkService _ | .discarding _ => none

/-- The record of a copy frame in progress is FILLING and its link's own (R32, R33). -/
abbrev State.framesFill (s : State) : Prop :=
  ∀ l : LinkId, ∀ h ∈ (s.link l).rx.handle?, ((s.take? h).any fun t => t.state == .filling && t.link == l) = true

/-! ### Laws of supervision and of the bounded buffers (R3, R153, R159, R173, R176) -/

/-- The kind of source a fault code belongs to (R176). -/
def FaultCode.belongs (code : FaultCode) (src : Fin 26) : Bool :=
  match code with
  | .check | .format | .serialGap | .serialRestart | .overrun | .holdExpired | .silent | .abandoned | .noRecord =>
    decide (src.val < 8)
  | .receiverBreak | .noAnswerback | .wrongAnswerback => decide (8 ≤ src.val ∧ src.val < 24)
  | .reserveInUse | .storeLow => decide (src.val = 24)
  | .requestOverflow | .replyOverflow => decide (src.val = 25)

/-- Every entry of the fault summary holds NONE or a code of its own source (R176). -/
abbrev State.faultsOwn (s : State) : Prop := ∀ src : Fin 26, ∀ code ∈ s.faults[src], code.belongs src = true

/-- The request queue, the reply queues, the receive FIFOs and the watch list keep within their capacities (R3, R153,
R173). -/
abbrev State.withinCapacities (s : State) : Prop :=
  s.requests.length ≤ Config.requestQueue ∧ s.watch.length ≤ Config.watchPoints ∧
    ∀ l : LinkId, (s.link l).replies.length ≤ Config.replyQueue ∧ (s.link l).fifo.length ≤ Config.fifoBytes

/-- The story index holds at most 256 entries and never two of one key (R47). -/
abbrev State.storiesDistinct (s : State) : Prop :=
  s.stories.length ≤ Config.storyEntries ∧ s.stories.Pairwise fun a b => a.key ≠ b.key

/-- Every recent-serial set holds at most 16 serials, none twice (R10, R16). -/
abbrev State.recentsBounded (s : State) : Prop :=
  ∀ l : LinkId, (s.link l).recent.length ≤ Config.recentSerials ∧ (s.link l).recent.Nodup

/-- The pacer runs in IDENTIFYING, READY and SENDING (R144), but for the time the reset input is asserted (R186). -/
abbrev State.pacersRun (s : State) : Prop :=
  s.resetHeld = false → ∀ i : CircuitId, (s.circuit i).state.watchesBreak = true → (s.circuit i).pacer.running = true

/-- An answer-back window is open in IDENTIFYING alone (R123, R125). -/
abbrev State.windowsIdentify (s : State) : Prop :=
  ∀ i : CircuitId, (s.circuit i).window ≠ none → (s.circuit i).state = .identifying

/-- Every waiting segment request fails the grant rule (R29). -/
abbrev State.noEligibleWaits (s : State) : Prop := ∀ w ∈ s.store.waiting, s.store.eligible w.prio = false

/-! ### Ranges of the tables (R1, R43, R83 to R85, R126, R147, R164, R169) -/

/-- The numeric fields of a form lie in their ranges (R147). -/
abbrev Form.inRange (f : Form) : Prop :=
  (4607 ≤ f.period ∧ f.period ≤ 65535) ∧ (20 ≤ f.width ∧ f.width ≤ 80) ∧ (1 ≤ f.nCR ∧ f.nCR ≤ 2) ∧
    (1 ≤ f.nLF ∧ f.nLF ≤ 2) ∧ ∀ p ∈ Priority.all, f.bells.get p ≤ 15

/-- The staged values lie in the ranges of their fields (R147, R148). -/
abbrev Staged.inRange (g : Staged) : Prop :=
  (∀ n ∈ g.period, 4607 ≤ n ∧ n ≤ 65535) ∧ (∀ n ∈ g.width, 20 ≤ n ∧ n ≤ 80) ∧ (∀ n ∈ g.nCR, 1 ≤ n ∧ n ≤ 2) ∧
    (∀ n ∈ g.nLF, 1 ≤ n ∧ n ≤ 2) ∧ ∀ p ∈ Priority.all, ∀ n ∈ g.bells.get p, n ≤ 15

/-- The fields of a circuit profile lie in their ranges, and no answer-back check is on with an empty expected
answer-back (R126, R147). -/
abbrev Profile.inRange (p : Profile) : Prop :=
  p.form.inRange ∧ (p.abExpected.length ≤ 16 ∧ (p.abCheck = true → p.abExpected ≠ [])) ∧
    (500 ≤ p.abWindow ∧ p.abWindow ≤ 10000) ∧ (100 ≤ p.breakDetect ∧ p.breakDetect ≤ 2000) ∧
    (100 ≤ p.restoreTime ∧ p.restoreTime ≤ 10000) ∧ p.breakInWait ≤ 65535 ∧ (1 ≤ p.depth ∧ p.depth ≤ 64) ∧
    p.shed ≤ 3600 ∧ ∀ q ∈ Priority.all, p.stale.get q ≤ 1440

/-- Every circuit profile and every staged value is in range (R147). -/
abbrev State.profilesInRange (s : State) : Prop :=
  ∀ i : CircuitId, (s.circuit i).active.inRange ∧ (s.circuit i).staged.inRange

/-- Every link profile is in range (R1). -/
abbrev State.linkProfilesInRange (s : State) : Prop :=
  ∀ l : LinkId, (100 ≤ (s.link l).profile.holdLimit ∧ (s.link l).profile.holdLimit ≤ 60000) ∧
    (s.link l).profile.silenceLimit ≤ 3600 ∧ (s.link l).profile.tag.length = 2 ∧
    (s.link l).profile.tag.all isLetter = true

/-- Routing adjustments, the service settings, the own code and the day clock are in range (R15, R43, R164, R169). -/
abbrev State.settingsInRange (s : State) : Prop :=
  (∀ n : Fin 216, -2 ≤ s.routes[n].adjust ∧ s.routes[n].adjust ≤ 2) ∧ s.settings.secondCode ≤ 62 ∧
    s.settings.retry ≤ 255 ∧ s.settings.watchPeriod ≤ 3600 ∧ s.ownCode ≤ 62 ∧ s.clock.hours < 24 ∧
    s.clock.minutes < 60 ∧ s.clock.seconds < 60

/-- The substitution table holds lawful sources, none twice, and replacements of up to three word characters
(R83 to R85). -/
abbrev State.substLawful (s : State) : Prop :=
  (∀ n : Fin 32, (∀ b ∈ s.subst[n].source, (isNonDirectPrintable b || isHigh b) = true) ∧
      s.subst[n].replacement.length ≤ 3 ∧ s.subst[n].replacement.all isWordChar = true) ∧
    ∀ m n : Fin 32, m ≠ n → s.subst[m].source ≠ none → s.subst[m].source ≠ s.subst[n].source

/-! ### The Service Unit idle (R154, R156) -/

/-- No link has a byte that it could drain: a link with bytes waits for a segment (R3, R4). -/
abbrev State.settled (s : State) : Prop := ∀ l : LinkId, (s.link l).fifo = [] ∨ s.waits l = true

/-- The reset input is not asserted, no request is in the queue, and no link could drain: a request then executes at
once, alone in its step (R154, R156). -/
abbrev State.serviceIdle (s : State) : Prop := s.resetHeld = false ∧ s.requests = [] ∧ s.settled

/-- The state with one request at the head of an otherwise empty queue. -/
def State.withHead (s : State) (r : Request) : State := { s with requests := [r] }

/-- A state of `serviceIdle`, changed or not by a request's effect, with that request answered (R156, R158). -/
def State.answer (s : State) (h : ReqHead) (kind : Byte) (ps : List Byte) (x : Result) (limited : Bool)
    (v : List Byte) : State :=
  s.complete (ReqHead.request h kind ps) x limited v

/-- A request that must wait stands at the head of the queue and the retry timer runs (R157). -/
def State.held (s : State) (h : ReqHead) (kind : Byte) (ps : List Byte) : State :=
  (s.withHead (ReqHead.request h kind ps)).startRetry

/-! ### Runs of bytes -/

/-- The state after bytes arrive on a link one after the other; `none` where a command does not answer a next state. -/
def State.arrivals (l : LinkId) : List Byte → State → Option State
  | [], s => some s
  | b :: bs, s =>
    match exec (.byteArrives l b) s with
    | .next t => State.arrivals l bs t
    | _ => none

/-! ### The bytes that name a watch point (R172, R184) -/

/-- The counter id of a link counter. -/
def LinkPoint.id : LinkPoint → Byte
  | .takesAccepted => 0x01
  | .checkFailures => 0x02
  | .formatFaults => 0x03
  | .duplicates => 0x04
  | .serialGap => 0x05
  | .charsLost => 0x06
  | .holdExpiries => 0x07
  | .afterKill => 0x08
  | .ignored => 0x09
  | .stray => 0x0A
  | .serviceRefused => 0x0B
  | .unrouted => 0x0C

/-- The counter id of a circuit counter. -/
def CircuitPoint.id : CircuitPoint → Byte
  | .takesSent => 0x01
  | .slotsSent => 0x02
  | .breakIns => 0x03
  | .receiverBreaks => 0x04
  | .stale => 0x05
  | .displaced => 0x06
  | .refusedFull => 0x07
  | .shed => 0x08
  | .unprintable => 0x09

/-- Kind, index and counter id of a watch point. -/
def WatchPoint.bytes : WatchPoint → List Byte
  | .link l p => [0x01, BitVec.ofNat 8 l.val, p.id]
  | .circuit i p => [0x02, BitVec.ofNat 8 i.val, p.id]
  | .queueDepth i => [0x02, BitVec.ofNat 8 i.val, 0x10]
  | .backlog i => [0x02, BitVec.ofNat 8 i.val, 0x11]
  | .freeSegments => [0x03, 0x00, 0x01]
  | .freeRecords => [0x03, 0x00, 0x02]
  | .storiesInUse => [0x03, 0x00, 0x03]
  | .reserveGrants => [0x03, 0x00, 0x04]
  | .requestsDone => [0x04, 0x00, 0x01]
  | .requestsTimedOut => [0x04, 0x00, 0x02]

/-! ### What the Packer puts on the line (R96) -/

/-- The characters that the Packer gives from a context on, slot by slot, up to the take's end: at most so many (R96). -/
def emitted (fm : Form) (tbl : Vector SubstEntry 32) (t : Take) : Nat → Context → List FiveUnit
  | 0, _ => []
  | n + 1, x =>
    match choose fm tbl t x with
    | .char f y _ _ => f :: emitted fm tbl t n y
    | .takeEnd => []
    | .breakIn => []

end Sys2Proof.Machine
end

