-- ==== Sys2Proof/Certificates/Slice0/Obligations.lean ====
section
/-! DEFINITION. The statements for the provers, in the order of OBLIGATIONS.json. In the statements of service requests
`s.answer h kind ps result limited values` is `s` with the request answered; `AnswersAndReplyQueues` says what an answer
is. -/

open Sys2Proof Sys2Proof.Machine

/-! ### Steps, reset and time -/

/-- One step runs the command at the front of the queue on the state with the queue's rest. That an empty queue idles is
the model's choice (log 4). -/
def Obligations.StepRunsFrontCommand : Prop :=
  (∀ (c : Instr) (rest : List Instr) (s : State), s.pending = c :: rest → step s = exec c { s with pending := rest }) ∧
    ∀ s : State, s.pending = [] → step s = .next s

/-- The reset state satisfies every law that the statements below show kept by each step. -/
def Obligations.ResetIsSound : Prop :=
  State.reset.queuesOrdered ∧ State.reset.backlogsExact ∧ State.reset.onlySendingHasFlight ∧ State.reset.windowsIdentify ∧
    State.reset.pacersRun ∧ State.reset.framesFill ∧ State.reset.refsExact ∧
    State.reset.segmentsConserved ∧ State.reset.lowConsistent ∧ State.reset.holdsFollowLow ∧ State.reset.faultsOwn ∧
    State.reset.withinCapacities ∧ State.reset.storiesDistinct ∧ State.reset.recentsBounded ∧ State.reset.settled ∧
    State.reset.noEligibleWaits ∧ State.reset.profilesInRange ∧ State.reset.linkProfilesInRange ∧
    State.reset.settingsInRange ∧ State.reset.substLawful

/-- HARDWARE_RESET, in whatever state (log 8), samples the straps (R15) and leaves every other part at its reset value
(R2, R41, R43, R83, R116, R141, R164, R176; log 35); commands still waiting and the levels of the return lines stay (log
7). The reset input asserted puts every send side and every return direction at mark (R186), and leaves all else to the
release (log 25); while it is asserted every other command but HARDWARE_RESET has no effect, and a level change reaches
the pin alone (R186; log 7, log 9). -/
def Obligations.ResetInputAndRelease : Prop :=
  (∀ (straps : BitVec 6) (s : State), ∃ t : State, exec (.hardwareReset straps) s = .next t ∧
      t.ownCode = (if straps = 63 then 62 else straps.toNat) ∧ t.pending = s.pending ∧ t.resetHeld = false ∧
      t.ms = 0 ∧ t.tickRun = 0 ∧
      t.clock = { hours := 0, minutes := 0, seconds := 0, ticks := 0 } ∧
      (∀ l : LinkId, (t.link l).rx = .idle ∧ (t.link l).fifo = [] ∧ (t.link l).expected = none ∧
        (t.link l).recent = [] ∧ (t.link l).hold = false ∧ (t.link l).silent = false ∧ (t.link l).silenceTicks = 0 ∧
        (t.link l).holdSpent = false ∧ (t.link l).replies = [] ∧ (t.link l).sendRate = none ∧
        (t.link l).profile = LinkProfile.reset l ∧ (t.link l).counters = LinkCounters.zero ∧ (t.link l).crc = 0 ∧
        (t.link l).holdTicks = 0) ∧
      (t.store.free = 1024 ∧ t.store.low = false ∧ t.store.waiting = [] ∧ t.store.takes = [] ∧ t.store.reserve = 64 ∧
        t.store.lowWater = 128 ∧ t.store.highWater = 256 ∧ t.store.reserveGrants = 0) ∧
      (∀ n : Fin 216, t.routes[n] = { enabled := false, circuits := 0, adjust := 0 }) ∧ t.stories = [] ∧
      (∀ n : Fin 32, t.subst[n] = { source := none, replacement := [] }) ∧
      (∀ i : CircuitId, t.circuit i = Circuit.reset (s.circuit i).returnMark) ∧
      t.requests = [] ∧ t.retryTimer = none ∧ t.settings = Settings.reset ∧ t.requestsDone = 0 ∧
      t.requestsTimedOut = 0 ∧ t.watch = [] ∧ t.watchTimer = none ∧ (∀ n : Fin 26, t.faults[n] = none) ∧
      t.noticeNumber = 0) ∧
  (∀ s : State, s.resetHeld = false → ∃ t : State, exec .resetInputAsserted s = .next t ∧
    t = { s with resetHeld := true, circuits := t.circuits, links := t.links } ∧
    (∀ i : CircuitId, t.circuit i =
      { s.circuit i with slot := .mark, pacer := { (s.circuit i).pacer with running := false } }) ∧
    ∀ l : LinkId, t.link l = { s.link l with sendRate := none }) ∧
  (∀ (c : Instr) (s : State), s.resetHeld = true → (∀ straps, c ≠ .hardwareReset straps) →
    (∀ i, c ≠ .returnLineLevelChange i) → exec c s = .next s) ∧
  ∀ (i : CircuitId) (s : State), s.resetHeld = true →
    exec (.returnLineLevelChange i) s =
      .next (s.setCircuit i { s.circuit i with returnMark := !(s.circuit i).returnMark })

/-- A tick raises the millisecond count by one, wrapping, and by one the count of every timer, the silence count of each
link and the ticks of the day clock; it moves the half-bit sample of a return-line character closer, and a line that
marks at the sample is back to hunting (R146; log 22). It changes nothing else and carries out no expiry (log 2): counts
go past their limits (log 24) and the day clock's past 999 (log 23). Five ticks take 9216 reference cycles wherever the
run of five stands (R141, R142). -/
def Obligations.TickCountsOnce : Prop :=
  (∀ s : State, s.resetHeld = false → ∃ t : State, exec .millisecondTick s = .next t ∧
    t.ms.toNat = (s.ms.toNat + 1) % 4294967296 ∧
    (∀ l : LinkId, t.link l =
      { s.link l with
        silenceTicks := (s.link l).silenceTicks + 1
        holdTicks := (s.link l).holdTicks + (if (s.link l).hold then 1 else 0) }) ∧
    (∀ i : CircuitId, t.circuit i =
      { s.circuit i with
        window := (s.circuit i).window.map fun w => { w with ticks := w.ticks + 1 }
        receiving := match (s.circuit i).receiving with
          | none => none
          | some r =>
            if r.sampleIn = 1 ∧ (s.circuit i).returnMark = true then none else some { r with sampleIn := r.sampleIn - 1 }
        spacing := (s.circuit i).spacing.map (· + 1)
        marking := (s.circuit i).marking.map (· + 1) }) ∧
    t = { s with
      ms := t.ms, links := t.links, circuits := t.circuits
      tickRun := s.tickRun + 1
      clock := { s.clock with ticks := s.clock.ticks + 1 }
      requests := s.requests.map fun r => { r with elapsed := r.elapsed + 1 }
      retryTimer := s.retryTimer.map fun x => { x with ticks := x.ticks + 1 }
      watchTimer := s.watchTimer.map (· + 1) }) ∧
  ∀ p : Fin 5, tickCycles p + tickCycles (p + 1) + tickCycles (p + 2) + tickCycles (p + 3) + tickCycles (p + 4) = 9216

/-- At the thousandth tick the day clock advances by one second modulo a day and nothing else changes; before it
DAY_CLOCK_SECOND has no effect (log 1, log 23). CLOCK SET takes the three values, each limited to its range with the
limited flag, sets the tick count to 0, and answers DONE with the clock as set (R169). -/
def Obligations.DayClockCountsAndSets : Prop :=
  ((∀ s : State, s.resetHeld = false → 1000 ≤ s.clock.ticks → s.clock.hours < 24 → s.clock.minutes < 60 →
    s.clock.seconds < 60 → ∃ c : DayClock, exec .dayClockSecond s = .next { s with clock := c } ∧
      c.ticks = s.clock.ticks - 1000 ∧ c.hours < 24 ∧ c.minutes < 60 ∧ c.seconds < 60 ∧
      c.hours * 3600 + c.minutes * 60 + c.seconds =
        (s.clock.hours * 3600 + s.clock.minutes * 60 + s.clock.seconds + 1) % 86400) ∧
  ∀ s : State, s.resetHeld = false → s.clock.ticks < 1000 → exec .dayClockSecond s = .next s) ∧
  ∀ (s : State) (h : ReqHead) (hh mm ss : Byte), s.serviceIdle →
    exec (.clockSet h hh mm ss) s = .next
      (({ s with
          clock :=
            { hours := min 23 hh.toNat, minutes := min 59 mm.toNat, seconds := min 59 ss.toNat, ticks := 0 } }
        : State).answer h 0x0B [hh, mm, ss] .done (decide (23 < hh.toNat ∨ 59 < mm.toNat ∨ 59 < ss.toNat))
          [if 23 < hh.toNat then 23 else hh, if 59 < mm.toNat then 59 else mm, if 59 < ss.toNat then 59 else ss])

/-! ### Codes and encodings -/

/-- Bytes sent as pairs of hexadecimal digits read back as themselves (R14, R182). Every word character's code, read on
the return line in the case it needs, gives that character (chapter 11.6, R93). A sent character's start, bits and stop
stand in the half-bits R143 gives them. -/
def Obligations.EncodingsReadBack : Prop :=
  (∀ bs : List Byte, ((hexBytes bs).mapM hexValue).bind pairDigits = some bs) ∧
  (∀ b : Byte, isWordChar b = true →
    decodeReturn (if isLetter b then .letters else .figures) (unitOf b).code = .collect (.printed b)) ∧
  ∀ (f : FiveUnit) (n : Nat),
    (n < 2 → (Slot.char f).level n = false) ∧ (12 ≤ n → (Slot.char f).level n = true) ∧
      ∀ bit < 5, n = 2 + 2 * bit ∨ n = 3 + 2 * bit → (Slot.char f).level n = f.code.getMsbD bit

/-- A whole service frame that arrives byte by byte on an idle link that permits service, its station code matched, has
the effect of the request it spells, and leaves the link idle with its silence timing restarted (R14, R154). That a
request command hands its request over as such a frame does is the model's choice (log 5). -/
def Obligations.ServiceFrameRunsRequest : Prop :=
  ∀ (s : State) (h : ReqHead) (code kind : Byte) (ps : List Byte),
    s.resetHeld = false → (∀ l : LinkId, (s.link l).fifo = []) → s.waits h.link = false →
    (s.link h.link).rx = .idle → (s.link h.link).profile.check = true →
    (s.link h.link).profile.servicePermitted = true → s.matchStation code.toNat = some h.matched → ps.length ≤ 64 →
    let body := 0x53#8 :: hexBytes (code :: kind :: h.serial :: num2 h.timeCheck.toNat ++ ps)
    let poly := (s.link h.link).profile.poly
    let init := (s.link h.link).profile.init
    s.arrivals h.link (composeFrame poly init body) =
      some ((s.modLink h.link fun k =>
        { k with silenceTicks := 0, silent := false, crc := crcBytes poly init (body ++ [byteEnd]) }).request h kind ps)

/-! ### Reception -/

/-- A byte that arrives on a DISABLED link is ignored; on an IDLE link with nothing waiting BEGIN starts a frame and any
other byte is counted as stray; either restarts the silence timing and clears SILENT (R2, R6, R19). A byte that meets a
full FIFO in TEXT is lost: OVERRUN is recorded, characters lost counted, the take marked truncated and its text closed,
and the waiting text bytes, none BEGIN or END here, are consumed unstored (R5). -/
def Obligations.BytesOutsideFramesOrLost : Prop :=
  (∀ (s : State) (l : LinkId) (b : Byte), s.resetHeld = false →
      ((s.link l).rx = .disabled → exec (.byteArrives l b) s = .next s) ∧
      ((s.link l).rx = .idle → s.settled → s.waits l = false →
        exec (.byteArrives l b) s = .next (s.setLink l
          (if b = byteBegin then
            { s.link l with
              silenceTicks := 0, silent := false, crc := (s.link l).profile.init, rx := .header .unclassed }
          else
            { s.link l with
              silenceTicks := 0, silent := false
              counters :=
                { (s.link l).counters with
                  stray := BitVec.ofNat 16 (min 65535 ((s.link l).counters.stray.toNat + 1)) } })))) ∧
  ∀ (s : State) (l : LinkId) (b : Byte) (hd : Nat) (closed : Bool) (t : Take), s.resetHeld = false → s.settled →
    (s.link l).rx = .text hd closed → s.take? hd = some t → 16 ≤ (s.link l).fifo.length →
    (∀ x ∈ (s.link l).fifo, x ≠ byteBegin ∧ x ≠ byteEnd) →
    exec (.byteArrives l b) s = .next
      ((((s.recordFault (linkSource l) .overrun).modLink l fun k =>
        { k with
          silenceTicks := 0, silent := false, rx := .text hd true, fifo := []
          crc := if k.profile.check then crcBytes k.profile.poly k.crc k.fifo else k.crc }).countLink l .charsLost
            1).putTake hd { t with truncated := true } |>.withdraw l)

/-- Text bytes of a copy take on a link that does not wait (R3, R11, R27): a storable byte goes, folded, into the
current segment while it has room; a byte that needs a new segment gets one at once where the grant rule allows it, here
with no bookkeeping of R26 or R28 due; else it waits at the head of the FIFO with a request. A byte that would be the
4096th character closes the text; one that R11 does not store is counted as ignored. On text already closed every text
byte is consumed, neither stored nor counted, and still covered by the check (R3, R5, R7, R11). Storable are 0x20 to
0x7E, the paragraph mark 0x0A, and those of 0x80 to 0xFF that stand as a source in the substitution table; folding takes
a to z to capitals (R11). -/
def Obligations.TextBytesStored : Prop :=
  (∀ (s : State) (l : LinkId) (b : Byte) (hd : Nat), s.resetHeld = false → s.settled → s.waits l = false →
    (s.link l).rx = .text hd true → b ≠ byteBegin → b ≠ byteEnd →
    exec (.byteArrives l b) s = .next (s.setLink l
      { s.link l with
        silenceTicks := 0, silent := false
        crc := if (s.link l).profile.check then crcByte (s.link l).profile.poly (s.link l).crc b
          else (s.link l).crc })) ∧
  (∀ (s : State) (l : LinkId) (b : Byte) (hd : Nat) (t : Take), s.resetHeld = false → s.settled → s.waits l = false →
    (s.link l).rx = .text hd false → s.take? hd = some t → b ≠ byteBegin → b ≠ byteEnd →
    let k := s.link l
    let heard : Link :=
      { k with
        silenceTicks := 0, silent := false
        crc := if k.profile.check then crcByte k.profile.poly k.crc b else k.crc }
    (s.storable b = true → t.length < 4095 → t.length < 64 * t.chain.length →
      exec (.byteArrives l b) s = .next ((s.setLink l heard).putTake hd
        { t with chain := t.chain.dropLast ++ [t.chain.getLastD [] ++ [fold b]], length := t.length + 1 })) ∧
    (s.storable b = true → t.length < 4095 → 64 * t.chain.length ≤ t.length → s.store.eligible t.prio = true →
      s.store.reserve + 1 < s.store.free → (s.store.low = true ∨ s.store.lowWater + 1 < s.store.free) →
      exec (.byteArrives l b) s = .next (((s.setLink l heard).putTake hd
        { t with chain := t.chain ++ [[fold b]], length := t.length + 1 }).modStore fun st =>
          { st with free := st.free - 1 })) ∧
    (s.storable b = true → t.length < 4095 → 64 * t.chain.length ≤ t.length → s.store.eligible t.prio = false →
      exec (.byteArrives l b) s = .next ((s.setLink l { k with silenceTicks := 0, silent := false, fifo := [b] }).modStore
        fun st => { st with waiting := st.waiting ++ [{ link := l, prio := t.prio }] })) ∧
    (s.storable b = true → 4095 ≤ t.length →
      exec (.byteArrives l b) s = .next ((s.setLink l { heard with rx := .text hd true }).putTake hd
        { t with truncated := true })) ∧
    (s.storable b = false →
      exec (.byteArrives l b) s = .next ((s.setLink l heard).countLink l .ignored 1))) ∧
  ∀ (s : State) (b : Byte),
    (s.storable b = true ↔ ((0x20 ≤ b.toNat ∧ b.toNat ≤ 0x7E) ∨ b = 0x0A ∨
      (0x80 ≤ b.toNat ∧ ∃ n : Fin 32, s.subst[n].source = some b))) ∧
    fold b = if 0x61 ≤ b.toNat ∧ b.toNat ≤ 0x7A then b - 0x20 else b

/-- A copy header that arrives complete on an idle link, its serial no suppressed duplicate and a record free, puts the
link in TEXT with a FILLING take of the normalised fields in the free record of lowest handle (R8, R10, R32). A category
A to Z, or a to z folded, is numbered from 0, and any other byte is `*`, number 26; a slug byte is A to Z, 0 to 9 or `-`
as it stands, or a to z folded, and no other (R8). -/
def Obligations.CopyHeaderOpensTake : Prop :=
  (∀ (s : State) (l : LinkId) (d : Fin 10) (serial : Fin 10000) (cat disp : Byte) (part : Fin 100) (slug : List Byte),
    s.resetHeld = false → (∀ m : LinkId, (s.link m).fifo = []) → s.waits l = false → (s.link l).rx = .idle →
    (3 < cat.toNat ∨ cat = 0) → (3 < disp.toNat ∨ disp = 0) → slug ≠ [] → slug.length ≤ 12 →
    (∀ c ∈ slug, (slugByte c).isSome = true) →
    ((s.link l).profile.dupSuppress = false ∨ serial.val ∉ (s.link l).recent) →
    Takes.lowestFree s.store.takes 0 < 512 →
    let bytes := [0x43#8, digitByte d.val, digitByte (serial.val / 1000), digitByte (serial.val / 100),
      digitByte (serial.val / 10), digitByte serial.val, cat, disp, digitByte (part.val / 10), digitByte part.val] ++
      slug ++ [byteText]
    let k := s.link l
    s.arrivals l (byteBegin :: bytes) = some
      ((s.setLink l
        { k with
          silenceTicks := 0, silent := false, rx := .text (Takes.lowestFree s.store.takes 0) false
          crc := if k.profile.check then crcBytes k.profile.poly k.profile.init bytes else k.profile.init }).putTake
        (Takes.lowestFree s.store.takes 0)
        { state := .filling, link := l, serial := serial.val
          prio := if d.val ≤ 1 then .flash else if d.val = 2 then .bulletin else if d.val = 3 then .urgent
            else if d.val = 4 then .routine else .deferred
          adjusted := none
          disp := if disp = 0x43 then .correction else if disp = 0x4B then .kill else .normal
          slug := slug.map fold, part := max 1 part.val, tag := k.profile.tag, category := categoryOf cat, length := 0
          chain := [], truncated := false, suspect := false, unindexed := false, readyTime := none
          readyClock := none, refs := 0, story := none })) ∧
  ∀ b : Byte,
    let capital := decide (0x41 ≤ b.toNat ∧ b.toNat ≤ 0x5A)
    let small := decide (0x61 ≤ b.toNat ∧ b.toNat ≤ 0x7A)
    let plain := decide ((0x30 ≤ b.toNat ∧ b.toNat ≤ 0x39) ∨ b = 0x2D)
    (categoryOf b).val = (if capital then b.toNat - 0x41 else if small then b.toNat - 0x61 else 26) ∧
      slugByte b = (if capital || plain then some b else if small then some (b - 0x20) else none)

/-- END in TEXT on a link with checking moves it to CHECK, END itself covered by the check value (R7, R12). END on a link
without checking, or a check byte that equals the check value, accepts the take: READY with its ready time and clock,
then serial tracking, takes accepted, and the Router (R12, R13, R35). -/
def Obligations.EndAcceptsTake : Prop :=
  (∀ (s : State) (l : LinkId) (hd : Nat) (closed : Bool), s.resetHeld = false → s.settled → s.waits l = false →
    (s.link l).rx = .text hd closed → (s.link l).profile.check = true →
    exec (.byteArrives l byteEnd) s = .next (s.setLink l
      { s.link l with
        silenceTicks := 0, silent := false, rx := .checkCopy hd
        crc := crcByte (s.link l).profile.poly (s.link l).crc byteEnd })) ∧
  ∀ (s : State) (l : LinkId) (b : Byte) (hd : Nat) (t : Take), s.resetHeld = false → s.settled → s.waits l = false →
    s.take? hd = some t →
    (((∃ closed, (s.link l).rx = .text hd closed) ∧ (s.link l).profile.check = false ∧ b = byteEnd) ∨
      ((s.link l).rx = .checkCopy hd ∧ b = (s.link l).crc)) →
    exec (.byteArrives l b) s = .next
      ((((((s.modLink l fun k => { k with silenceTicks := 0, silent := false, rx := .idle }).putTake hd
        { t with state := .ready, readyTime := some s.ms, readyClock := some (s.clock.hours, s.clock.minutes), refs := 0 }
        ).trackSerial l t.serial).countLink l .takesAccepted 1).route hd).settle)

/-- A header that goes wrong (R8 to R10, R14, R15, R17, R18). FORMAT is recorded and counted and the frame discarded at
a byte that is no class, a malformed header byte, TEXT after no slug, and a 129th parameter digit; END in a header that
is no complete service frame is FORMAT too. A service frame that the link does not permit is counted, one for another
station is not; a suppressed duplicate is counted; with no record free NO RECORD is recorded: each goes to DISCARDING. A
misplaced BEGIN records ABANDONED and starts a frame. In DISCARDING bytes are passed over up to END, with the check byte
behind it where the link checks, and BEGIN starts a frame. A station code matches as own where it equals the own code,
else as second where it equals the second code, enabled, else as general call where it is 63 and general call is on, and
else matches nothing (R15). A decimal digit is 0 to 9; a hexadecimal one is 0 to 9 or A to F, no small letter (R14). -/
def Obligations.HeadersRefused : Prop :=
  (∀ (s : State) (l : LinkId) (x : Header) (b : Byte), s.resetHeld = false → s.settled → s.waits l = false →
    (s.link l).rx = .header x →
    let k := s.link l
    let heard : State := s.setLink l
      { k with
        silenceTicks := 0, silent := false
        crc := if k.profile.check then crcByte k.profile.poly k.crc b else k.crc }
    let goes := fun (u : State) (rx : Rx) => exec (.byteArrives l b) s = .next (u.modLink l fun k => { k with rx := rx })
    let format := (heard.recordFault (linkSource l) .format).countLink l .formatFaults 1
    (b ≠ byteBegin → b ≠ byteEnd →
      ((x = .unclassed ∧ b ≠ 0x43 ∧ b ≠ 0x53) ∨
        (∃ h, x = .copy h ∧ b = byteText ∧ h.slug = []) ∨
        (∃ h, x = .copy h ∧ b ≠ byteText ∧ ((1 ≤ h.pos ∧ h.pos ≤ 5) ∨ h.pos = 8 ∨ h.pos = 9) ∧ decimalValue b = none) ∨
        (∃ h, x = .copy h ∧ b ≠ byteText ∧ 10 ≤ h.pos ∧ h.slug.length < 12 ∧ slugByte b = none) ∨
        ∃ v, x = .service v ∧ (hexValue b = none ∨ 138 ≤ v.digits.length)) →
      goes format (.discarding false)) ∧
    (b = byteEnd →
      (x = .unclassed ∨ (∃ h, x = .copy h) ∨
        ∃ v, x = .service v ∧ (v.matched = none ∨ v.digits.length < 10 ∨ v.digits.length % 2 = 1)) →
      goes format (if k.profile.check then .discarding true else .idle)) ∧
    (x = .unclassed → b = 0x53 → (k.profile.check && k.profile.servicePermitted) = false →
      goes (heard.countLink l .serviceRefused 1) (.discarding false)) ∧
    (∀ v hi lo, x = .service v → v.digits = [hi] → hexValue b = some lo → s.matchStation (16 * hi + lo) = none →
      goes heard (.discarding false)) ∧
    (∀ h, x = .copy h → b = byteText → h.slug ≠ [] → k.profile.dupSuppress = true → h.serial ∈ k.recent →
      goes (heard.countLink l .duplicates 1) (.discarding false)) ∧
    (∀ h, x = .copy h → b = byteText → h.slug ≠ [] → (k.profile.dupSuppress = false ∨ h.serial ∉ k.recent) →
      512 ≤ Takes.lowestFree s.store.takes 0 →
      goes (heard.recordFault (linkSource l) .noRecord) (.discarding false)) ∧
    (b = byteBegin → exec (.byteArrives l b) s = .next ((heard.recordFault (linkSource l) .abandoned).modLink l fun k =>
      { k with crc := k.profile.init, rx := .header .unclassed }))) ∧
  (∀ (s : State) (l : LinkId) (due : Bool) (b : Byte), s.resetHeld = false → s.settled → s.waits l = false →
    (s.link l).rx = .discarding due →
    let k : Link := { s.link l with silenceTicks := 0, silent := false }
    let crc := if k.profile.check then crcByte k.profile.poly k.crc b else k.crc
    exec (.byteArrives l b) s = .next (s.setLink l
      (if due then { k with rx := .idle }
      else if b = byteBegin then { k with crc := k.profile.init, rx := .header .unclassed }
      else if b = byteEnd then { k with crc := crc, rx := if k.profile.check then .discarding true else .idle }
      else { k with crc := crc }))) ∧
  (∀ (s : State) (code : Nat),
    let second := s.settings.secondOn = true ∧ code = s.settings.secondCode
    let general := s.settings.generalOn = true ∧ code = 63
    (s.matchStation code = some .own ↔ code = s.ownCode) ∧
    (s.matchStation code = some .second ↔ (code ≠ s.ownCode ∧ second)) ∧
    (s.matchStation code = some .general ↔ (code ≠ s.ownCode ∧ ¬second ∧ general)) ∧
    (s.matchStation code = none ↔ (code ≠ s.ownCode ∧ ¬second ∧ ¬general))) ∧
  ∀ (b : Byte) (d : Nat),
    (decimalValue b = some d ↔ (d < 10 ∧ b.toNat = 0x30 + d)) ∧
    (hexValue b = some d ↔ ((d < 10 ∧ b.toNat = 0x30 + d) ∨ (10 ≤ d ∧ d < 16 ∧ b.toNat = 0x41 + (d - 10))))

/-- A frame that ends badly (R12, R14, R17, R36). A check byte that disagrees records and counts CHECK: a service frame
is dropped, and a take is marked suspect and accepted under policy MARK, discarded under DISCARD. BEGIN in TEXT, or in
place of the check byte, records ABANDONED, and a take is marked truncated and suspect and accepted, or discarded; then
the new frame starts. ABANDONED is recorded before what the acceptance records (log 36). The clauses of DISCARD are for
a store with no link waiting and not in LOW. -/
def Obligations.ChecksFailAndFramesAbandoned : Prop :=
  ∀ (s : State) (l : LinkId) (b : Byte), s.resetHeld = false → s.settled → s.waits l = false →
    let k := s.link l
    let heard : State := s.setLink l { k with silenceTicks := 0, silent := false }
    let failed := ((heard.recordFault (linkSource l) .check).countLink l .checkFailures 1).modLink l fun k =>
      { k with rx := .idle }
    let ended := (heard.recordFault (linkSource l) .abandoned).modLink l fun k => { k with rx := .idle }
    let begun := fun (u : State) => u.modLink l fun k => { k with crc := k.profile.init, rx := .header .unclassed }
    let accepted := fun (u : State) (hd : Nat) (t : Take) =>
      ((((u.putTake hd
        { t with state := .ready, readyTime := some s.ms, readyClock := some (s.clock.hours, s.clock.minutes), refs := 0 }
        ).trackSerial l t.serial).countLink l .takesAccepted 1).route hd)
    let dropped := fun (u : State) (hd : Nat) (t : Take) => u.modStore fun st =>
      { st with takes := Takes.erase st.takes hd, free := st.free + t.chain.length }
    (∀ r, k.rx = .checkService r → b ≠ k.crc →
      (b ≠ byteBegin → exec (.byteArrives l b) s = .next failed) ∧
      (b = byteBegin → exec (.byteArrives l b) s = .next (begun ended))) ∧
    (∀ hd t, k.rx = .checkCopy hd → s.take? hd = some t → b ≠ k.crc → b ≠ byteBegin →
      (k.profile.policy = .mark →
        exec (.byteArrives l b) s = .next (accepted failed hd { t with suspect := true }).settle) ∧
      (k.profile.policy = .discard → s.store.waiting = [] → s.store.low = false →
        exec (.byteArrives l b) s = .next (dropped failed hd t))) ∧
    ∀ hd t, ((∃ closed, k.rx = .text hd closed) ∨ (k.rx = .checkCopy hd ∧ b ≠ k.crc)) → s.take? hd = some t →
      b = byteBegin →
      (k.profile.policy = .mark → exec (.byteArrives l b) s = .next
        (begun (accepted ended hd { t with truncated := true, suspect := true })).settle) ∧
      (k.profile.policy = .discard → s.store.waiting = [] → s.store.low = false →
        exec (.byteArrives l b) s = .next (begun (dropped ended hd t)))

/-- Serial tracking (R16): the serial d ahead of the expected one, modulo 10000, records nothing at 0, SERIAL GAP and d
on the gap total at 1 to 4999, SERIAL RESTART from 5000 on; an unset expected serial tests nothing. In every case the
expected serial becomes the next one and the serial joins the recent set as its newest, the oldest of 17 leaving. -/
def Obligations.SerialTracking : Prop :=
  ∀ (s : State) (l : LinkId) (serial : Nat), serial < 10000 →
    ∃ u : State, (∃ recent, s.trackSerial l serial =
        u.modLink l (fun k => { k with expected := some ((serial + 1) % 10000), recent := recent }) ∧
      recent.getLast? = some serial ∧
      ((s.link l).recent.Nodup → (s.link l).recent.length ≤ 16 → recent.Nodup ∧ recent.length ≤ 16) ∧
      (serial ∈ (s.link l).recent → (s.link l).recent.length ≤ 16 →
        recent = (s.link l).recent.filter (· != serial) ++ [serial]) ∧
      (serial ∉ (s.link l).recent → (s.link l).recent.length < 16 → recent = (s.link l).recent ++ [serial]) ∧
      (serial ∉ (s.link l).recent → (s.link l).recent.length = 16 →
        recent = (s.link l).recent.tail ++ [serial])) ∧
    ((s.link l).expected = none → u = s) ∧
    ∀ e < 10000, (s.link l).expected = some e →
      (serial = e → u = s) ∧
      (∀ d, 1 ≤ d → d ≤ 4999 → serial = (e + d) % 10000 →
        u = (s.recordFault (linkSource l) .serialGap).countLink l .serialGap d) ∧
      (∀ d, 5000 ≤ d → d ≤ 9999 → serial = (e + d) % 10000 → u = s.recordFault (linkSource l) .serialRestart)

/-! ### The store -/

/-- The grant rule (R27) and what a grant leaves (R28): FLASH and BULLETIN need one free segment, the others more than
the reserve; coming down to the reserve records RESERVE IN USE; a grant from within it is counted; the free count at low
water or below then puts the store in LOW (R26), STORE LOW recorded after RESERVE IN USE where one grant does both (log
16). One step of the grant arbiter (R29): the waiting request it serves is eligible, of the highest priority among the
eligible ones and of the lowest link number among those; its byte begins a new segment and its link drains on. Here the
FIFO holds that byte alone and no bookkeeping of R26 or R28 is due. That SEGMENT_GRANT without an eligible request has
no effect is the model's choice (log 3). -/
def Obligations.SegmentGrants : Prop :=
  ((∀ (st : Store) (p : Priority), st.eligible p = true ↔
      (if p = .flash ∨ p = .bulletin then 0 < st.free else st.reserve < st.free)) ∧
    ∀ s : State, 0 < s.store.free →
      let granted := s.modStore fun st =>
        { st with
          free := st.free - 1
          reserveGrants := if st.free ≤ st.reserve then BitVec.ofNat 16 (min 65535 (st.reserveGrants.toNat + 1))
            else st.reserveGrants }
      let noted := if s.store.free = s.store.reserve + 1 then granted.recordFault storeSource .reserveInUse else granted
      (s.store.low = true ∨ s.store.lowWater < s.store.free - 1 → s.noteGrant = noted) ∧
      (s.store.low = false → s.store.free - 1 ≤ s.store.lowWater → ∃ t : State, s.noteGrant = t ∧ t.store.low = true ∧
        t.store.free = s.store.free - 1 ∧ t.faults[storeSource] = some .storeLow ∧
        ∀ l : LinkId, (t.link l).hold = (decide ((s.link l).rx ≠ .disabled) && (s.link l).profile.holdCapable &&
          !(s.link l).holdSpent))) ∧
  (∀ (s : State) (w : WaitingRequest), s.store.nextServed = some w →
    w ∈ s.store.waiting ∧ s.store.eligible w.prio = true ∧ ∀ v ∈ s.store.waiting, s.store.eligible v.prio = true →
      w.prio.num < v.prio.num ∨ (w.prio.num = v.prio.num ∧ w.link.val ≤ v.link.val)) ∧
  (∀ (s : State) (w : WaitingRequest) (hd : Nat) (closed : Bool) (b : Byte) (t : Take), s.resetHeld = false →
    s.settled → s.store.nextServed = some w → (s.link w.link).rx = .text hd closed → (s.link w.link).fifo = [b] →
    s.take? hd = some t → s.store.reserve + 1 < s.store.free →
    (s.store.low = true ∨ s.store.lowWater + 1 < s.store.free) →
    exec .segmentGrant s = .next (((s.modLink w.link fun k =>
        { k with fifo := [], crc := if k.profile.check then crcByte k.profile.poly k.crc b else k.crc }).putTake hd
          { t with chain := t.chain ++ [[fold b]], length := t.length + 1 }).modStore fun st =>
            { st with free := st.free - 1, waiting := st.waiting.filter fun v => v.link != w.link })) ∧
  ∀ s : State, s.resetHeld = false → s.store.nextServed = none → exec .segmentGrant s = .next s

/-! ### Timers of a link, and its return direction -/

/-- A silence timer at its limit (R19): HEADER and a service frame are ended with ABANDONED, DISCARDING without a fault.
A take in TEXT or CHECK is ended with ABANDONED, its request withdrawn, by the policy (R17): under MARK it is released
READY, truncated and suspect, and routed; under DISCARD it is discarded and its segments return (R36; here no other link
waits and the store is not in LOW). That ABANDONED is recorded before what the release under MARK records, its serial
tests among it, is the model's choice (log 36). Bytes still in the FIFO are drained from IDLE, under DISCARD spelled out
for bytes none of which is BEGIN: each is stray. Then SILENT is set and recorded; that this comes after that draining is
the model's choice (log 32). A hold timer at its limit (R21): the line drops, the mark is set, HOLD EXPIRED is recorded
and counted. That neither command has an effect before its timer is due is the model's choice (log 1). -/
def Obligations.SilenceAndHoldTimers : Prop :=
  (∀ (s : State) (l : LinkId), s.resetHeld = false →
    ((s.link l).silenceDue = true ↔ ((s.link l).rx ≠ .disabled ∧ (s.link l).silent = false ∧
      (s.link l).profile.silenceLimit ≠ 0 ∧ (s.link l).profile.silenceLimit * 1000 ≤ (s.link l).silenceTicks)) ∧
    (s.settled → (s.link l).silenceDue = true → (s.link l).rx = .idle →
      exec (.silenceExpiry l) s = .next
        ((s.setLink l { s.link l with silent := true }).recordFault (linkSource l) .silent)) ∧
    (s.settled → (s.link l).silenceDue = true → (∃ due, (s.link l).rx = .discarding due) →
      exec (.silenceExpiry l) s = .next
        ((s.setLink l { s.link l with rx := .idle, silent := true }).recordFault (linkSource l) .silent)) ∧
    (s.settled → (s.link l).silenceDue = true →
      ((∃ x, (s.link l).rx = .header x) ∨ ∃ r, (s.link l).rx = .checkService r) →
      exec (.silenceExpiry l) s = .next
        (((s.setLink l { s.link l with rx := .idle, silent := true }).recordFault (linkSource l) .abandoned).recordFault
          (linkSource l) .silent)) ∧
    ((s.link l).silenceDue = false → exec (.silenceExpiry l) s = .next s) ∧
    ((s.link l).hold = true → (s.link l).profile.holdLimit ≤ (s.link l).holdTicks →
      exec (.holdExpiry l) s = .next ((((s.setLink l
        { s.link l with hold := false, holdTicks := 0, holdSpent := true }).countLink l .holdExpiries 1)).recordFault
          (linkSource l) .holdExpired)) ∧
    ((s.link l).hold = false ∨ (s.link l).holdTicks < (s.link l).profile.holdLimit →
      exec (.holdExpiry l) s = .next s)) ∧
  ∀ (s : State) (l : LinkId) (hd : Nat) (t : Take), s.resetHeld = false → s.settled → (s.link l).silenceDue = true →
    ((∃ closed, (s.link l).rx = .text hd closed) ∨ (s.link l).rx = .checkCopy hd) → s.take? hd = some t →
    let ended : State := ((s.recordFault (linkSource l) .abandoned).modLink l fun k => { k with rx := .idle }).modStore
      fun st => { st with waiting := st.waiting.filter fun w => w.link != l }
    let silent := fun (u : State) => (u.modLink l fun k => { k with silent := true }).recordFault (linkSource l) .silent
    ((s.link l).profile.policy = .mark →
      exec (.silenceExpiry l) s = .next (silent ((((ended.putTake hd
        { t with
          truncated := true, suspect := true, state := .ready, readyTime := some s.ms
          readyClock := some (s.clock.hours, s.clock.minutes), refs := 0 }
        ).trackSerial l t.serial).countLink l .takesAccepted 1).route hd).settle)) ∧
    ((s.link l).profile.policy = .discard → (∀ w ∈ s.store.waiting, w.link = l) → s.store.low = false →
      (∀ b ∈ (s.link l).fifo, b ≠ byteBegin) →
      exec (.silenceExpiry l) s = .next (silent (((ended.modStore fun st =>
        { st with takes := Takes.erase st.takes hd, free := st.free + t.chain.length }).modLink l fun k =>
          { k with fifo := [] }).countLink l .stray (s.link l).fifo.length)))

/-- The answer of a request: it leaves the queue, its timers stop, requests done counts one, and its reply frame, the
check byte over everything after BEGIN, joins the return direction of its link, or is dropped with REPLY OVERFLOW at four
frames. REPLY_FRAME_SENT takes the head frame off (R158, R159, R181). That the frame now at the head begins at once,
at the rate of that moment, is log 17. -/
def Obligations.AnswersAndReplyQueues : Prop :=
  (∀ (s : State) (r : Request) (x : Result) (limited : Bool) (v : List Byte),
    let k := s.link r.link
    let body := 0x52#8 :: (hexByte (BitVec.ofNat 8 s.ownCode) ++
      [match r.matched with | .own => 0x30#8 | .second => 0x31#8 | .general => 0x32#8] ++ hexByte r.kind ++
      hexByte r.serial ++ hexByte x.code ++ [if limited then 0x31#8 else 0x30#8] ++ v.flatMap hexByte ++ [0x03#8])
    let frame := 0x01#8 :: (body ++ [crcBytes k.profile.poly k.profile.init body])
    let left : State :=
      { s with
        requests := s.requests.tail, retryTimer := none
        requestsDone := BitVec.ofNat 16 (min 65535 (s.requestsDone.toNat + 1)) }
    s.complete r x limited v =
      if k.replies.length < 4 then
        left.setLink r.link
          { k with
            replies := k.replies ++ [frame], sendRate := if k.replies = [] then some k.profile.rate else k.sendRate }
      else { left with faults := left.faults.set 25 (some .replyOverflow) }) ∧
  ∀ (s : State) (l : LinkId), s.resetHeld = false →
    ((s.link l).replies = [] → exec (.replyFrameSent l) s = .next s) ∧
    (∀ f, (s.link l).replies = [f] →
      exec (.replyFrameSent l) s = .next (s.setLink l { s.link l with replies := [], sendRate := none })) ∧
    ∀ f g rest, (s.link l).replies = f :: g :: rest →
      exec (.replyFrameSent l) s = .next
        (s.setLink l { s.link l with replies := g :: rest, sendRate := some (s.link l).profile.rate })

/-! ### Supervision -/

/-- A fault recorded: its entry takes the code; with fault notices on, and but for REPLY OVERFLOW, the notice number
rises and a numbered notice with source, code, hours and minutes joins the desk link's queue, or is dropped at four
frames with REPLY OVERFLOW, which queues nothing (R176, R179, R180, R183). The watch period at its end: the timer
restarts, and a non-empty list is reported to the desk link in a numbered notice of kind 02, which clears nothing (R175,
R179, R183); before its end WATCH_REPORT has no effect (log 1). A frame that joins an empty queue begins at once at the
present rate (log 17). -/
def Obligations.FaultAndWatchNotices : Prop :=
  (∀ (s : State) (src : Fin 26) (code : FaultCode),
      let marked : State := { s with faults := s.faults.set src (some code) }
      let desk := s.settings.deskLink
      let k := s.link desk
      let body := 0x4E#8 :: (hexByte (BitVec.ofNat 8 s.ownCode) ++ hexByte 0x01 ++ hexByte (s.noticeNumber + 1) ++
        hexByte (BitVec.ofNat 8 src.val) ++ hexByte code.byte ++ hexByte (BitVec.ofNat 8 s.clock.hours) ++
        hexByte (BitVec.ofNat 8 s.clock.minutes) ++ [0x03#8])
      let frame := 0x01#8 :: (body ++ [crcBytes k.profile.poly k.profile.init body])
      (s.settings.notices = false ∨ code = .replyOverflow → s.recordFault src code = marked) ∧
      (s.settings.notices = true → code ≠ .replyOverflow → k.replies.length < 4 →
        s.recordFault src code = { marked with noticeNumber := s.noticeNumber + 1 }.setLink desk
          { k with
            replies := k.replies ++ [frame], sendRate := if k.replies = [] then some k.profile.rate else k.sendRate }) ∧
      (s.settings.notices = true → code ≠ .replyOverflow → 4 ≤ k.replies.length →
        s.recordFault src code =
          { marked with noticeNumber := s.noticeNumber + 1, faults := marked.faults.set 25 (some .replyOverflow) })) ∧
  ∀ s : State, s.resetHeld = false →
    (∀ n, s.watchTimer = some n → s.settings.watchPeriod * 1000 ≤ n → s.watch = [] →
      exec .watchReport s = .next { s with watchTimer := some 0 }) ∧
    (∀ n, s.watchTimer = some n → s.settings.watchPeriod * 1000 ≤ n → s.watch ≠ [] →
      let k := s.link s.settings.deskLink
      let body := 0x4E#8 :: (hexByte (BitVec.ofNat 8 s.ownCode) ++ hexByte 0x02 ++ hexByte (s.noticeNumber + 1) ++
        hexByte (BitVec.ofNat 8 s.watch.length) ++ (s.watch.flatMap fun p => hexBytes (num2 (s.pointValue p))) ++
        [0x03#8])
      let frame := 0x01#8 :: (body ++ [crcBytes k.profile.poly k.profile.init body])
      let rung : State := { s with watchTimer := some 0, noticeNumber := s.noticeNumber + 1 }
      exec .watchReport s = .next
        (if k.replies.length < 4 then
          rung.setLink s.settings.deskLink
            { k with
              replies := k.replies ++ [frame]
              sendRate := if k.replies = [] then some k.profile.rate else k.sendRate }
        else { rung with faults := s.faults.set 25 (some .replyOverflow) })) ∧
    (s.watchTimer = none ∨ (∃ n, s.watchTimer = some n ∧ n < s.settings.watchPeriod * 1000) →
      exec .watchReport s = .next s)

/-- FAULT READ answers DONE with the 26 codes in source order, FF for NONE, and leaves every entry NONE; where the reply
is dropped, the summary holds the one REPLY OVERFLOW of that drop (R178). ATTENTION is asserted exactly while some entry
holds a code, so raised by every recording; released by a FAULT READ that leaves every entry NONE and at hardware reset;
left by copy restart as the summary requires; and independent of the fault-notices setting (R177). -/
def Obligations.FaultReadAndAttention : Prop :=
  (∀ (s : State) (h : ReqHead), s.serviceIdle →
    exec (.faultRead h) s = .next ({ s with faults := Vector.replicate 26 none }.answer h 0x0A [] .done false
      (List.ofFn fun src : Fin 26 => match s.faults[src] with | some code => code.byte | none => 0xFF#8)) ∧
    ∃ t : State, exec (.faultRead h) s = .next t ∧ t.attention = decide (4 ≤ (s.link h.link).replies.length) ∧
      ∀ src : Fin 26, t.faults[src] =
        if 4 ≤ (s.link h.link).replies.length ∧ src = 25 then some .replyOverflow else none) ∧
  (∀ s : State, s.attention = true ↔ ∃ src : Fin 26, s.faults[src] ≠ none) ∧
  (∀ (s : State) (src : Fin 26) (code : FaultCode), (s.recordFault src code).attention = true) ∧
  (∀ (s : State) (h : ReqHead), s.serviceIdle → ∃ t : State, exec (.faultRead h) s = .next t ∧
    (t.attention = false ↔ (s.link h.link).replies.length < 4)) ∧
  (∀ (s : State) (straps : BitVec 6), ∃ t : State, exec (.hardwareReset straps) s = .next t ∧ t.attention = false) ∧
  (∀ (s : State) (h : ReqHead), s.serviceIdle → ∃ t : State, exec (.copyRestart h) s = .next t ∧
    t.faults = s.faults ∧ t.attention = s.attention) ∧
  ∀ (s : State) (b : Bool), (s.modSettings fun g => { g with notices := b }).attention = s.attention

/-- WATCH ENTER of up to twenty points replaces the whole list, in order, and answers DONE with the count; a count above
20, parameters that end short and a point that names nothing are BAD VALUE (R172, R173). WATCH READ: a flag other than
00 and 01 is refused first, an empty list answers NO WATCH LIST; else the count and the values are answered as they
stood, and with the flag on every counter named reads 0 afterwards, requests done reading 1 for this request, while
gauges, other counters and all else stay (R158, R174). -/
def Obligations.WatchListRequests : Prop :=
  (∀ (s : State) (h : ReqHead) (n : Byte), s.serviceIdle →
    (∀ (ps : List WatchPoint) (more : List Byte), ps.length = n.toNat → n.toNat ≤ 20 →
      exec (.watchEnter h n (ps.flatMap WatchPoint.bytes ++ more)) s = .next
        ({ s with watch := ps }.answer h 0x08 (n :: (ps.flatMap WatchPoint.bytes ++ more)) .done false [n])) ∧
    (∀ bytes : List Byte, (20 < n.toNat ∨ bytes.length < 3 * n.toNat) →
      exec (.watchEnter h n bytes) s = .next (s.answer h 0x08 (n :: bytes) .badValue false [])) ∧
    ∀ (ps : List WatchPoint) (kind index id : Byte) (more : List Byte), ps.length < n.toNat →
      (∀ p : WatchPoint, p.bytes ≠ [kind, index, id]) →
      exec (.watchEnter h n (ps.flatMap WatchPoint.bytes ++ kind :: index :: id :: more)) s = .next
        (s.answer h 0x08 (n :: (ps.flatMap WatchPoint.bytes ++ kind :: index :: id :: more)) .badValue false [])) ∧
  ∀ (s : State) (h : ReqHead) (clear : Byte), s.serviceIdle →
    (clear ≠ 0x00 → clear ≠ 0x01 →
      exec (.watchRead h clear) s = .next (s.answer h 0x09 [clear] .badValue false [])) ∧
    (clear = 0x00 ∨ clear = 0x01 → s.watch = [] →
      exec (.watchRead h clear) s = .next (s.answer h 0x09 [clear] .noWatchList false [])) ∧
    (clear = 0x00 → s.watch ≠ [] →
      exec (.watchRead h clear) s = .next (s.answer h 0x09 [clear] .done false
        (BitVec.ofNat 8 s.watch.length :: s.watch.flatMap fun p => num2 (s.pointValue p)))) ∧
    (clear = 0x01 → s.watch ≠ [] → ∃ u : State,
      exec (.watchRead h clear) s = .next (u.answer h 0x09 [clear] .done false
        (BitVec.ofNat 8 s.watch.length :: s.watch.flatMap fun p => num2 (s.pointValue p))) ∧
      (∀ (l : LinkId) (p : LinkPoint), (u.link l).counters.get p =
        if .link l p ∈ s.watch then 0 else (s.link l).counters.get p) ∧
      (∀ (i : CircuitId) (p : CircuitPoint), (u.circuit i).counters.get p =
        if .circuit i p ∈ s.watch then 0 else (s.circuit i).counters.get p) ∧
      (∀ l : LinkId, u.link l = { s.link l with counters := (u.link l).counters }) ∧
      (∀ i : CircuitId, u.circuit i = { s.circuit i with counters := (u.circuit i).counters }) ∧
      u = { s with
        links := u.links, circuits := u.circuits
        store := { s.store with
          reserveGrants := if .reserveGrants ∈ s.watch then 0 else s.store.reserveGrants }
        requestsDone := if .requestsDone ∈ s.watch then 0 else s.requestsDone
        requestsTimedOut := if .requestsTimedOut ∈ s.watch then 0 else s.requestsTimedOut } ∧
      (.requestsDone ∈ s.watch → (u.answer h 0x09 [clear] .done false []).requestsDone = 1))

/-! ### The request queue (R154 to R157) -/

/-- A service request, of any kind, that meets a queue with requests in it joins the tail without effect; at eight it is
discarded with REQUEST OVERFLOW and nothing else (R154). An expired time check (R155): a limit of 0 or 1 counts as 2, in
units of ten ticks; the request leaves the queue from where it stands, without effect, counted and answered TIMED OUT; a
withdrawn lone head stops the retry timer, and with requests behind it the next one is executed at once. A retry (R157):
when the interval is over, the waiting head is executed again with every check afresh: here LINK DISABLE, which finds its
link still in a frame and waits on with the timer started again, or finds it IDLE, disables it and is answered. Before
their times the two commands have no effect (log 1); links drain on after the requests executed (log 3). -/
def Obligations.RequestQueueAndTimers : Prop :=
  (∀ (s : State) (c : Instr) (h : ReqHead) (kind : Byte) (ps : List Byte), s.resetHeld = false → s.settled →
      c.request? = some (h, kind, ps) →
      (s.requests ≠ [] → s.requests.length < 8 →
        exec c s = .next { s with
          requests := s.requests ++
            [{ link := h.link, matched := h.matched, kind := kind, serial := h.serial, timeCheck := h.timeCheck.toNat
               params := ps, elapsed := 0 }] }) ∧
      (8 ≤ s.requests.length → exec c s = .next (s.recordFault serviceSource .requestOverflow))) ∧
  (∀ (s : State) (n : Fin 8), s.resetHeld = false → s.settled →
      (∀ r, s.requests[n.val]? = some r → r.elapsed < max 2 r.timeCheck * 10 →
        exec (.requestTimedOut n) s = .next s) ∧
      (s.requests[n.val]? = none → exec (.requestTimedOut n) s = .next s) ∧
      (∀ r, s.requests[n.val]? = some r → max 2 r.timeCheck * 10 ≤ r.elapsed → (n ≠ 0 ∨ s.requests = [r]) →
        exec (.requestTimedOut n) s = .next ({ s with
          requests := s.requests.eraseIdx n.val
          retryTimer := if n = 0 then none else s.retryTimer
          requestsTimedOut := BitVec.ofNat 16 (min 65535 (s.requestsTimedOut.toNat + 1)) }.reply r .timedOut false [])) ∧
      (∀ r q rest, s.requests = r :: q :: rest → n = 0 → max 2 r.timeCheck * 10 ≤ r.elapsed →
        exec (.requestTimedOut n) s = .next (({ s with
          requests := q :: rest, retryTimer := none
          requestsTimedOut := BitVec.ofNat 16 (min 65535 (s.requestsTimedOut.toNat + 1)) }.reply r .timedOut false
            []).runQueue.settle))) ∧
  ∀ (s : State), s.resetHeld = false →
    ((s.retryTimer = none ∨ ∃ x, s.retryTimer = some x ∧ x.ticks < x.limit) → exec .retry s = .next s) ∧
    ∀ (x : RetryTimer) (r : Request) (l : LinkId), s.settled → s.retryTimer = some x → x.limit ≤ x.ticks →
      s.requests = [r] → r.kind = 0x05 → r.params = [BitVec.ofNat 8 l.val, 0x02] →
      ((s.link l).rx ≠ .idle → (s.link l).rx ≠ .disabled →
        exec .retry s = .next { s with retryTimer := some { ticks := 0, limit := max 1 s.settings.retry } }) ∧
      ((s.link l).rx = .idle →
        exec .retry s = .next ((s.setLink l
          { s.link l with
            rx := .disabled, fifo := [], silent := false, hold := false
            holdTicks := if (s.link l).hold then 0 else (s.link l).holdTicks }).complete r .done false [0x00]))

/-! ### IDENTIFY and the tables -/

/-- IDENTIFY answers DONE with model, variant and revision, own code, second code, the two enables, and the eight
capacities, and changes nothing else (R160, R184). -/
def Obligations.IdentifyAnswers : Prop :=
  ∀ (s : State) (h : ReqHead), s.serviceIdle →
    exec (.identify h) s = .next (s.answer h 0x01 [] .done false
      ([0x08, 0x16, 0x01, BitVec.ofNat 8 s.ownCode, BitVec.ofNat 8 s.settings.secondCode,
        if s.settings.secondOn then 0x01 else 0x00, if s.settings.generalOn then 0x01 else 0x00] ++
       [0x00, 0x08, 0x00, 0x10, 0x04, 0x00, 0x02, 0x00, 0x01, 0x00, 0x02, 0x00, 0x00, 0x20, 0x00, 0x14]))

/-- TABLE READ answers DONE with the present value of every field of the six tables, the field numbers and forms of R185,
a CIRCUIT field followed by its pending switch, and changes nothing else (R150, R162; log 13, log 14). -/
def Obligations.TableReadsAnswer : Prop :=
  ∀ (s : State) (h : ReqHead) (index : Byte), s.serviceIdle →
    let reads := fun (table : Byte) (fields : List (Byte × List Byte)) => ∀ fv ∈ fields,
      exec (.tableRead h table index fv.1) s = .next (s.answer h 0x02 [table, index, fv.1] .done false fv.2)
    (∀ n : Fin 216, index.toNat = n.val → reads 0x01
      [(0x01, sw s.routes[n].enabled), (0x02, num2 s.routes[n].circuits.toNat), (0x03, sgn1 s.routes[n].adjust)]) ∧
    (∀ i : CircuitId, index.toNat = i.val →
      let p := (s.circuit i).active
      let g := (s.circuit i).staged
      reads 0x02
        ([(0x01, num2 p.form.period ++ sw g.period.isSome),
          (0x02, [match p.form.stop with | .one => 0x01 | .oneAndHalf => 0x02 | .two => 0x03] ++ sw g.stop.isSome),
          (0x03, num1 p.form.width ++ sw g.width.isSome), (0x04, num1 p.form.nCR ++ sw g.nCR.isSome),
          (0x05, num1 p.form.nLF ++ sw g.nLF.isSome), (0x06, sw p.form.reassert ++ sw g.reassert.isSome),
          (0x07, sw p.form.unshift ++ sw g.unshift.isSome), (0x08, sw p.form.spacing ++ sw g.spacing.isSome),
          (0x09, num1 p.form.bells.flash ++ sw g.bells.flash.isSome),
          (0x0A, num1 p.form.bells.bulletin ++ sw g.bells.bulletin.isSome),
          (0x0B, num1 p.form.bells.urgent ++ sw g.bells.urgent.isSome),
          (0x0C, num1 p.form.bells.routine ++ sw g.bells.routine.isSome),
          (0x0D, num1 p.form.bells.deferred ++ sw g.bells.deferred.isSome)] ++
         [(0x0E, [match p.stopMode with | .mark => 0x00 | .space => 0x01 | .fill => 0x02, 0x00]),
          (0x0F, [match p.idleMode with | .mark => 0x00 | .fill => 0x01, 0x00]), (0x10, sw p.accepting ++ [0x00]),
          (0x11, sw p.abCheck ++ [0x00]), (0x12, str p.abExpected ++ [0x00]), (0x13, num2 p.abWindow ++ [0x00]),
          (0x14, num2 p.breakDetect ++ [0x00]), (0x15, num2 p.restoreTime ++ [0x00]),
          (0x16, [match p.breakInLevel with | .none => 0x00 | .flash => 0x01 | .flashBulletin => 0x02, 0x00]),
          (0x17, num2 p.breakInWait ++ [0x00]), (0x18, num1 p.depth ++ [0x00]), (0x19, num2 p.shed ++ [0x00]),
          (0x1A, num2 p.stale.flash ++ [0x00]), (0x1B, num2 p.stale.bulletin ++ [0x00]),
          (0x1C, num2 p.stale.urgent ++ [0x00]), (0x1D, num2 p.stale.routine ++ [0x00]),
          (0x1E, num2 p.stale.deferred ++ [0x00]),
          (0x20, [match (s.circuit i).state with
            | .stopped => 0x00 | .identifying => 0x01 | .ready => 0x02 | .sending => 0x03 | .broken => 0x04
            | .faulted => 0x05, 0x00]),
          (0x21, [if g = .absent then 0x00 else 0x01, 0x00])])) ∧
    (∀ l : LinkId, index.toNat = l.val →
      let k := s.link l
      reads 0x03
        [(0x01, sw (decide (k.rx ≠ .disabled))),
         (0x02, [match k.profile.rate with | .b1200 => 0x00 | .b2400 => 0x01 | .b4800 => 0x02 | .b9600 => 0x03]),
         (0x03, sw k.profile.check), (0x04, [k.profile.poly]), (0x05, [k.profile.init]),
         (0x06, [match k.profile.policy with | .mark => 0x00 | .discard => 0x01]), (0x07, sw k.profile.holdCapable),
         (0x08, num2 k.profile.holdLimit), (0x09, sw k.profile.servicePermitted), (0x0A, str k.profile.tag),
         (0x0B, num2 k.profile.silenceLimit), (0x0C, sw k.profile.dupSuppress), (0x20, [k.rx.code]),
         (0x21, sw k.silent), (0x22, sw k.hold)]) ∧
    (∀ n : Fin 32, index.toNat = n.val → reads 0x04
      [(0x01, [s.subst[n].source.getD 0x00]), (0x02, str s.subst[n].replacement)]) ∧
    (index = 0 → reads 0x05
      [(0x01, num2 s.store.reserve), (0x02, num2 s.store.lowWater), (0x03, num2 s.store.highWater),
       (0x20, num2 s.store.free), (0x21, sw s.store.low)]) ∧
    (index = 0 → reads 0x06
      [(0x01, num1 s.settings.secondCode), (0x02, sw s.settings.secondOn), (0x03, sw s.settings.generalOn),
       (0x04, num1 s.settings.retry), (0x05, num1 s.settings.deskLink.val), (0x06, sw s.settings.notices),
       (0x07, num2 s.settings.watchPeriod), (0x20, num1 s.ownCode),
       (0x21, [BitVec.ofNat 8 s.clock.hours, BitVec.ofNat 8 s.clock.minutes, BitVec.ofNat 8 s.clock.seconds])])

/-- The address checks of a TABLE READ, in order (R161, R162): no table of that code, no entry of that index, no field
of that number; a refused request has no effect (R158). The same of the write of each table, whose value is not looked
at before (R163), a read-only field included. And what comes before them, of any request handed to the idle Service
Unit, as the byte path of a service frame hands it: a kind outside the twelve is UNKNOWN REQUEST, and parameters that
end before the bytes of the kind are BAD VALUE (R156; the list of WATCH ENTER and the values of TABLE WRITE are in the
statements about those). CIRCUIT CONTROL with a circuit above 15, or LINK CONTROL with a link above 7, is BAD INDEX, and
an action outside its list is BAD VALUE (R165, R166); that the number is tested before the action where both are wrong
is the model's choice (log 15). -/
def Obligations.TableAddressesChecked : Prop :=
  (∀ (s : State) (h : ReqHead) (index field : Byte) (v : List Byte), s.serviceIdle →
    (∀ table : Byte, table = 0x00 ∨ 6 < table.toNat →
      exec (.tableRead h table index field) s = .next (s.answer h 0x02 [table, index, field] .badTable false [])) ∧
    (∀ te ∈ [((0x01 : Byte), 216), (0x02, 16), (0x03, 8), (0x04, 32), (0x05, 1), (0x06, 1)],
      te.2 ≤ index.toNat →
        exec (.tableRead h te.1 index field) s = .next (s.answer h 0x02 [te.1, index, field] .badIndex false [])) ∧
    (∀ tf ∈ [((0x01 : Byte), 216, [(0x01 : Byte), 0x02, 0x03]), (0x03, 8, [0x01, 0x02, 0x03, 0x04, 0x05, 0x06, 0x07, 0x08,
          0x09, 0x0A, 0x0B, 0x0C, 0x20, 0x21, 0x22]), (0x04, 32, [0x01, 0x02]), (0x05, 1, [0x01, 0x02, 0x03, 0x20, 0x21]),
          (0x06, 1, [0x01, 0x02, 0x03, 0x04, 0x05, 0x06, 0x07, 0x20, 0x21])],
      index.toNat < tf.2.1 → field ∉ tf.2.2 →
        exec (.tableRead h tf.1 index field) s = .next (s.answer h 0x02 [tf.1, index, field] .badField false [])) ∧
    (index.toNat < 16 → (field = 0x00 ∨ field = 0x1F ∨ 0x21 < field.toNat) →
      exec (.tableRead h 0x02 index field) s = .next (s.answer h 0x02 [0x02, index, field] .badField false [])) ∧
    (216 ≤ index.toNat → exec (.tableWriteRoute h index field v) s =
      .next (s.answer h 0x03 (0x01 :: index :: field :: v) .badIndex false [])) ∧
    (16 ≤ index.toNat → exec (.tableWriteCircuit h index field v) s =
      .next (s.answer h 0x03 (0x02 :: index :: field :: v) .badIndex false [])) ∧
    (8 ≤ index.toNat → exec (.tableWriteLink h index field v) s =
      .next (s.answer h 0x03 (0x03 :: index :: field :: v) .badIndex false [])) ∧
    (32 ≤ index.toNat → exec (.tableWriteSubst h index field v) s =
      .next (s.answer h 0x03 (0x04 :: index :: field :: v) .badIndex false [])) ∧
    (index ≠ 0 → exec (.tableWriteStore h index field v) s =
      .next (s.answer h 0x03 (0x05 :: index :: field :: v) .badIndex false [])) ∧
    (index ≠ 0 → exec (.tableWriteService h index field v) s =
      .next (s.answer h 0x03 (0x06 :: index :: field :: v) .badIndex false [])) ∧
    (index.toNat < 16 → (field = 0x00 ∨ 0x1E < field.toNat) →
      exec (.tableWriteCircuit h index field v) s =
        .next (s.answer h 0x03 (0x02 :: index :: field :: v) .badField false [])) ∧
    (index.toNat < 8 → (field = 0x00 ∨ 0x0C < field.toNat) →
      exec (.tableWriteLink h index field v) s =
        .next (s.answer h 0x03 (0x03 :: index :: field :: v) .badField false [])) ∧
    (index = 0 → (field = 0x00 ∨ 0x07 < field.toNat) →
      exec (.tableWriteService h index field v) s =
        .next (s.answer h 0x03 (0x06 :: index :: field :: v) .badField false [])) ∧
    (index.toNat < 216 → (field = 0x00 ∨ 0x03 < field.toNat) →
      exec (.tableWriteRoute h index field v) s =
        .next (s.answer h 0x03 (0x01 :: index :: field :: v) .badField false [])) ∧
    (index = 0 → (field = 0x00 ∨ 0x03 < field.toNat) →
      exec (.tableWriteStore h index field v) s =
        .next (s.answer h 0x03 (0x05 :: index :: field :: v) .badField false [])) ∧
    (index.toNat < 32 → (field = 0x00 ∨ 0x02 < field.toNat) →
      exec (.tableWriteSubst h index field v) s =
        .next (s.answer h 0x03 (0x04 :: index :: field :: v) .badField false []))) ∧
  ∀ (s : State) (h : ReqHead) (ps : List Byte), s.serviceIdle →
    (∀ kind : Byte, (kind = 0x00 ∨ 0x0C < kind.toNat) →
      s.request h kind ps = s.answer h kind ps .unknownRequest false []) ∧
    (∀ kn ∈ [((0x02 : Byte), 3), (0x03, 3), (0x04, 2), (0x05, 2), (0x06, 3), (0x07, 2), (0x08, 1), (0x09, 1), (0x0B, 3)],
      ps.length < kn.2 → s.request h kn.1 ps = s.answer h kn.1 ps .badValue false []) ∧
    ∀ (n action : Byte) (more : List Byte), ps = n :: action :: more →
      (16 ≤ n.toNat → s.request h 0x04 ps = s.answer h 0x04 ps .badIndex false []) ∧
      (n.toNat < 16 → (action = 0x00 ∨ 0x06 < action.toNat) →
        s.request h 0x04 ps = s.answer h 0x04 ps .badValue false []) ∧
      (8 ≤ n.toNat → s.request h 0x05 ps = s.answer h 0x05 ps .badIndex false []) ∧
      (n.toNat < 8 → (action = 0x00 ∨ 0x03 < action.toNat) →
        s.request h 0x05 ps = s.answer h 0x05 ps .badValue false [])

/-- A TABLE WRITE of the ROUTE and SUBST tables (R43, R83 to R85, R163): the field takes the value, an adjustment limited
to -2 to 2, and the reply carries the value held; an undefined switch, a source that is not lawful or stands in another
entry, and a replacement that is too long or holds another character are refused. Nothing else changes. -/
def Obligations.RouteAndSubstWrites : Prop :=
  ∀ (s : State) (h : ReqHead) (index : Byte) (more : List Byte), s.serviceIdle →
    (∀ n : Fin 216, index.toNat = n.val →
      let e := s.routes[n]
      let done := fun (field : Byte) (v held : List Byte) (limited : Bool) (e' : RouteEntry) =>
        exec (.tableWriteRoute h index field (v ++ more)) s = .next
          ({ s with routes := s.routes.set n e' }.answer h 0x03 (0x01 :: index :: field :: (v ++ more)) .done limited held)
      (∀ b : Bool, done 0x01 (sw b) (sw b) false { e with enabled := b }) ∧
      (∀ set : CircuitSet, done 0x02 (num2 set.toNat) (num2 set.toNat) false { e with circuits := set }) ∧
      (∀ a : Int, -128 ≤ a → a ≤ 127 →
        done 0x03 (sgn1 a) (sgn1 (max (-2) (min 2 a))) (decide (a < -2 ∨ 2 < a)) { e with adjust := max (-2) (min 2 a) }) ∧
      ∀ b : Byte, 1 < b.toNat → exec (.tableWriteRoute h index 0x01 (b :: more)) s = .next
        (s.answer h 0x03 (0x01 :: index :: 0x01 :: b :: more) .badValue false [])) ∧
    (∀ n : Fin 32, index.toNat = n.val →
      let e := s.subst[n]
      let done := fun (field : Byte) (v : List Byte) (e' : SubstEntry) =>
        exec (.tableWriteSubst h index field (v ++ more)) s = .next
          ({ s with subst := s.subst.set n e' }.answer h 0x03 (0x04 :: index :: field :: (v ++ more)) .done false v)
      done 0x01 [0x00] { e with source := none } ∧
      (∀ b : Byte, (isNonDirectPrintable b || isHigh b) = true → (∀ m : Fin 32, m ≠ n → s.subst[m].source ≠ some b) →
        done 0x01 [b] { e with source := some b }) ∧
      (∀ b : Byte, b ≠ 0x00 → ((isNonDirectPrintable b || isHigh b) = false ∨
          ∃ m : Fin 32, m ≠ n ∧ s.subst[m].source = some b) →
        exec (.tableWriteSubst h index 0x01 (b :: more)) s = .next
          (s.answer h 0x03 (0x04 :: index :: 0x01 :: b :: more) .badValue false [])) ∧
      (∀ cs : List Byte, cs.length ≤ 3 → cs.all isWordChar = true → done 0x02 (str cs) { e with replacement := cs }) ∧
      ∀ cs : List Byte, cs.length < 256 → (3 < cs.length ∨ cs.all isWordChar = false) →
        exec (.tableWriteSubst h index 0x02 (str cs ++ more)) s = .next
          (s.answer h 0x03 (0x04 :: index :: 0x02 :: (str cs ++ more)) .badValue false []))

/-- A TABLE WRITE of a field that fixes a take's form (R145, R147, R148): while the circuit is SENDING the value becomes
the staged value, answered STAGED; in any other state it becomes active at once, answered DONE. Numbers are limited with
the limited flag; an undefined stop length or switch is refused with BAD VALUE and changes nothing. -/
def Obligations.CircuitFormWrites : Prop :=
  ∀ (s : State) (h : ReqHead) (i : CircuitId) (index : Byte) (more : List Byte), s.serviceIdle → index.toNat = i.val →
    let c := s.circuit i
    let writes := fun (field : Byte) (v held : List Byte) (limited : Bool) (g : Staged) (f : Form) =>
      exec (.tableWriteCircuit h index field (v ++ more)) s = .next
        (if c.state = .sending then
          (s.setCircuit i { c with staged := g }).answer h 0x03 (0x02 :: index :: field :: (v ++ more)) .staged limited
            held
        else
          (s.setCircuit i { c with active := { c.active with form := f } }).answer h 0x03
            (0x02 :: index :: field :: (v ++ more)) .done limited held)
    let refuses := fun (field : Byte) (v : List Byte) =>
      exec (.tableWriteCircuit h index field v) s = .next
        (s.answer h 0x03 (0x02 :: index :: field :: v) .badValue false [])
    let g := c.staged
    let f := c.active.form
    (∀ n < 65536, writes 0x01 (num2 n) (num2 (max 4607 n)) (decide (n < 4607)) { g with period := some (max 4607 n) }
      { f with period := max 4607 n }) ∧
    (∀ bs ∈ [((0x01 : Byte), StopLength.one), (0x02, .oneAndHalf), (0x03, .two)],
      writes 0x02 [bs.1] [bs.1] false { g with stop := some bs.2 } { f with stop := bs.2 }) ∧
    (∀ n < 256, writes 0x03 (num1 n) (num1 (max 20 (min 80 n))) (decide (n < 20 ∨ 80 < n))
      { g with width := some (max 20 (min 80 n)) } { f with width := max 20 (min 80 n) }) ∧
    (∀ n < 256, writes 0x04 (num1 n) (num1 (max 1 (min 2 n))) (decide (n < 1 ∨ 2 < n))
      { g with nCR := some (max 1 (min 2 n)) } { f with nCR := max 1 (min 2 n) }) ∧
    (∀ n < 256, writes 0x05 (num1 n) (num1 (max 1 (min 2 n))) (decide (n < 1 ∨ 2 < n))
      { g with nLF := some (max 1 (min 2 n)) } { f with nLF := max 1 (min 2 n) }) ∧
    (∀ b : Bool, writes 0x06 (sw b) (sw b) false { g with reassert := some b } { f with reassert := b } ∧
      writes 0x07 (sw b) (sw b) false { g with unshift := some b } { f with unshift := b } ∧
      writes 0x08 (sw b) (sw b) false { g with spacing := some b } { f with spacing := b }) ∧
    (∀ fp ∈ [((0x09 : Byte), Priority.flash), (0x0A, .bulletin), (0x0B, .urgent), (0x0C, .routine), (0x0D, .deferred)],
      ∀ n < 256, writes fp.1 (num1 n) (num1 (min 15 n)) (decide (15 < n))
        { g with bells := g.bells.set fp.2 (some (min 15 n)) } { f with bells := f.bells.set fp.2 (min 15 n) }) ∧
    (∀ b : Byte, (b = 0x00 ∨ 3 < b.toNat) → refuses 0x02 (b :: more)) ∧
    (∀ b : Byte, 1 < b.toNat → refuses 0x06 (b :: more) ∧ refuses 0x07 (b :: more) ∧ refuses 0x08 (b :: more)) ∧
    refuses 0x01 [] ∧ (∀ b, refuses 0x01 [b]) ∧ refuses 0x03 [] ∧ refuses 0x04 [] ∧ refuses 0x05 []

/-- A TABLE WRITE of a CIRCUIT field that applies at once (R117, R126, R127, R129, R144, R147). A stop mode written in
STOPPED or FAULTED reaches the line at once where the pacer stands, FILL starting it; a written break detect or restore
time that the run in progress has reached acts at once. Turning the answer-back check on with an empty expected
answer-back, emptying that with the check on, and an unlawful answer-back are refused. The model's choice: a pacer that
in STOPPED or FAULTED still completes its character time runs (log 19), and keeps its phase where FILL is written; the
line then shows MARK or SPACE only at that character-time end, where R144 could be read to show it at once (log 41). -/
def Obligations.CircuitPlainWrites : Prop :=
  ∀ (s : State) (h : ReqHead) (i : CircuitId) (index : Byte) (more : List Byte), s.serviceIdle → index.toNat = i.val →
    let c := s.circuit i
    let p := c.active
    let becomes := fun (field : Byte) (v held : List Byte) (limited : Bool) (t : State) =>
      exec (.tableWriteCircuit h index field (v ++ more)) s = .next
        (t.answer h 0x03 (0x02 :: index :: field :: (v ++ more)) .done limited held)
    let writes := fun (field : Byte) (v held : List Byte) (limited : Bool) (p' : Profile) =>
      becomes field v held limited (s.setCircuit i { c with active := p' })
    let refuses := fun (field : Byte) (v : List Byte) =>
      exec (.tableWriteCircuit h index field v) s = .next
        (s.answer h 0x03 (0x02 :: index :: field :: v) .badValue false [])
    (∀ bm ∈ [((0x00 : Byte), StopMode.mark, Slot.mark), (0x01, .space, .space)],
      becomes 0x0E [bm.1] [bm.1] false (s.setCircuit i
        { c with
          active := { p with stopMode := bm.2.1 }
          slot := if (c.state = .stopped ∨ c.state = .faulted) ∧ c.pacer.running = false then bm.2.2 else c.slot })) ∧
    becomes 0x0E [0x02] [0x02] false (s.setCircuit i
      { c with
        active := { p with stopMode := .fill }
        pacer := if (c.state = .stopped ∨ c.state = .faulted) ∧ c.pacer.running = false then
            { running := true, period := p.form.period, charLen := p.form.stop.charLen }
          else c.pacer }) ∧
    (∀ bm ∈ [((0x00 : Byte), IdleMode.mark), (0x01, .fill)], writes 0x0F [bm.1] [bm.1] false { p with idleMode := bm.2 }) ∧
    (∀ b : Bool, writes 0x10 (sw b) (sw b) false { p with accepting := b }) ∧
    (∀ b : Bool, (b = false ∨ p.abExpected ≠ []) → writes 0x11 (sw b) (sw b) false { p with abCheck := b }) ∧
    (p.abExpected = [] → refuses 0x11 (0x01 :: more)) ∧
    (∀ cs : List Byte, cs.length ≤ 16 → cs.all isAnswerChar = true → (cs ≠ [] ∨ p.abCheck = false) →
      writes 0x12 (str cs) (str cs) false { p with abExpected := cs }) ∧
    (∀ cs : List Byte, cs.length < 256 → (16 < cs.length ∨ cs.all isAnswerChar = false ∨ (cs = [] ∧ p.abCheck = true)) →
      refuses 0x12 (str cs ++ more)) ∧
    (∀ n < 65536,
      writes 0x13 (num2 n) (num2 (max 500 (min 10000 n))) (decide (n < 500 ∨ 10000 < n))
        { p with abWindow := max 500 (min 10000 n) } ∧
      (let t := s.setCircuit i { c with active := { p with breakDetect := max 100 (min 2000 n) } }
       becomes 0x14 (num2 n) (num2 (max 100 (min 2000 n))) (decide (n < 100 ∨ 2000 < n))
        (if (t.circuit i).breakDue = true then t.detectBreak i else t)) ∧
      (let t := s.setCircuit i { c with active := { p with restoreTime := max 100 (min 10000 n) } }
       becomes 0x15 (num2 n) (num2 (max 100 (min 10000 n))) (decide (n < 100 ∨ 10000 < n))
        (if (t.circuit i).restoreDue = true then t.modCircuit i Circuit.intoService else t)) ∧
      writes 0x17 (num2 n) (num2 n) false { p with breakInWait := n } ∧
      writes 0x19 (num2 n) (num2 (min 3600 n)) (decide (3600 < n)) { p with shed := min 3600 n } ∧
      ∀ fq ∈ [((0x1A : Byte), Priority.flash), (0x1B, .bulletin), (0x1C, .urgent), (0x1D, .routine), (0x1E, .deferred)],
        writes fq.1 (num2 n) (num2 (min 1440 n)) (decide (1440 < n)) { p with stale := p.stale.set fq.2 (min 1440 n) }) ∧
    (∀ bl ∈ [((0x00 : Byte), BreakInLevel.none), (0x01, .flash), (0x02, .flashBulletin)],
      writes 0x16 [bl.1] [bl.1] false { p with breakInLevel := bl.2 }) ∧
    (∀ n < 256, writes 0x18 (num1 n) (num1 (max 1 (min 64 n))) (decide (n < 1 ∨ 64 < n))
      { p with depth := max 1 (min 64 n) }) ∧
    ∀ b : Byte, (2 < b.toNat → refuses 0x0E (b :: more) ∧ refuses 0x16 (b :: more)) ∧
      (1 < b.toNat → refuses 0x0F (b :: more) ∧ refuses 0x10 (b :: more) ∧ refuses 0x11 (b :: more))

/-- A TABLE WRITE of the LINK table on a link that is IDLE or DISABLED takes the value at once (R1, R19 to R21), the
enabled field acting as LINK ENABLE or LINK DISABLE; an undefined choice or switch and a bad tag are refused. On a link
in a frame every write that would be taken waits, and one that would be refused is answered at once (R157). -/
def Obligations.LinkWrites : Prop :=
  ∀ (s : State) (h : ReqHead) (l : LinkId) (index : Byte) (more : List Byte), s.serviceIdle → index.toNat = l.val →
    let k := s.link l
    let refuses := fun (field : Byte) (v : List Byte) =>
      exec (.tableWriteLink h index field v) s = .next
        (s.answer h 0x03 (0x03 :: index :: field :: v) .badValue false [])
    (((k.rx = .idle ∨ k.rx = .disabled) →
      let becomes := fun (field : Byte) (v held : List Byte) (limited : Bool) (t : State) =>
        exec (.tableWriteLink h index field (v ++ more)) s = .next
          (t.answer h 0x03 (0x03 :: index :: field :: (v ++ more)) .done limited held)
      let writes := fun (field : Byte) (v : List Byte) (p' : LinkProfile) =>
        becomes field v v false (s.setLink l { k with profile := p' })
      becomes 0x01 [0x01] [0x01] false (s.enableLink l) ∧ becomes 0x01 [0x00] [0x00] false (s.disableLink l) ∧
      (∀ br ∈ [((0x00 : Byte), Rate.b1200), (0x01, .b2400), (0x02, .b4800), (0x03, .b9600)],
        writes 0x02 [br.1] { k.profile with rate := br.2 }) ∧
      (∀ b : Bool, writes 0x03 (sw b) { k.profile with check := b } ∧
        writes 0x09 (sw b) { k.profile with servicePermitted := b } ∧
        writes 0x0C (sw b) { k.profile with dupSuppress := b } ∧
        (let up := s.store.low && decide (k.rx ≠ .disabled) && b && !k.holdSpent
         becomes 0x07 (sw b) (sw b) false (s.setLink l
          { k with
            profile := { k.profile with holdCapable := b }, hold := up
            holdTicks := if up = k.hold then k.holdTicks else 0 }))) ∧
      (∀ b : Byte, writes 0x04 [b] { k.profile with poly := b } ∧ writes 0x05 [b] { k.profile with init := b }) ∧
      (∀ bp ∈ [((0x00 : Byte), CheckPolicy.mark), (0x01, .discard)],
        writes 0x06 [bp.1] { k.profile with policy := bp.2 }) ∧
      (∀ a b : Byte, isLetter a = true → isLetter b = true →
        writes 0x0A [0x02, a, b] { k.profile with tag := [a, b] }) ∧
      ∀ n < 65536,
        (let t := s.setLink l { k with profile := { k.profile with holdLimit := max 100 (min 60000 n) } }
         becomes 0x08 (num2 n) (num2 (max 100 (min 60000 n))) (decide (n < 100 ∨ 60000 < n))
          (if k.hold = true ∧ max 100 (min 60000 n) ≤ k.holdTicks then t.expireHold l else t)) ∧
        becomes 0x0B (num2 n) (num2 (min 3600 n)) (decide (3600 < n)) (s.setLink l
          { k with
            profile := { k.profile with silenceLimit := min 3600 n }, silenceTicks := 0
            silent := k.silent && decide (n ≠ 0) })) ∧
    (k.rx ≠ .idle → k.rx ≠ .disabled → ∀ (field : Byte) (v : List Byte),
      (∃ staged limited held t, s.writeLink l.val field v = some (.taken staged limited held t)) →
      exec (.tableWriteLink h index field v) s = .next (s.held h 0x03 (0x03 :: index :: field :: v))) ∧
    ∀ b : Byte, (3 < b.toNat → refuses 0x02 (b :: more)) ∧
      (1 < b.toNat → refuses 0x01 (b :: more) ∧ refuses 0x03 (b :: more) ∧ refuses 0x06 (b :: more) ∧
        refuses 0x07 (b :: more) ∧ refuses 0x09 (b :: more) ∧ refuses 0x0C (b :: more)) ∧
      (b ≠ 0x02 → refuses 0x0A (b :: more)) ∧
      ∀ a : Byte, (isLetter a && isLetter b) = false → refuses 0x0A (0x02 :: a :: b :: more))

/-- A TABLE WRITE of the STORE table (R25, R26, R29): the setting is limited to its range; where reserve ≤ low water <
high water ≤ 1024 then holds it is taken and LOW is tested at once, here with no request waiting; else it is refused with
BAD VALUE, the limited flag clear. A TABLE WRITE of the SERVICE table takes each setting, limited to its range, and a
written watch period starts the period timer afresh when it is not 0 (R164, R175). -/
def Obligations.StoreAndServiceWrites : Prop :=
  (∀ (s : State) (h : ReqHead) (more : List Byte) (n : Nat), s.serviceIdle → n < 65536 →
    let writes := fun (field : Byte) (lo hi : Nat) (st : Store) =>
      (st.reserve ≤ st.lowWater ∧ st.lowWater < st.highWater ∧ st.highWater ≤ 1024 → s.store.waiting = [] →
        ∃ t : State,
          exec (.tableWriteStore h 0x00 field (num2 n ++ more)) s = .next
            (t.answer h 0x03 (0x05 :: 0x00 :: field :: (num2 n ++ more)) .done (decide (n < lo ∨ hi < n))
              (num2 (max lo (min hi n)))) ∧
          t.store =
            { st with
              low := if st.low then decide (st.free < st.highWater) else decide (st.free ≤ st.lowWater) } ∧
          (st.low = false → st.lowWater < st.free → t = { s with store := st }) ∧
          (st.low = true → st.free < st.highWater → t = { s with store := st }) ∧
          (st.low = false → st.free ≤ st.lowWater → t.faults[storeSource] = some .storeLow) ∧
          (st.low = true → st.highWater ≤ st.free → t = { s with store := t.store, links := t.links } ∧
            ∀ l : LinkId, (t.link l).hold = false ∧ (t.link l).holdSpent = false)) ∧
      (¬(st.reserve ≤ st.lowWater ∧ st.lowWater < st.highWater ∧ st.highWater ≤ 1024) →
        exec (.tableWriteStore h 0x00 field (num2 n ++ more)) s = .next
          (s.answer h 0x03 (0x05 :: 0x00 :: field :: (num2 n ++ more)) .badValue false []))
    writes 0x01 0 256 { s.store with reserve := min 256 n } ∧
    writes 0x02 0 1023 { s.store with lowWater := min 1023 n } ∧
    writes 0x03 1 1024 { s.store with highWater := max 1 (min 1024 n) } ∧
    ∀ field ∈ [(0x01 : Byte), 0x02, 0x03], ∀ b : Byte,
      exec (.tableWriteStore h 0x00 field [b]) s = .next
        (s.answer h 0x03 [0x05, 0x00, field, b] .badValue false [])) ∧
  ∀ (s : State) (h : ReqHead) (more : List Byte), s.serviceIdle →
    let becomes := fun (field : Byte) (v held : List Byte) (limited : Bool) (t : State) =>
      exec (.tableWriteService h 0x00 field (v ++ more)) s = .next
        (t.answer h 0x03 (0x06 :: 0x00 :: field :: (v ++ more)) .done limited held)
    let g := s.settings
    (∀ n < 256,
      becomes 0x01 (num1 n) (num1 (min 62 n)) (decide (62 < n)) { s with settings := { g with secondCode := min 62 n } } ∧
      becomes 0x04 (num1 n) (num1 n) false { s with settings := { g with retry := n } } ∧
      becomes 0x05 (num1 n) (num1 (min 7 n)) (decide (7 < n))
        { s with settings := { g with deskLink := Fin.ofNat 8 (min 7 n) } }) ∧
    (∀ b : Bool, becomes 0x02 (sw b) (sw b) false { s with settings := { g with secondOn := b } } ∧
      becomes 0x03 (sw b) (sw b) false { s with settings := { g with generalOn := b } } ∧
      becomes 0x06 (sw b) (sw b) false { s with settings := { g with notices := b } }) ∧
    (∀ n < 65536, becomes 0x07 (num2 n) (num2 (min 3600 n)) (decide (3600 < n))
      { s with
        settings := { g with watchPeriod := min 3600 n }, watchTimer := if n = 0 then none else some 0 }) ∧
    ∀ b : Byte, 1 < b.toNat → ∀ field ∈ [(0x02 : Byte), 0x03, 0x06],
      exec (.tableWriteService h 0x00 field (b :: more)) s = .next
        (s.answer h 0x03 (0x06 :: 0x00 :: field :: b :: more) .badValue false [])

/-- Reading back what was written: after a write that is taken and not staged the field reads as the value the reply
carried, and after a staged one it reads as before with its pending switch set (R148, R150, R162, R163); the staging
summary, field 21, then reads set, with a clear pending switch of its own (log 14). -/
def Obligations.WritesReadBack : Prop :=
  ∀ (s t : State) (tb : Table) (n : Nat) (field : Byte) (v held : List Byte) (staged limited : Bool),
    n < tb.entries → s.writeField tb n field v = some (.taken staged limited held t) →
    (tb ≠ .circuit → staged = false ∧ t.readField tb n field = some held) ∧
    (tb = .circuit → staged = false → ∃ pending, t.readField tb n field = some (held ++ sw pending)) ∧
    (tb = .circuit → staged = true → (s.circuit (circuitOf n)).state = .sending ∧
      ∃ old pending, s.readField tb n field = some (old ++ sw pending) ∧
        t.readField tb n field = some (old ++ sw true) ∧ t.readField tb n 0x21 = some (sw true ++ sw false))

/-! ### Circuit control -/

/-- START (R118, R123, R127, R144): from STOPPED or FAULTED the circuit enters IDENTIFYING or READY by its answer-back
check, its pacer running and spacing measured on a spacing line; in every other state nothing changes. OPEN and CLOSE set
the accepting field in every state (R122). The answer carries the circuit state just after. A circuit number past 15 is
BAD INDEX for each of the six actions (R165). The model's choice: a pacer that still completes its character time counts
as running and keeps its phase (log 19), and the level on the line stays to its end (log 42). -/
def Obligations.StartOpenClose : Prop :=
  (∀ (s : State) (h : ReqHead) (index : Byte), s.serviceIdle →
    (∀ i : CircuitId, index.toNat = i.val →
      let c := s.circuit i
      (c.state = .stopped ∨ c.state = .faulted →
        exec (.start h index) s = .next ((s.setCircuit i
          { c with
            state := if c.active.abCheck then .identifying else .ready
            requestStep := 0, window := none, receiving := none, marking := none
            spacing := if c.returnMark then none else some 0
            pacer := if c.pacer.running then c.pacer
              else { running := true, period := c.active.form.period, charLen := c.active.form.stop.charLen } }).answer
            h 0x04 [index, 0x01] .done false [if c.active.abCheck then 0x01 else 0x02])) ∧
      (c.state ≠ .stopped → c.state ≠ .faulted →
        exec (.start h index) s = .next (s.answer h 0x04 [index, 0x01] .done false [c.state.code]))) ∧
    (16 ≤ index.toNat →
      exec (.start h index) s = .next (s.answer h 0x04 [index, 0x01] .badIndex false []) ∧
      exec (.stopNow h index) s = .next (s.answer h 0x04 [index, 0x02] .badIndex false []) ∧
      exec (.stopAtTakeEnd h index) s = .next (s.answer h 0x04 [index, 0x03] .badIndex false []) ∧
      exec (.openCircuit h index) s = .next (s.answer h 0x04 [index, 0x04] .badIndex false []) ∧
      exec (.closeCircuit h index) s = .next (s.answer h 0x04 [index, 0x05] .badIndex false []) ∧
      exec (.flush h index) s = .next (s.answer h 0x04 [index, 0x06] .badIndex false []))) ∧
  ∀ (s : State) (h : ReqHead) (i : CircuitId) (index : Byte), s.serviceIdle → index.toNat = i.val →
    let c := s.circuit i
    exec (.openCircuit h index) s = .next ((s.setCircuit i { c with active := { c.active with accepting := true } }).answer
      h 0x04 [index, 0x04] .done false [c.state.code]) ∧
    exec (.closeCircuit h index) s = .next
      ((s.setCircuit i { c with active := { c.active with accepting := false } }).answer h 0x04 [index, 0x05] .done false
        [c.state.code])

/-- STOP NOW and STOP AT TAKE END (R117, R119 to R121, R149). From STOPPED nothing changes. From IDENTIFYING, READY,
BROKEN or FAULTED both enter STOPPED at once: orders, window and measurements cleared, staged values applied, the stop
mode put on the line once the character on it is completed, at once where there is none (log 18), FILL starting the
pacer. From SENDING the first waits for the end of the character, and the second sets stop-pending in the context;
without a context, after a copy restart, it has no effect (log 20). The model's choice: a pacer that still completes its
character time counts as running, so under FILL it keeps its phase and is not started afresh (log 19). -/
def Obligations.StopCircuit : Prop :=
  ∀ (s : State) (h : ReqHead) (i : CircuitId) (index : Byte), s.serviceIdle → index.toNat = i.val →
    let c := s.circuit i
    let f := c.active.form.withStaged c.staged
    let line : Slot := match c.active.stopMode with
      | .mark => if c.slot.isChar then c.slot else .mark
      | .space => if c.slot.isChar then c.slot else .space
      | .fill => c.slot
    let stopped : State := s.setCircuit i
      { c with
        state := .stopped, flight := none, stopNow := false, breakSeen := false, abandoned := false, requestStep := 0
        window := none, buffer := [], receiving := none, spacing := none, marking := none
        active := { c.active with form := f }, staged := .absent, slot := line
        pacer := if c.active.stopMode = .fill ∧ c.pacer.running = false then
            { running := true, period := f.period, charLen := f.stop.charLen }
          else c.pacer }
    (c.state = .stopped →
      exec (.stopNow h index) s = .next (s.answer h 0x04 [index, 0x02] .done false [0x00]) ∧
      exec (.stopAtTakeEnd h index) s = .next (s.answer h 0x04 [index, 0x03] .done false [0x00])) ∧
    (c.state ≠ .stopped → c.state ≠ .sending →
      exec (.stopNow h index) s = .next (stopped.answer h 0x04 [index, 0x02] .done false [0x00]) ∧
      exec (.stopAtTakeEnd h index) s = .next (stopped.answer h 0x04 [index, 0x03] .done false [0x00])) ∧
    (c.state = .sending →
      exec (.stopNow h index) s = .next
        ((s.setCircuit i { c with stopNow := true }).answer h 0x04 [index, 0x02] .done false [0x03])) ∧
    (c.state = .sending → ∀ x, c.flight = some x →
      exec (.stopAtTakeEnd h index) s = .next
        ((s.setCircuit i { c with flight := some { x with ctx := { x.ctx with stopPending := true } } }).answer h 0x04
          [index, 0x03] .done false [0x03])) ∧
    (c.state = .sending → c.flight = none →
      exec (.stopAtTakeEnd h index) s = .next (s.answer h 0x04 [index, 0x03] .done false [0x03]))

/-- FLUSH removes every queued entry of the circuit (R77): its queue is empty and its backlog 0, the take in flight and
the other circuits stay; each take loses as many references as it had entries there, and one that loses its last becomes
FREE (R38). Here no link waits for a segment and the store is not in LOW. In every case FLUSH completes. -/
def Obligations.FlushCircuit : Prop :=
  ∀ (s : State) (h : ReqHead) (i : CircuitId) (index : Byte), s.serviceIdle → index.toNat = i.val →
    let c := s.circuit i
    (∃ t : State, exec (.flush h index) s = .next t) ∧
    (s.store.waiting = [] → s.store.low = false → ∃ u : State,
      exec (.flush h index) s = .next (u.answer h 0x04 [index, 0x06] .done false [c.state.code]) ∧
      u = { s with circuits := u.circuits, store := u.store, stories := u.stories } ∧
      (∀ j : CircuitId, u.circuit j = if j = i then { c with queue := [], backlog := 0 } else s.circuit j) ∧
      ∀ (n : Nat) (t : Take), s.take? n = some t →
        let lost := (c.queue.filter fun e => e.handle == n).length
        u.take? n = if lost = 0 then some t else if t.refs ≤ lost then none else some { t with refs := t.refs - lost })

/-! ### Link control, spikes, queue read, copy restart -/

/-- LINK ENABLE and LINK DISABLE (R22, R157, R166). ENABLE moves a DISABLED link to IDLE with its FIFO empty, its silence
timing restarted and its hold line as R20 calls for; any other link it leaves. DISABLE takes an IDLE link out of use,
leaves a DISABLED one, and waits for a link in a frame. A link number past 7 is BAD INDEX for each action. -/
def Obligations.LinkEnableAndDisable : Prop :=
  ∀ (s : State) (h : ReqHead) (index : Byte), s.serviceIdle →
    (∀ l : LinkId, index.toNat = l.val →
      let k := s.link l
      (k.rx = .disabled →
        let up := s.store.low && k.profile.holdCapable && !k.holdSpent
        exec (.linkEnable h index) s = .next ((s.setLink l
          { k with
            rx := .idle, fifo := [], silenceTicks := 0, hold := up
            holdTicks := if up = k.hold then k.holdTicks else 0 }).answer h 0x05 [index, 0x01] .done false [0x01])) ∧
      (k.rx ≠ .disabled →
        exec (.linkEnable h index) s = .next (s.answer h 0x05 [index, 0x01] .done false [k.rx.code])) ∧
      (k.rx = .idle →
        exec (.linkDisable h index) s = .next ((s.setLink l
          { k with
            rx := .disabled, fifo := [], silent := false, hold := false
            holdTicks := if k.hold then 0 else k.holdTicks }).answer h 0x05 [index, 0x02] .done false [0x00])) ∧
      (k.rx = .disabled →
        exec (.linkDisable h index) s = .next (s.answer h 0x05 [index, 0x02] .done false [0x00])) ∧
      (k.rx ≠ .idle → k.rx ≠ .disabled →
        exec (.linkDisable h index) s = .next (s.held h 0x05 [index, 0x02]))) ∧
    (8 ≤ index.toNat →
      exec (.linkEnable h index) s = .next (s.answer h 0x05 [index, 0x01] .badIndex false []) ∧
      exec (.linkDisable h index) s = .next (s.answer h 0x05 [index, 0x02] .badIndex false []) ∧
      exec (.linkReset h index) s = .next (s.answer h 0x05 [index, 0x03] .badIndex false []))

/-- LINK RESET (R23): the frame in progress goes without a fault, a FILLING take discarded (R36), the FIFO and the serial
tracking emptied, hold dropped and, in LOW, its mark set, SILENT cleared, silence timing restarted; IDLE, or DISABLED as
before. LOW is that after the segments returned (log 31). The bytes of a link that waited are drained from IDLE (R4),
spelled out for bytes none of which is BEGIN: each is stray. That this draining, and that of other links which the
returned segments serve, comes after the reply in the same step is the model's choice (log 3). -/
def Obligations.LinkResetCommand : Prop :=
  ∀ (s : State) (h : ReqHead) (l : LinkId) (index : Byte), s.serviceIdle → index.toNat = l.val →
    let emptied := fun (u : State) (rx : Rx) (fifo : List Byte) => u.modLink l fun k =>
      { k with
        rx := rx, fifo := fifo, expected := none, recent := [], silent := false, silenceTicks := 0
        hold := false, holdTicks := if k.hold then 0 else k.holdTicks, holdSpent := k.holdSpent || u.store.low }
    ((s.link l).rx = .disabled →
      exec (.linkReset h index) s = .next
        ((emptied (s.withdraw l) .disabled []).answer h 0x05 [index, 0x03] .done false [0x00])) ∧
    ((s.link l).rx = .idle ∨ (∃ x, (s.link l).rx = .header x) ∨ (∃ r, (s.link l).rx = .checkService r) ∨
        (∃ due, (s.link l).rx = .discarding due) →
      exec (.linkReset h index) s = .next
        ((emptied (s.withdraw l) .idle []).answer h 0x05 [index, 0x03] .done false [0x01])) ∧
    ∀ hd (waiting : List Byte), ((∃ closed, (s.link l).rx = .text hd closed) ∧ waiting = (s.link l).fifo) ∨
        ((s.link l).rx = .checkCopy hd ∧ waiting = []) →
      exec (.linkReset h index) s = .next
        ((emptied ((s.withHead (ReqHead.request h 0x05 [index, 0x03])).discard l hd) .idle waiting).answer h 0x05
          [index, 0x03] .done false [0x01]).settle ∧
      ∀ t, s.take? hd = some t → (∀ w ∈ s.store.waiting, w.link = l) → s.store.low = false →
        (∀ b ∈ waiting, b ≠ byteBegin) →
        exec (.linkReset h index) s = .next
          (((emptied (s.modStore fun st =>
            { st with takes := Takes.erase st.takes hd, free := st.free + t.chain.length, waiting := [] }) .idle []).answer
              h 0x05 [index, 0x03] .done false [0x01]).countLink l .stray waiting.length)

/-- TAKE SPIKE (R40, R60, R167): a bad link number, then (log 15) a serial above 9999, is refused; a FILLING take of
that link and serial makes it wait; no READY take is NOT FOUND; else every entry of each READY take of that link and
serial leaves every queue, every context that has one in flight and can still be cut is given a cut order, and the
number of takes is answered, past 255 as a free value (log 38). The last clause is for a store with no link waiting and
not in LOW; in every case it completes. -/
def Obligations.TakeSpikeCommand : Prop :=
  ∀ (s : State) (h : ReqHead) (index : Byte) (serial : BitVec 16), s.serviceIdle →
    let ps := [index, serial.extractLsb' 8 8, serial.extractLsb' 0 8]
    let named := fun (st : TakeState) (l : LinkId) =>
      (s.store.takes.filter fun e => e.2.state == st && e.2.link == l && e.2.serial == serial.toNat).map (·.1)
    (8 ≤ index.toNat → exec (.takeSpike h index serial) s = .next (s.answer h 0x06 ps .badIndex false [])) ∧
    (index.toNat < 8 → 9999 < serial.toNat →
      exec (.takeSpike h index serial) s = .next (s.answer h 0x06 ps .badValue false [])) ∧
    ∀ l : LinkId, index.toNat = l.val → serial.toNat ≤ 9999 →
      (named .filling l ≠ [] → exec (.takeSpike h index serial) s = .next (s.held h 0x06 ps)) ∧
      (named .filling l = [] → named .ready l = [] →
        exec (.takeSpike h index serial) s = .next (s.answer h 0x06 ps .notFound false [])) ∧
      (named .filling l = [] → named .ready l ≠ [] →
        (∃ t : State, exec (.takeSpike h index serial) s = .next t) ∧
        (s.store.waiting = [] → s.store.low = false → ∃ u : State,
          exec (.takeSpike h index serial) s = .next
            (u.answer h 0x06 ps .done false
              [if (named .ready l).length < 256 then BitVec.ofNat 8 (named .ready l).length
               else Config.spikeCountByte (named .ready l).length]) ∧
          u = { s with circuits := u.circuits, store := u.store, stories := u.stories } ∧
          ∀ i : CircuitId, u.circuit i =
            { s.circuit i with
              queue := (s.circuit i).queue.filter fun e => !(named .ready l).contains e.handle
              backlog := (s.circuit i).backlog -
                queueSum ((s.circuit i).queue.filter fun e => (named .ready l).contains e.handle)
              flight := (s.circuit i).flight.map fun f =>
                if (named .ready l).contains f.entry.handle ∧ f.ctx.phase.cuttable = true then
                  { f with ctx := { f.ctx with cut := true } }
                else f }))

/-- QUEUE READ (R78, R168): a circuit past 15 is BAD INDEX; position 0 answers the take in flight, position n the nth
queued entry, with the values of R184; a position that does not exist is NOT FOUND. It changes nothing. -/
def Obligations.QueueReadAnswers : Prop :=
  ∀ (s : State) (h : ReqHead) (index pos : Byte), s.serviceIdle →
    (16 ≤ index.toNat →
      exec (.queueRead h index pos) s = .next (s.answer h 0x07 [index, pos] .badIndex false [])) ∧
    ∀ i : CircuitId, index.toNat = i.val →
      (∀ f t, pos = 0 → (s.circuit i).flight = some f → s.take? f.entry.handle = some t →
        exec (.queueRead h index pos) s = .next (s.answer h 0x07 [index, pos] .done false
          (num2 f.entry.handle ++ [BitVec.ofNat 8 t.link.val] ++ num2 t.serial ++
            [BitVec.ofNat 8 f.entry.prio.num] ++ num2 f.ctx.read.pos ++ num2 t.length))) ∧
      (∀ n e t, pos.toNat = n + 1 → (s.circuit i).queue[n]? = some e → s.take? e.handle = some t →
        exec (.queueRead h index pos) s = .next (s.answer h 0x07 [index, pos] .done false
          (num2 e.handle ++ [BitVec.ofNat 8 t.link.val] ++ num2 t.serial ++ [BitVec.ofNat 8 t.part, t.disp.code,
            BitVec.ofNat 8 e.prio.num, if e.resume.isSome then 0x01 else 0x00] ++
            (match e.resume with | some p => num2 p.pos ++ [BitVec.ofNat 8 p.off] | none => [0x00, 0x00, 0x00]) ++
            num2 e.estimate ++
            (match t.readyClock with
              | some c => [BitVec.ofNat 8 c.1, BitVec.ofNat 8 c.2]
              | none => [0x00, 0x00])))) ∧
      (((pos = 0 ∧ (s.circuit i).flight = none) ∨ (pos ≠ 0 ∧ (s.circuit i).queue.length < pos.toNat)) →
        exec (.queueRead h index pos) s = .next (s.answer h 0x07 [index, pos] .notFound false []))

/-- COPY RESTART (R2, R41, R61, R79, R140, R170): links lose their frames, FIFOs and tracking and go to IDLE or stay
DISABLED, hold falls; every record and segment is free, LOW is over; the story index is empty; every queue is empty, and a
SENDING circuit abandons its take, its slots counted, at the end of its character; reply queues keep only the head frame,
as one that has begun (log 17). Everything else is kept, and the restart's own reply follows. -/
def Obligations.CopyRestartEmptiesCopy : Prop :=
  ∀ (s : State) (h : ReqHead), s.serviceIdle → ∃ u : State,
    exec (.copyRestart h) s = .next (u.answer h 0x0C [] .done false []) ∧
    u = { s with
      links := u.links, circuits := u.circuits, stories := []
      store := { s.store with free := 1024, low := false, waiting := [], takes := [] } } ∧
    (∀ l : LinkId, u.link l =
      { s.link l with
        rx := if (s.link l).rx = .disabled then .disabled else .idle
        fifo := [], expected := none, recent := [], hold := false, holdSpent := false
        holdTicks := if (s.link l).hold then 0 else (s.link l).holdTicks, replies := (s.link l).replies.take 1 }) ∧
    ∀ i : CircuitId, u.circuit i =
      { s.circuit i with
        queue := [], backlog := 0, flight := none, abandoned := decide ((s.circuit i).state = .sending)
        counters :=
          { (s.circuit i).counters with
            slotsSent := match (s.circuit i).flight with
              | some f => BitVec.ofNat 16 (min 65535 ((s.circuit i).counters.slotsSent.toNat + f.ctx.slots))
              | none => (s.circuit i).counters.slotsSent } }

/-! ### A circuit's character times -/

/-- A character-time end outside SENDING and without copy to take (R96, R117, R123, R143 to R145): a stopped pacer has
none; STOPPED and FAULTED show their stop mode, BROKEN holds MARK, and the pacer stops but for FILL; READY shows its idle
mode; IDENTIFYING sends FIGS, WRU, LTRS and then opens its answer-back window on MARK. A pacer that goes on takes the
active period and character length. -/
def Obligations.CharacterEndIdle : Prop :=
  ∀ (s : State) (i : CircuitId), s.resetHeld = false → s.settled →
    let c := s.circuit i
    let going : Pacer := { running := true, period := c.active.form.period, charLen := c.active.form.stop.charLen }
    let still : Pacer := { c.pacer with running := false }
    let ends := fun (c' : Circuit) => exec (.characterTimeEnd i) s = .next (s.setCircuit i c')
    (c.pacer.running = false → exec (.characterTimeEnd i) s = .next s) ∧
    (c.pacer.running = true →
      (c.state = .stopped ∨ c.state = .faulted → ends (match c.active.stopMode with
        | .mark => { c with slot := .mark, pacer := still }
        | .space => { c with slot := .space, pacer := still }
        | .fill => { c with slot := .char .ltrs, pacer := going })) ∧
      (c.state = .broken → ends { c with slot := .mark, pacer := still }) ∧
      (c.state = .ready → c.queue = [] →
        ends { c with slot := (match c.active.idleMode with | .mark => .mark | .fill => .char .ltrs), pacer := going }) ∧
      (c.state = .identifying → ends (
        if c.requestStep = 0 then { c with requestStep := 1, slot := .char .figs, pacer := going }
        else if c.requestStep = 1 then { c with requestStep := 2, slot := .char .wru, pacer := going }
        else if c.requestStep = 2 then { c with requestStep := 3, slot := .char .ltrs, pacer := going }
        else if c.requestStep = 3 then
          { c with
            requestStep := 4, slot := .mark, buffer := [], tracked := .letters, receiving := none, pacer := going
            window := some { ticks := 0, limit := c.active.abWindow, expected := c.active.abExpected } }
        else { c with slot := .mark, pacer := going })))

/-- A READY circuit with copy, at a character-time end (R74, R75, R95, R106, R107, R131, R132): a head that is not stale
passes into flight, the circuit is SENDING, the first character of its header is on the line, FIGS where a take header
has bells, else LTRS, and the circuit joins the sent set of the take's story. A stale head is removed and counted; with
nothing behind it the circuit stays READY (here no link waits and the store is not in LOW). A take header is FIGS and
the class's bells where it has any, LTRS, and the line of FLASH, BULLETIN, URGENT or no word, CORRECTION, KILL or no
word, tag, slug and part without a leading zero, single spaces between them, then the closing line end; a resume header
is LTRS and the line RESUME, tag, slug, part (R106, R107). Of the header the break-in lead's LF comes first (R108); a
shift or bell goes as it stands, the first of them being the header start (R132); a word is folded before where it does
not fit past the margin, else its next letter goes, or first the shift it needs; a space goes below the width and folds
at it; the end is a line end. That the word at a resumed entry's position is not examined when its context starts, so
that the context holds no word and no unprintable byte is counted there, where R87 and R99 speak of an examination at
that start, is the model's choice (log 39). -/
def Obligations.ReadyHeadSelection : Prop :=
  (∀ (s : State) (i : CircuitId) (e : Entry) (rest : List Entry) (t : Take), s.resetHeld = false → s.settled →
    let c := s.circuit i
    c.pacer.running = true → c.state = .ready → c.queue = e :: rest → s.take? e.handle = some t →
    (e.resume.isSome = true ∨ c.active.stale.get e.prio = 0 ∨
      (s.ms - t.readyTime.getD 0).toNat ≤ c.active.stale.get e.prio * 60000) →
    ∃ (u : State) (x : Context), exec (.characterTimeEnd i) s = .next u ∧
      u.circuit i =
        { c with
          queue := rest, backlog := c.backlog - e.estimate, state := .sending
          flight := some { entry := e, ctx := x }
          slot := .char (if e.resume.isNone ∧ 0 < c.active.form.bells.get e.prio then .figs else .ltrs)
          pacer := { running := true, period := c.active.form.period, charLen := c.active.form.stop.charLen } } ∧
      x.handle = e.handle ∧ x.slots = 1 ∧ x.column = 0 ∧ x.read = e.resume.getD { pos := 0, off := 0 } ∧
      x.lineStart = x.read ∧ x.cut = false ∧ x.breakIn = false ∧ x.stopPending = false ∧ x.lead = false ∧
      x.headerStarted = true ∧ x.sequence = [] ∧ x.lineEnd = none ∧ x.word = none ∧
      x.shift = (if e.resume.isNone ∧ 0 < c.active.form.bells.get e.prio then .figures else .letters) ∧
      x.phase = .header
        ((if e.resume.isSome then resumeHeader t else takeHeader c.active.form e.prio t).tail) ∧
      u = { s with circuits := s.circuits.set i (u.circuit i), stories := u.stories } ∧
      u.stories = match t.story with
        | none => s.stories
        | some k => s.stories.map fun y =>
          if y.key = k then { y with sent := y.sent ||| ((1 : BitVec 16) <<< i.val) } else y) ∧
  (∀ (s : State) (i : CircuitId) (e : Entry) (t : Take), s.resetHeld = false → s.settled → s.store.waiting = [] →
    s.store.low = false →
    let c := s.circuit i
    c.pacer.running = true → c.state = .ready → c.flight = none → c.queue = [e] → s.take? e.handle = some t →
    e.resume = none → 0 < c.active.stale.get e.prio →
    c.active.stale.get e.prio * 60000 < (s.ms - t.readyTime.getD 0).toNat →
    ∃ u : State, exec (.characterTimeEnd i) s = .next u ∧
      u.circuit i =
        { c with
          queue := [], backlog := c.backlog - e.estimate
          slot := (match c.active.idleMode with | .mark => .mark | .fill => .char .ltrs)
          pacer := { running := true, period := c.active.form.period, charLen := c.active.form.stop.charLen }
          counters := { c.counters with stale := BitVec.ofNat 16 (min 65535 (c.counters.stale.toNat + 1)) } } ∧
      u.take? e.handle = (if t.refs ≤ 1 then none else some { t with refs := t.refs - 1 }) ∧
      u = { s with
        circuits := s.circuits.set i (u.circuit i), store := { s.store with takes := u.store.takes, free := u.store.free }
        stories := u.stories }) ∧
  (∀ (fm : Form) (p : Priority) (t : Take), t.tag ≠ [] → t.slug ≠ [] → t.part < 100 →
    let digit := fun n : Nat => (BitVec.ofNat 8 (0x30 + n) : Byte)
    let part := if t.part < 10 then [digit t.part] else [digit (t.part / 10), digit (t.part % 10)]
    let classWord : List (List Byte) := match p with
      | .flash => [[0x46, 0x4C, 0x41, 0x53, 0x48]]
      | .bulletin => [[0x42, 0x55, 0x4C, 0x4C, 0x45, 0x54, 0x49, 0x4E]]
      | .urgent => [[0x55, 0x52, 0x47, 0x45, 0x4E, 0x54]]
      | .routine => []
      | .deferred => []
    let takeWord : List (List Byte) := match t.disp with
      | .normal => []
      | .correction => [[0x43, 0x4F, 0x52, 0x52, 0x45, 0x43, 0x54, 0x49, 0x4F, 0x4E]]
      | .kill => [[0x4B, 0x49, 0x4C, 0x4C]]
    let line := fun words : List (List Byte) => (words.map HeaderItem.word).intersperse .space ++ [.close]
    takeHeader fm p t = List.flatten
      [if 0 < fm.bells.get p then .fixed .figs :: List.replicate (fm.bells.get p) (.fixed .bell) else [], [.fixed .ltrs],
        line (classWord ++ takeWord ++ [t.tag, t.slug, part])] ∧
    resumeHeader t = .fixed .ltrs :: line [[0x52, 0x45, 0x53, 0x55, 0x4D, 0x45], t.tag, t.slug, part]) ∧
  ∀ (fm : Form) (tbl : Vector SubstEntry 32) (t : Take) (x : Context) (rest : List HeaderItem), x.sequence = [] →
    x.lineEnd = none →
    let after := fun items : List HeaderItem => ({ x with phase := .header items } : Context)
    (x.lead = true → x.phase = .header rest →
      choose fm tbl t x = .char .lf { x with lead := false, slots := x.slots + 1 } 0 false) ∧
    (x.lead = false →
      (∀ f ∈ [FiveUnit.figs, .bell, .ltrs], x.phase = .header (.fixed f :: rest) →
        choose fm tbl t x = .char f
          { after rest with
            headerStarted := true, slots := x.slots + 1
            shift := if f = .figs then .figures else if f = .ltrs then .letters else x.shift } 0 (!x.headerStarted)) ∧
      (∀ b bs, x.phase = .header (.word (b :: bs) :: rest) →
        (0 < x.column → fm.width < x.column + (b :: bs).length → choose fm tbl t x = x.beginLineEnd fm .fold 0) ∧
        (x.column = 0 ∨ x.column + (b :: bs).length ≤ fm.width →
          ((unitOf b).needs = some x.shift → choose fm tbl t x = .char (unitOf b)
            { after (if bs = [] then rest else .word bs :: rest) with slots := x.slots + 1, column := x.column + 1 } 0
              false) ∧
          ∀ k : ShiftCase, (unitOf b).needs = some k → k ≠ x.shift →
            choose fm tbl t x = .char k.shift { x with slots := x.slots + 1, shift := k } 0 false)) ∧
      (x.phase = .header (.space :: rest) →
        (x.column < fm.width → choose fm tbl t x = .char .space
          { after rest with
            slots := x.slots + 1, column := x.column + 1, shift := if fm.unshift then .letters else x.shift } 0 false) ∧
        (fm.width ≤ x.column → choose fm tbl t x = (after rest).beginLineEnd fm .fold 0)) ∧
      (x.phase = .header (.close :: rest) → choose fm tbl t x = (after rest).beginLineEnd fm .headerClose 0))

/-- A character-time end in SENDING (R65, R96, R119, R121, R128, R132, R149): without orders the next character of the
Packer is on the line, and where it is the header's first, the circuit joins the sent set of the take's story. It is the
header's first where no character of the header but the break-in lead has been sent (R51, R132): so behind a lead the
report comes one character time later. Under STOP NOW, or a receiver break seen, a take whose trailer is not complete
and that is not cut returns to its queue as a resumed entry at its line-start position, before the first entry of its
class, estimated under the profile it was sent with; its slots are counted, staged values apply, and the circuit is
STOPPED, or BROKEN on MARK. -/
def Obligations.SendingCharacterEnd : Prop :=
  ∀ (s : State) (i : CircuitId) (f : Flight) (t : Take), s.resetHeld = false → s.settled →
    let c := s.circuit i
    c.pacer.running = true → c.state = .sending → c.flight = some f → s.take? f.entry.handle = some t →
    let est := estimate c.active.form (t.length - f.ctx.lineStart.pos)
    let form := c.active.form.withStaged c.staged
    let sent := BitVec.ofNat 16 (min 65535 (c.counters.slotsSent.toNat + f.ctx.slots))
    let back : Circuit :=
      { c with
        flight := none, queue := placeResumed c.queue { f.entry with resume := some f.ctx.lineStart, estimate := est }
        backlog := c.backlog + est, counters := { c.counters with slotsSent := sent }
        active := { c.active with form := form }, staged := .absent, stopNow := false, breakSeen := false
        abandoned := false, requestStep := 0, window := none, buffer := [], receiving := none, spacing := none }
    (∀ ch x u start, c.stopNow = false → c.breakSeen = false → choose c.active.form s.subst t f.ctx = .char ch x u start →
      exec (.characterTimeEnd i) s = .next (({ s with
        stories := if start then match t.story with
            | none => s.stories
            | some k => s.stories.map fun y =>
              if y.key = k then { y with sent := y.sent ||| ((1 : BitVec 16) <<< i.val) } else y
          else s.stories } : State).setCircuit i
        { c with
          slot := .char ch, flight := some { f with ctx := x }
          pacer := { running := true, period := c.active.form.period, charLen := c.active.form.stop.charLen }
          counters :=
            { c.counters with unprintable := BitVec.ofNat 16 (min 65535 (c.counters.unprintable.toNat + u)) } })) ∧
    (∀ ch x u, choose c.active.form s.subst t f.ctx = .char ch x u true → (∃ items, f.ctx.phase = .header items) ∧
      f.ctx.sequence = [] ∧ f.ctx.lead = false ∧ f.ctx.headerStarted = false ∧ x.headerStarted = true) ∧
    (∀ ch items, f.ctx.sequence = [] → f.ctx.lineEnd = none → f.ctx.phase = .header (.fixed ch :: items) →
      f.ctx.lead = false → f.ctx.headerStarted = false → ∃ x : Context,
      choose c.active.form s.subst t f.ctx = .char ch x 0 true ∧ x.phase = .header items) ∧
    (c.stopNow = true → f.ctx.trailerDone = false → f.ctx.cut = false →
      exec (.characterTimeEnd i) s = .next (s.setCircuit i (match c.active.stopMode with
        | .mark => { back with state := .stopped, marking := none, slot := .mark, pacer := { c.pacer with running := false } }
        | .space =>
          { back with state := .stopped, marking := none, slot := .space, pacer := { c.pacer with running := false } }
        | .fill =>
          { back with
            state := .stopped, marking := none, slot := .char .ltrs
            pacer := { running := true, period := form.period, charLen := form.stop.charLen } }))) ∧
    (c.stopNow = false → c.breakSeen = true → f.ctx.trailerDone = false → f.ctx.cut = false →
      exec (.characterTimeEnd i) s = .next (s.setCircuit i
        { back with
          state := .broken, marking := if c.returnMark then some 0 else none, slot := .mark
          pacer := { c.pacer with running := false } }))

/-- A take's end (R76, R95, R96, R132 to R134): after the last character of the trailer the take loses the circuit's
reference, its release, at the last one, lowers the queued count of its story, takes sent counts one and slots sent the
context's slots, staged values apply, and the circuit enters STOPPED where stop-pending is set, else READY with its idle
output where nothing is queued. Where the head of the queue is live, it passes into flight at the same character-time
end: the circuit stays SENDING with a fresh context under the values just applied, the first character of the new header
follows the trailer with no gap, and the circuit joins the sent set of the new take's story (R133, step 5). Here no link
waits for a segment, the store is not in LOW and, for the circuit that stops, the stop mode is MARK; an entry of the
ended take itself has a reference of its own (R38). That the word at the position of a resumed next entry is not
examined when its context starts, so that unprintable counts nothing there, where R87 and R99 speak of an examination at
that start, is the model's choice (log 39). -/
def Obligations.TakeEndCountsTake : Prop :=
  (∀ (s : State) (i : CircuitId) (f : Flight) (t : Take), s.resetHeld = false → s.settled → s.store.waiting = [] →
    s.store.low = false →
    let c := s.circuit i
    c.pacer.running = true → c.state = .sending → c.stopNow = false → c.breakSeen = false → c.abandoned = false →
    c.flight = some f → s.take? f.entry.handle = some t → c.active.stopMode = .mark → f.ctx.sequence = [] →
    f.ctx.phase = .trailer .done → (f.ctx.stopPending = true ∨ c.queue = []) →
    let form := c.active.form.withStaged c.staged
    let ended : Circuit :=
      { c with
        flight := none, active := { c.active with form := form }, staged := .absent
        counters :=
          { c.counters with
            takesSent := BitVec.ofNat 16 (min 65535 (c.counters.takesSent.toNat + 1))
            slotsSent := BitVec.ofNat 16 (min 65535 (c.counters.slotsSent.toNat + f.ctx.slots)) } }
    ∃ u : State, exec (.characterTimeEnd i) s = .next u ∧
      u.take? f.entry.handle = (if t.refs ≤ 1 then none else some { t with refs := t.refs - 1 }) ∧
      (∀ j : CircuitId, j ≠ i → u.circuit j = s.circuit j) ∧
      u = { s with
        circuits := u.circuits, store := { s.store with takes := u.store.takes, free := u.store.free }
        stories := u.stories } ∧
      u.stories = (match t.story with
        | none => s.stories
        | some k => if t.refs ≤ 1 then
            s.stories.map fun y => if y.key = k then { y with queued := y.queued - 1 } else y
          else s.stories) ∧
      (f.ctx.stopPending = true → u.circuit i =
        { ended with
          state := .stopped, requestStep := 0, window := none, buffer := [], receiving := none, spacing := none
          marking := none, slot := .mark, pacer := { c.pacer with running := false } }) ∧
      (f.ctx.stopPending = false → u.circuit i =
        { ended with
          state := .ready
          slot := (match c.active.idleMode with | .mark => .mark | .fill => .char .ltrs)
          pacer := { running := true, period := form.period, charLen := form.stop.charLen } })) ∧
  ∀ (s : State) (i : CircuitId) (f : Flight) (t v : Take) (e : Entry) (rest : List Entry), s.resetHeld = false →
    s.settled → s.store.waiting = [] → s.store.low = false →
    let c := s.circuit i
    c.pacer.running = true → c.state = .sending → c.stopNow = false → c.breakSeen = false → c.flight = some f →
    s.take? f.entry.handle = some t → f.ctx.sequence = [] → f.ctx.phase = .trailer .done → f.ctx.stopPending = false →
    c.queue = e :: rest → s.take? e.handle = some v → (e.handle = f.entry.handle → 1 < t.refs) →
    (e.resume.isSome = true ∨ c.active.stale.get e.prio = 0 ∨
      (s.ms - v.readyTime.getD 0).toNat ≤ c.active.stale.get e.prio * 60000) →
    let form := c.active.form.withStaged c.staged
    let released := match t.story with
      | none => s.stories
      | some k => if t.refs ≤ 1 then
          s.stories.map fun y => if y.key = k then { y with queued := y.queued - 1 } else y
        else s.stories
    ∃ (u : State) (x : Context), exec (.characterTimeEnd i) s = .next u ∧
      u.circuit i =
        { c with
          queue := rest, backlog := c.backlog - e.estimate, flight := some { entry := e, ctx := x }
          active := { c.active with form := form }, staged := .absent
          slot := .char (if e.resume.isNone ∧ 0 < form.bells.get e.prio then .figs else .ltrs)
          pacer := { running := true, period := form.period, charLen := form.stop.charLen }
          counters :=
            { c.counters with
              takesSent := BitVec.ofNat 16 (min 65535 (c.counters.takesSent.toNat + 1))
              slotsSent := BitVec.ofNat 16 (min 65535 (c.counters.slotsSent.toNat + f.ctx.slots)) } } ∧
      x.handle = e.handle ∧ x.slots = 1 ∧ x.column = 0 ∧ x.read = e.resume.getD { pos := 0, off := 0 } ∧
      x.lineStart = x.read ∧ x.cut = false ∧ x.breakIn = false ∧ x.stopPending = false ∧ x.lead = false ∧
      x.headerStarted = true ∧
      x.phase = .header ((if e.resume.isSome then resumeHeader v else takeHeader form e.prio v).tail) ∧
      u.take? f.entry.handle = (if t.refs ≤ 1 then none else some { t with refs := t.refs - 1 }) ∧
      u = { s with
        circuits := s.circuits.set i (u.circuit i), store := { s.store with takes := u.store.takes, free := u.store.free }
        stories := u.stories } ∧
      u.stories = match v.story with
        | none => released
        | some k => released.map fun y =>
          if y.key = k then { y with sent := y.sent ||| ((1 : BitVec 16) <<< i.val) } else y

/-- STOP NOW, a receiver break and a copy restart at the end of a SENDING circuit's character (R119, R121, R128, R138,
R140, R149): a take whose trailer is complete ends and is counted as sent; one that is cut ends unprinted and is not; in
both the reference falls and the slots are counted. Staged values apply, and the circuit is STOPPED under STOP NOW with
its stop mode on the line, else BROKEN on MARK, where a stop-pending is lost (log 40). A circuit whose take a copy
restart abandoned is STOPPED, BROKEN or, without an order, READY with its idle output. Here no link waits for a segment
and the store is not in LOW. -/
def Obligations.SendingEndsUnderOrders : Prop :=
  ∀ (s : State) (i : CircuitId), s.resetHeld = false → s.settled → s.store.waiting = [] → s.store.low = false →
    let c := s.circuit i
    c.pacer.running = true → c.state = .sending →
    let form := c.active.form.withStaged c.staged
    let still : Pacer := { c.pacer with running := false }
    let going : Pacer := { running := true, period := form.period, charLen := form.stop.charLen }
    let applied : Circuit := { c with active := { c.active with form := form }, staged := .absent }
    let cleared : Circuit :=
      { applied with
        flight := none, stopNow := false, breakSeen := false, abandoned := false, requestStep := 0, window := none
        buffer := [], receiving := none, spacing := none }
    let out := fun (x : Circuit) =>
      if c.stopNow then
        match c.active.stopMode with
        | .mark => { x with state := .stopped, marking := none, slot := .mark, pacer := still }
        | .space => { x with state := .stopped, marking := none, slot := .space, pacer := still }
        | .fill => { x with state := .stopped, marking := none, slot := .char .ltrs, pacer := going }
      else
        { x with state := .broken, marking := if c.returnMark then some 0 else none, slot := .mark, pacer := still }
    (∀ f t, c.flight = some f → s.take? f.entry.handle = some t → (c.stopNow = true ∨ c.breakSeen = true) →
      (f.ctx.trailerDone = true ∨ f.ctx.cut = true) →
      ∃ u : State, exec (.characterTimeEnd i) s = .next u ∧
        u.take? f.entry.handle = (if t.refs ≤ 1 then none else some { t with refs := t.refs - 1 }) ∧
        (∀ j : CircuitId, j ≠ i → u.circuit j = s.circuit j) ∧
        u = { s with
          circuits := u.circuits, store := { s.store with takes := u.store.takes, free := u.store.free }
          stories := u.stories } ∧
        u.circuit i = out { cleared with
          counters :=
            { c.counters with
              takesSent := if f.ctx.trailerDone then BitVec.ofNat 16 (min 65535 (c.counters.takesSent.toNat + 1))
                else c.counters.takesSent
              slotsSent := BitVec.ofNat 16 (min 65535 (c.counters.slotsSent.toNat + f.ctx.slots)) } }) ∧
    (c.flight = none → c.stopNow = true ∨ c.breakSeen = true →
      exec (.characterTimeEnd i) s = .next (s.setCircuit i (out cleared))) ∧
    (c.flight = none → c.stopNow = false → c.breakSeen = false →
      exec (.characterTimeEnd i) s = .next (s.setCircuit i
        { applied with
          state := .ready, abandoned := false, pacer := going
          slot := match c.active.idleMode with | .mark => .mark | .fill => .char .ltrs }))

/-- Break-in (R105, R108, R135, R136): an insertion of an admitted higher class during the text of a take that has longer
to go than the break-in wait sets the pending break-in; at a complete line end in text, no cut pending and text left, the
take returns resumed at its read position, break-ins is counted, and the head of higher class goes into flight with LF on
the line. That this happens at the character-time end that closes the line end's last slot is log 12. -/
def Obligations.BreakInTakesLine : Prop :=
  (∀ (s : State) (i : CircuitId) (p : Priority) (f : Flight) (t : Take), (s.circuit i).flight = some f →
    s.take? f.entry.handle = some t →
    s.offerBreakIn i p =
      if (s.circuit i).state = .sending ∧
          ((s.circuit i).active.breakInLevel = .flash ∧ p = .flash ∨
            (s.circuit i).active.breakInLevel = .flashBulletin ∧ (p = .flash ∨ p = .bulletin)) ∧
          p.num < f.entry.prio.num ∧ f.ctx.phase = .text ∧
          (s.circuit i).active.breakInWait < estimate (s.circuit i).active.form (t.length - f.ctx.read.pos) then
        s.setCircuit i
          { s.circuit i with flight := some { f with ctx := { f.ctx with breakIn := true } } }
      else s) ∧
  ∀ (s : State) (i : CircuitId) (f : Flight) (t v : Take) (e : Entry) (rest : List Entry) (k : LineEnd),
    s.resetHeld = false → s.settled →
    let c := s.circuit i
    c.pacer.running = true → c.state = .sending → c.stopNow = false → c.breakSeen = false → c.flight = some f →
    s.take? f.entry.handle = some t → f.ctx.sequence = [] → f.ctx.lineEnd = some k → f.ctx.phase = .text →
    f.ctx.breakIn = true → f.ctx.cut = false → f.ctx.read.pos < t.length → c.queue = e :: rest →
    inClassOrder c.queue → e.prio.num < f.entry.prio.num → s.take? e.handle = some v → e.resume = none →
    c.active.stale.get e.prio = 0 →
    let est := estimate c.active.form (t.length - f.ctx.read.pos)
    ∃ x : Context, exec (.characterTimeEnd i) s = .next (s.setCircuit i
      { c with
        queue := placeResumed rest { f.entry with resume := some f.ctx.read, estimate := est }
        backlog := c.backlog + est - e.estimate
        flight := some { entry := e, ctx := x }
        slot := .char .lf
        pacer := { running := true, period := c.active.form.period, charLen := c.active.form.stop.charLen }
        counters :=
          { c.counters with
            slotsSent := BitVec.ofNat 16 (min 65535 (c.counters.slotsSent.toNat + f.ctx.slots))
            breakIns := BitVec.ofNat 16 (min 65535 (c.counters.breakIns.toNat + 1)) } }) ∧
      x.slots = 1 ∧ x.column = 0 ∧ x.stopPending = f.ctx.stopPending ∧ x.lead = false ∧ x.headerStarted = false ∧
      x.sequence = [] ∧ x.lineEnd = none ∧ x.shift = .letters ∧
      x.phase = .header (takeHeader c.active.form e.prio v)

/-! ### Answer-back, break and restore -/

/-- The answer-back (R93, R123 to R125): a decoded shift sets the tracked case, CR, LF and blank are ignored, any other
character joins the buffer; the nth character decides between READY and FAULTED with WRONG ANSWERBACK, and a window that
ends short gives NO ANSWERBACK; here the stop mode is MARK, on the line at once where it carries no character (log 18). An
empty expected answer-back has neither ending (log 21). Outside an open window, for a character whose start element
came before it (log 37), and for an expiry that is not due (log 1), nothing changes. -/
def Obligations.AnswerbackDecides : Prop :=
  ∀ (s : State) (i : CircuitId) (code : Code5), s.resetHeld = false →
    let c := s.circuit i
    let faulted : Circuit :=
      { c with
        state := .faulted, window := none, receiving := none, spacing := none
        slot := if c.slot.isChar then c.slot else .mark }
    ((c.window = none ∨ c.receiving = none) → exec (.answerbackCharacter i code) s = .next s) ∧
    (∀ w r, c.window = some w → c.receiving = some r →
      (∀ k, decodeReturn c.tracked code = .shift k →
        exec (.answerbackCharacter i code) s = .next (s.setCircuit i { c with receiving := none, tracked := k })) ∧
      (decodeReturn c.tracked code = .ignored →
        exec (.answerbackCharacter i code) s = .next (s.setCircuit i { c with receiving := none })) ∧
      ∀ ch, decodeReturn c.tracked code = .collect ch →
        let buffer := c.buffer ++ [ch]
        (buffer.length ≠ w.expected.length →
          exec (.answerbackCharacter i code) s =
            .next (s.setCircuit i { c with receiving := none, buffer := buffer })) ∧
        (buffer = w.expected.map RxChar.printed →
          exec (.answerbackCharacter i code) s = .next (s.setCircuit i
            { c with state := .ready, window := none, receiving := none, buffer := buffer })) ∧
        (buffer.length = w.expected.length → buffer ≠ w.expected.map RxChar.printed → c.active.stopMode = .mark →
          exec (.answerbackCharacter i code) s = .next
            ((s.setCircuit i { faulted with buffer := buffer }).recordFault (circuitSource i) .wrongAnswerback))) ∧
    (∀ w, c.window = some w → w.limit ≤ w.ticks → c.buffer.length < w.expected.length → c.active.stopMode = .mark →
      exec (.noAnswerback i) s = .next ((s.setCircuit i faulted).recordFault (circuitSource i) .noAnswerback)) ∧
    (c.window = none ∨ (∃ w, c.window = some w ∧ (w.ticks < w.limit ∨ w.expected.length ≤ c.buffer.length)) →
      exec (.noAnswerback i) s = .next s)

/-- Receiver break and restore (R127 to R129): a spacing run that has reached the break detect time records and counts the
break, a second one in a character time too (log 34); a SENDING circuit marks it for the end of its character, an
IDENTIFYING or READY one is BROKEN, on MARK at once where no character is on the line (log 18). A marking run of a BROKEN
circuit that has reached the restore time takes it into service. Neither acts before it is due (log 1). A change of level
ends the run and starts the other, and in an open window a hunting receiver starts a character at an edge to space, its
half-bit sample P + 1 cycles away in whole ticks (R146; log 22). The model's choice: at a restore, which starts the pacer
(R152), one that still completes its character time counts as running and keeps its phase (log 19). -/
def Obligations.BreakAndRestore : Prop :=
  ∀ (s : State) (i : CircuitId), s.resetHeld = false →
    let c := s.circuit i
    let noted := (s.recordFault (circuitSource i) .receiverBreak).countCircuit i .receiverBreaks 1
    (∀ n, c.spacing = some n → c.active.breakDetect ≤ n →
      (c.state = .sending → exec (.receiverBreak i) s = .next
        (noted.modCircuit i fun c => { c with breakSeen := true, spacing := none })) ∧
      (c.state = .identifying ∨ c.state = .ready → exec (.receiverBreak i) s = .next
        (noted.modCircuit i fun c =>
          { c with
            state := .broken, flight := none, stopNow := false, breakSeen := false, abandoned := false
            requestStep := 0, window := none, buffer := [], receiving := none, spacing := none
            marking := if c.returnMark then some 0 else none, slot := if c.slot.isChar then c.slot else .mark }))) ∧
    ((c.spacing = none ∨ (∃ n, c.spacing = some n ∧ n < c.active.breakDetect) ∨ c.state = .stopped ∨
        c.state = .broken ∨ c.state = .faulted) → exec (.receiverBreak i) s = .next s) ∧
    (∀ n, c.state = .broken → c.marking = some n → c.active.restoreTime ≤ n →
      exec (.restore i) s = .next (s.setCircuit i
        { c with
          state := if c.active.abCheck then .identifying else .ready
          requestStep := 0, window := none, receiving := none, marking := none
          spacing := if c.returnMark then none else some 0
          pacer := if c.pacer.running then c.pacer
            else { running := true, period := c.active.form.period, charLen := c.active.form.stop.charLen } })) ∧
    ((c.state ≠ .broken ∨ c.marking = none ∨ ∃ n, c.marking = some n ∧ n < c.active.restoreTime) →
      exec (.restore i) s = .next s) ∧
    (c.returnMark = true → exec (.returnLineLevelChange i) s = .next (s.setCircuit i
      { c with
        returnMark := false, marking := none
        spacing := if c.state = .identifying ∨ c.state = .ready ∨ c.state = .sending then some 0 else none
        receiving := if c.window ≠ none ∧ c.receiving = none then
            some
              { period := c.active.form.period, charLen := c.active.form.stop.charLen
                sampleIn := ((c.active.form.period + 1) * 5 + 9215) / 9216 }
          else c.receiving })) ∧
    (c.returnMark = false → exec (.returnLineLevelChange i) s = .next (s.setCircuit i
      { c with returnMark := true, spacing := none, marking := if c.state = .broken then some 0 else none }))

/-! ### Queues, routing and packing -/

/-- The estimate (R113 to R115): the least whole number of widths that holds the characters; slots by half-bits, P + 1 and
5, formed in full; divided by 9216, rounded up, and held at 65535; never 0 for a form in range. -/
def Obligations.EstimateArithmetic : Prop :=
  (∀ (f : Form) (r : Nat), f.inRange → ∃ n ms : Nat,
    (r ≤ n * f.width ∧ ∀ m, r ≤ m * f.width → n ≤ m) ∧
    (let e := f.nCR + f.nLF + (if f.reassert then 1 else 0)
     let product := (r + n * e + (8 + 3 * e)) *
      (12 + (match f.stop with | .one => 2 | .oneAndHalf => 3 | .two => 4)) * (f.period + 1) * 5
     14 ≤ 8 + 3 * e ∧ 4608 ≤ f.period + 1 ∧ product ≤ ms * 9216 ∧ ∀ m, product ≤ m * 9216 → ms ≤ m) ∧
    estimate f r = (if 65535 < ms then 65535 else ms) ∧ estimate f r ≤ 65535 ∧ estimate f r ≠ 0) ∧
  5143 * 16 * (65535 + 1) * 5 = 26964131840

/-- Places in a queue in class order (R64, R65): a new entry goes behind every entry of its class or higher; a resumed
entry goes before every entry of its own class. An insertion on a circuit with no take in flight (R67 to R70, R72): shed
copy is counted alone; with room the entry is placed with its estimate and the take gains a reference; a full circuit
displaces the entry nearest the tail that is of lower priority and not resumed (its take has other references here), and
with none it refuses the take. -/
def Obligations.QueuePlacesAndInsertions : Prop :=
  (∀ (q : List Entry) (e : Entry), inClassOrder q →
    (∃ a b, q = a ++ b ∧ placeEntry q e = a ++ e :: b ∧ (∀ x ∈ a, x.prio.num ≤ e.prio.num) ∧
      ∀ x ∈ b, e.prio.num < x.prio.num) ∧
    ∃ a b, q = a ++ b ∧ placeResumed q e = a ++ e :: b ∧ (∀ x ∈ a, x.prio.num < e.prio.num) ∧
      ∀ x ∈ b, e.prio.num ≤ x.prio.num) ∧
  ∀ (s : State) (i : CircuitId) (n : Nat) (p : Priority) (t : Take), s.take? n = some t →
    let c := s.circuit i
    c.flight = none →
    let est := estimate c.active.form t.length
    let e : Entry := { handle := n, prio := p, resume := none, estimate := est }
    let shed : Prop := 0 < c.active.shed ∧
      ((p = .routine ∧ 2 * (c.active.shed * 1000) < c.backlog) ∨ (p = .deferred ∧ c.active.shed * 1000 < c.backlog))
    (shed → s.insert i n p = s.countCircuit i .shed 1) ∧
    (¬shed → c.queue.length < c.active.depth → 0 < s.freeEntries →
      s.insert i n p = (s.setCircuit i { c with queue := placeEntry c.queue e, backlog := c.backlog + est }).putTake n
        { t with refs := t.refs + 1 }) ∧
    (¬shed → (c.queue.length = c.active.depth ∨ (c.queue.length < c.active.depth ∧ s.freeEntries = 0)) →
      ((∀ x ∈ c.queue, x.prio.num ≤ p.num ∨ x.resume ≠ none) → s.insert i n p = s.countCircuit i .refusedFull 1) ∧
      ∀ a x b u, c.queue = a ++ x :: b → p.num < x.prio.num → x.resume = none →
        (∀ y ∈ b, y.prio.num ≤ p.num ∨ y.resume ≠ none) → s.take? x.handle = some u → 1 < u.refs → x.handle ≠ n →
        s.insert i n p = (((s.setCircuit i
          { c with
            queue := placeEntry (a ++ b) e, backlog := c.backlog - x.estimate + est }).countCircuit i .displaced 1).putTake
              x.handle { u with refs := u.refs - 1 }).putTake n { t with refs := t.refs + 1 }) ∧
    (¬shed → c.active.depth < c.queue.length → s.insert i n p = s.countCircuit i .refusedFull 1)

/-- The Router on a normal take of a story not yet indexed (R42 to R50): lookup by category then default, the adjusted
priority with 1 for FLASH alone, a new ACTIVE story entry, and one queue entry on the one open circuit of the set, which
the story counts; a take that no open circuit has is freed and counted as unrouted. Where the records count their
references (R38), a kill's purge takes from each queue exactly the entries of the story's takes, with their estimates,
and its cut orders reach every context of the story that can still be cut (R56, R57). -/
def Obligations.RouterAndKills : Prop :=
  ((∀ (p : Priority) (a : Int), ((adjustedPriority p a).num : Int) =
    if p = .flash then max 1 (min 5 (1 + a)) else max 2 (min 5 (p.num + a))) ∧
  (∀ (s : State) (l : LinkId) (cat : Fin 27),
    let own := s.routes[(⟨l.val * 27 + cat.val, by omega⟩ : Fin 216)]
    let default := s.routes[(⟨l.val * 27 + 26, by omega⟩ : Fin 216)]
    s.lookup l cat = if own.enabled then some own else if default.enabled then some default else none) ∧
  ∀ (s : State) (n : Nat) (t : Take), s.take? n = some t → t.disp = .normal → t.refs = 0 → t.story = none →
    s.story? t.key = none → s.stories.length < 256 → s.store.waiting = [] → s.store.low = false →
    let entry := s.lookup t.link t.category
    let set := (entry.map (·.circuits)).getD 0
    let p := adjustedPriority t.prio ((entry.map (·.adjust)).getD 0)
    let story := fun queued : Nat => ({ key := t.key, state := .active, sent := 0, queued := queued } : Story)
    (∀ i : CircuitId, (∀ j : CircuitId, (set.getLsbD j.val = true ∧ (s.circuit j).active.accepting = true) ↔ j = i) →
      (s.circuit i).sheds p = false → s.full i = false → (s.circuit i).flight = none →
      let c := s.circuit i
      let est := estimate c.active.form t.length
      s.route n = ({ s with stories := story 1 :: s.stories }.setCircuit i
        { c with
          queue := placeEntry c.queue { handle := n, prio := p, resume := none, estimate := est }
          backlog := c.backlog + est }).putTake n { t with adjusted := some p, story := some t.key, refs := 1 }) ∧
    ((∀ j : CircuitId, ¬(set.getLsbD j.val = true ∧ (s.circuit j).active.accepting = true)) →
      s.route n = ({ s with
        stories := story 0 :: s.stories
        store := { s.store with takes := Takes.erase s.store.takes n, free := s.store.free + t.chain.length }
        }.countLink t.link .unrouted 1))) ∧
  ∀ (s : State) (k : StoryKey) (i : CircuitId),
    (Takes.wf s.store.takes = true → s.refsCounted → (s.purge k).circuit i =
      { s.circuit i with
        queue := (s.circuit i).queue.filter fun e => !s.ofStory k e.handle
        backlog := (s.circuit i).backlog - queueSum ((s.circuit i).queue.filter fun e => s.ofStory k e.handle) }) ∧
    ∀ f, (s.circuit i).flight = some f → s.ofStory k f.entry.handle = true → f.ctx.phase.cuttable = true →
      ∃ g, ((s.cutStory k).circuit i).flight = some g ∧ g.entry = f.entry ∧ g.ctx = { f.ctx with cut := true }

/-- Copy of a KILLED story that is no kill is freed and counted as an after-kill discard (R52, R53). A correction of an
ACTIVE story, with a route or none (R53 to R55): on each circuit with a match, open or closed, the match nearest the
head is replaced in place where it has the correction's adjusted priority, and is otherwise removed with the correction
inserted at its own; the matches behind it go. The open circuits of its route without a match get it by fan-out; other
circuits stay. Each take loses as many references as it lost entries, the last freeing it, and the correction gains one
a circuit (R38); with no circuit it is freed and counted as unrouted. Here records count their references, no circuit
sheds, is over its depth, or is full where the fan-out reaches it, the pool has an entry for each of those, no break-in
can be offered, no link waits and the store is not in LOW. -/
def Obligations.CorrectionsAndAfterKill : Prop :=
  (∀ (s : State) (n : Nat) (t : Take) (y : Story), s.take? n = some t → t.disp ≠ .kill → t.refs = 0 →
    s.story? t.key = some y → y.state = .killed → s.store.waiting = [] → s.store.low = false →
    s.route n = ({ s with
      stories := y :: s.stories.filter fun x => x.key != t.key
      store := { s.store with takes := Takes.erase s.store.takes n, free := s.store.free + t.chain.length }
      }.countLink t.link .afterKill 1)) ∧
  ∀ (s : State) (n : Nat) (t : Take) (y : Story), s.take? n = some t → t.disp = .correction → t.refs = 0 →
    s.story? t.key = some y → y.state = .active →
    Takes.wf s.store.takes = true → s.refsCounted → s.store.waiting = [] → s.store.low = false →
    let entry := s.lookup t.link t.category
    let set := (entry.map (·.circuits)).getD 0
    let p := adjustedPriority t.prio ((entry.map (·.adjust)).getD 0)
    let hit := fun e : Entry => e.resume.isNone && ((s.take? e.handle).any fun (v : Take) =>
      v.link == t.link && v.slug == t.slug && v.part == t.part && v.disp != .kill)
    let holds := allCircuits.filter fun i => (s.circuit i).queue.any hit
    let fans := allCircuits.filter fun i =>
      set.getLsbD i.val && (s.circuit i).active.accepting && !(s.circuit i).queue.any hit
    s.entriesUsed + fans.length ≤ 512 →
    (∀ i : CircuitId, (s.circuit i).occupancy ≤ (s.circuit i).active.depth ∧ (s.circuit i).active.shed = 0 ∧
      ((s.circuit i).flight = none ∨ 2 < p.num)) →
    (∀ i ∈ fans, (s.circuit i).occupancy < (s.circuit i).active.depth) →
    let u := s.route n
    (holds = [] → fans = [] → u = ({ s with
      stories := y :: s.stories.filter fun x => x.key != t.key
      store := { s.store with takes := Takes.erase s.store.takes n, free := s.store.free + t.chain.length }
      }.countLink t.link .unrouted 1)) ∧
    (holds ++ fans ≠ [] →
      u = { s with
        circuits := u.circuits, stories := u.stories
        store := { s.store with takes := u.store.takes, free := u.store.free } } ∧
      u.take? n = some { t with adjusted := some p, story := some t.key, refs := holds.length + fans.length } ∧
      (∀ m v, m ≠ n → s.take? m = some v →
        let lost := (allCircuits.map fun i => ((s.circuit i).queue.filter fun e => e.handle == m && hit e).length).sum
        u.take? m = if lost = 0 then some v else if v.refs ≤ lost then none else some { v with refs := v.refs - lost }) ∧
      ∀ i : CircuitId,
        let c := s.circuit i
        let est := estimate c.active.form t.length
        let fresh : Entry := { handle := n, prio := p, resume := none, estimate := est }
        (c.queue.any hit = false → u.circuit i =
          if i ∈ fans then { c with queue := placeEntry c.queue fresh, backlog := c.backlog + est } else c) ∧
        ∀ a x b, c.queue = a ++ x :: b → a.any hit = false → hit x = true →
          let kept := b.filter fun e => !hit e
          let backlog := c.backlog - queueSum (b.filter hit) - x.estimate + est
          (x.prio = p → u.circuit i =
            { c with queue := a ++ { x with handle := n, estimate := est } :: kept, backlog := backlog }) ∧
          (x.prio ≠ p → u.circuit i = { c with queue := placeEntry (a ++ kept) fresh, backlog := backlog }))

/-- A kill of an ACTIVE story purges it, cuts its takes in flight, adds their circuits to the sent set, and leaves it
KILLED; of a KILLED one it does none of this (R56 to R59). Either way it stands once on each circuit of the sent set,
open or closed, at priority 2 or FLASH; with an empty sent set it is freed and counted as unrouted. Every circuit has
room here, records count their references, no link waits and the store is not in LOW. A kill of an unknown story creates
it KILLED and fans out, here to the one open circuit of its set (R59). With 256 stories the least recent one without
queued copy gives way; with none the take is marked unindexed (R49). -/
def Obligations.KillsCloseStories : Prop :=
  (∀ (s : State) (n : Nat) (t : Take) (y : Story), s.take? n = some t → t.disp = .kill → t.refs = 0 →
    s.story? t.key = some y → Takes.wf s.store.takes = true → s.refsCounted → s.store.waiting = [] → s.store.low = false →
    s.entriesUsed + 16 ≤ 512 → (∀ i : CircuitId, (s.circuit i).occupancy < (s.circuit i).active.depth) →
    let adjusted := adjustedPriority t.prio (((s.lookup t.link t.category).map (·.adjust)).getD 0)
    let p : Priority := if adjusted = .flash then .flash else .bulletin
    let gone := fun m : Nat => decide (y.state = .active) && s.ofStory t.key m
    let flies := fun (i : CircuitId) (m : Nat) => (s.circuit i).flight.any fun f => f.entry.handle == m
    let sent := fun i : CircuitId => y.sent.getLsbD i.val || ((s.circuit i).flight.any fun f => gone f.entry.handle)
    let reached := allCircuits.filter sent
    let u := s.route n
    let changed : State := { s with
      circuits := u.circuits, stories := u.stories
      store := { s.store with takes := u.store.takes, free := u.store.free } }
    (reached ≠ [] → u = changed ∧
      u.take? n = some { t with adjusted := some p, story := some t.key, refs := reached.length }) ∧
    (reached = [] → u = changed.countLink t.link .unrouted 1 ∧ u.take? n = none) ∧
    (∃ z, u.story? t.key = some z ∧ z.state = .killed ∧ ∀ i : CircuitId, z.sent.getLsbD i.val = sent i) ∧
    (∀ m v, m ≠ n → s.take? m = some v →
      let queued := (allCircuits.map fun i => ((s.circuit i).queue.filter fun e => e.handle == m).length).sum
      let left := (allCircuits.filter fun i => flies i m).length
      u.take? m = if gone m = false ∨ queued = 0 then some v else if left = 0 then none
        else some { v with refs := left }) ∧
    ∀ i : CircuitId,
      let c := s.circuit i
      let kept := c.queue.filter fun e => !gone e.handle
      let less := c.backlog - queueSum (c.queue.filter fun e => gone e.handle)
      let est := estimate c.active.form t.length
      u.circuit i =
        { c with
          queue := if sent i then placeEntry kept { handle := n, prio := p, resume := none, estimate := est } else kept
          backlog := if sent i then less + est else less
          flight := (u.circuit i).flight } ∧
      (c.flight = none → (u.circuit i).flight = none) ∧
      ∀ f, c.flight = some f → ∃ b : Bool, (u.circuit i).flight = some { f with
        ctx := { f.ctx with
          cut := f.ctx.cut || (gone f.entry.handle && f.ctx.phase.cuttable), breakIn := b } }) ∧
  (∀ (s : State) (n : Nat) (t : Take) (i : CircuitId), s.take? n = some t → t.disp = .kill → t.refs = 0 →
    s.story? t.key = none → s.stories.length < 256 →
    let entry := s.lookup t.link t.category
    let set := (entry.map (·.circuits)).getD 0
    let p : Priority := if adjustedPriority t.prio ((entry.map (·.adjust)).getD 0) = .flash then .flash else .bulletin
    (∀ j : CircuitId, (set.getLsbD j.val = true ∧ (s.circuit j).active.accepting = true) ↔ j = i) →
    s.full i = false → (s.circuit i).flight = none →
    let c := s.circuit i
    let est := estimate c.active.form t.length
    s.route n = ({ s with
      stories := { key := t.key, state := .killed, sent := 0, queued := 1 } :: s.stories }.setCircuit i
      { c with
        queue := placeEntry c.queue { handle := n, prio := p, resume := none, estimate := est }
        backlog := c.backlog + est }).putTake n { t with adjusted := some p, story := some t.key, refs := 1 }) ∧
  ∀ (s : State) (n : Nat) (t : Take), s.take? n = some t → s.story? t.key = none → s.stories.length = 256 →
    (∀ a x b, s.stories = a ++ x :: b → x.queued = 0 → (∀ z ∈ b, z.queued ≠ 0) →
      (s.indexStory n t).1 = { s with
        stories := { key := t.key, state := if t.disp = Disposition.kill then .killed else .active, sent := 0, queued := 0 } ::
          (a ++ b) }.putTake n { t with story := some t.key }) ∧
    ((∀ z ∈ s.stories, z.queued ≠ 0) → s.indexStory n t = (s.putTake n { t with unindexed := true }, .unindexed))

/-- The Packer's line (R88, R89, R97, R99 to R105, R109 to R111). A line end is CR, LF and the reassert LTRS as the
profile has them, a paragraph one LF more, from column 0; it begins with its CR and then goes on whole, and the
line-start position becomes the read position with the last character of a line end of the text, and at no other. At a
complete line end of the header a set cut-pending takes the context to its trailer, else the header goes on, behind its
closing line end to the text. At one of the text, the end of the text or a set cut-pending leads to the trailer and
drops a pending break-in; else a pending break-in ends the context; else the text goes on. A character whose case is not
the assumed one is preceded by the shift, which takes a slot and no column. A space goes on the line while the column is
below W; at W the run of spaces is consumed and the line folds. A paragraph mark is passed and begins its line end. A
word, its length that of its expansions from the read position on, is folded before where it does not fit or, longer
than W, does not start at the margin, with no byte of it passed over; else its first character follows, its unprintable
bytes counted. A word longer than W folds inside whenever the column has reached W and goes on below it. The trailer, at
the end of the text or by a cut, is whole: a line end unless at the margin, tag, space, FIGS, ready clock, the marks
due, `/` of a cut the last, two line ends. -/
def Obligations.PackerTextAndTrailers : Prop :=
  (∀ (fm : Form) (k : LineEnd) (x : Context) (u : Nat), 1 ≤ fm.nCR → ∃ y : Context,
    x.beginLineEnd fm k u = .char .cr y u false ∧ y.column = 0 ∧ y.slots = x.slots + 1 ∧ y.lineEnd = some k ∧
    y.phase = x.phase ∧ y.read = x.read ∧ (1 ≤ fm.nLF → y.lineStart = x.lineStart) ∧
    .cr :: y.sequence = List.flatten [List.replicate fm.nCR .cr, List.replicate fm.nLF .lf,
      if fm.reassert then [.ltrs] else [], if k = .paragraph ∧ fm.spacing = true then [.lf] else []]) ∧
  (∀ (fm : Form) (tbl : Vector SubstEntry 32) (t : Take) (x : Context) (f : FiveUnit) (rest : List FiveUnit),
    x.sequence = f :: rest → ∃ y : Context, choose fm tbl t x = .char f y 0 false ∧ y.sequence = rest ∧
      y.slots = x.slots + 1 ∧ y.column = x.column + f.columns ∧ y.read = x.read ∧ y.phase = x.phase ∧
      y.lineEnd = x.lineEnd ∧ y.lineStart = if rest = [] ∧ x.phase = .text then x.read else x.lineStart) ∧
  (∀ (fm : Form) (tbl : Vector SubstEntry 32) (t : Take) (x y : Context) (f : FiveUnit) (u : Nat) (start : Bool),
    1 ≤ fm.nCR → 1 ≤ fm.nLF → x.sequence = [] → choose fm tbl t x = .char f y u start →
    y.lineStart = x.lineStart ∧ y.slots = x.slots + 1 ∧ ((y.lineEnd = none ∧ y.sequence = []) ∨
      ∃ k, y.lineEnd = some k ∧ f = .cr ∧ y.column = 0 ∧
        .cr :: y.sequence = List.flatten [List.replicate fm.nCR .cr, List.replicate fm.nLF .lf,
          if fm.reassert then [.ltrs] else [], if k = .paragraph ∧ fm.spacing = true then [.lf] else []])) ∧
  (∀ (fm : Form) (tbl : Vector SubstEntry 32) (t : Take) (x : Context) (k : LineEnd), x.sequence = [] →
    x.lineEnd = some k →
    let on : Context := { x with lineEnd := none }
    let trailer : Context := { on with phase := .trailer .opening, word := none, breakIn := false }
    (∀ items, x.phase = .header items →
      choose fm tbl t x = choose fm tbl t (if x.cut then trailer else if k = .headerClose then { on with phase := .text }
        else on)) ∧
    (x.phase = .text → (t.length ≤ x.read.pos ∨ x.cut = true → choose fm tbl t x = choose fm tbl t trailer) ∧
      (x.read.pos < t.length → x.cut = false → x.breakIn = true → choose fm tbl t x = .breakIn) ∧
      (x.read.pos < t.length → x.cut = false → x.breakIn = false → choose fm tbl t x = choose fm tbl t on)) ∧
    ∀ step, x.phase = .trailer step → choose fm tbl t x = choose fm tbl t on) ∧
  (∀ (fm : Form) (x : Context) (f : FiveUnit) (past : Context → Context) (u : Nat),
    ((f.needs = none ∨ f.needs = some x.shift) → x.want fm f past u = .char f ((past x).emit fm f) u false) ∧
    ∀ k : ShiftCase, f.needs = some k → k ≠ x.shift →
      x.want fm f past u = .char k.shift { x with slots := x.slots + 1, shift := k } u false) ∧
  (∀ (fm : Form) (tbl : Vector SubstEntry 32) (t : Take) (x : Context), x.sequence = [] → x.lineEnd = none →
    x.phase = .text → x.word = none → x.read.pos < t.length → t.charAt x.read.pos = 0x20 →
    (x.column < fm.width → ∃ y : Context, choose fm tbl t x = .char .space y 0 false ∧
      y.read = { pos := x.read.pos + 1, off := 0 } ∧ y.column = x.column + 1) ∧
    (fm.width ≤ x.column → ∃ (y : Context) (m : Nat), choose fm tbl t x = .char .cr y 0 false ∧ y.column = 0 ∧
      y.read = { pos := m, off := 0 } ∧ x.read.pos < m ∧ (∀ j, x.read.pos ≤ j → j < m → t.charAt j = 0x20) ∧
      (m = t.length ∨ (m < t.length ∧ t.charAt m ≠ 0x20)))) ∧
  (∀ (fm : Form) (tbl : Vector SubstEntry 32) (t : Take) (x : Context), x.sequence = [] → x.lineEnd = none →
    x.phase = .text → x.word = none → x.read.pos < t.length → t.charAt x.read.pos = 0x0A →
    choose fm tbl t x = ({ x with read := { pos := x.read.pos + 1, off := 0 } } : Context).beginLineEnd fm .paragraph 0) ∧
  (∀ (fm : Form) (tbl : Vector SubstEntry 32) (t : Take) (x : Context), 0 < fm.width → x.sequence = [] →
    x.lineEnd = none → x.phase = .text → x.word = none → x.read.pos < t.length → t.charAt x.read.pos ≠ 0x20 →
    t.charAt x.read.pos ≠ 0x0A →
    let span := ((List.range (t.length - x.read.pos)).map fun j => t.charAt (x.read.pos + j)).takeWhile fun b =>
      b != 0x20 && b != 0x0A
    let parts := span.map fun b => (expansion tbl b).1
    let chars := (parts.headD []).drop x.read.off ++ parts.tail.flatten
    let missing := (span.map fun b => (expansion tbl b).2).sum
    let gives := fun (f : FiveUnit) (column : Nat) => ∃ (y : Context) (u : Nat),
      choose fm tbl t x = .char f y u false ∧ y.column = column ∧ (chars.length ≤ fm.width → u = missing)
    (0 < x.column → (fm.width < chars.length ∨ fm.width < x.column + chars.length) → ∃ (y : Context) (u : Nat),
      choose fm tbl t x = .char .cr y u false ∧ y.lineEnd = some .fold ∧ y.column = 0 ∧ y.read = x.read ∧
        (chars.length ≤ fm.width → u = missing)) ∧
    ∀ c rest, chars = c :: rest → (x.column = 0 ∨ x.column + chars.length ≤ fm.width) →
      ((unitOf c).needs = some x.shift → gives (unitOf c) (x.column + 1)) ∧
      ∀ k : ShiftCase, (unitOf c).needs = some k → k ≠ x.shift → gives k.shift x.column) ∧
  (∀ (fm : Form) (tbl : Vector SubstEntry 32) (t : Take) (x : Context) (w : HeldWord) (c : Byte), x.sequence = [] →
    x.lineEnd = none → x.phase = .text → x.word = some w → w.long = true → w.fresh = false → x.read.pos < t.length →
    (w.ahead = [] → t.charAt x.read.pos ≠ 0x20 ∧ t.charAt x.read.pos ≠ 0x0A) →
    (w.ahead.headD (expansion tbl (t.charAt x.read.pos)).1)[x.read.off]? = some c →
    (fm.width ≤ x.column → ∃ y : Context, choose fm tbl t x = .char .cr y 0 false ∧ y.lineEnd = some .fold ∧
      y.column = 0 ∧ y.read = x.read) ∧
    (x.column < fm.width →
      ((unitOf c).needs = some x.shift → ∃ y : Context, choose fm tbl t x = .char (unitOf c) y 0 false ∧
        y.column = x.column + 1) ∧
      ∀ k : ShiftCase, (unitOf c).needs = some k → k ≠ x.shift → ∃ y : Context,
        choose fm tbl t x = .char k.shift y 0 false ∧ y.column = x.column)) ∧
  ∀ (fm : Form) (tbl : Vector SubstEntry 32) (t : Take) (x : Context) (a b : Byte) (hh mm : Nat), fm.inRange →
    x.sequence = [] →
    ((x.lineEnd = none ∧ x.phase = .text ∧ t.length ≤ x.read.pos) ∨
      ((∃ k, x.lineEnd = some k) ∧ x.phase = .text ∧ (t.length ≤ x.read.pos ∨ x.cut = true)) ∨
      ((∃ k, x.lineEnd = some k) ∧ (∃ items, x.phase = .header items) ∧ x.cut = true)) → t.tag = [a, b] →
    isLetter a = true → isLetter b = true → t.readyClock = some (hh, mm) → hh < 24 → mm < 60 →
    let lineEnd : List FiveUnit := List.replicate fm.nCR .cr ++ List.replicate fm.nLF .lf ++
      (if fm.reassert then [.ltrs] else [])
    let digit := fun n : Nat => FiveUnit.figure (BitVec.ofNat 8 (0x30 + n))
    let marked := fun (due : Bool) (mark : Byte) => if due then [FiveUnit.figure mark] else []
    emitted fm tbl t 40 x = List.flatten
      [if 0 < x.column then lineEnd else [],
        if x.shift = .figures ∧ ¬(0 < x.column ∧ fm.reassert = true) then [.ltrs] else [],
        [.letter a, .letter b, .space, .figs, digit (hh / 10), digit (hh % 10), digit (mm / 10), digit (mm % 10)],
        marked t.suspect 0x3F, marked t.truncated 0x2B, marked x.cut 0x2F, lineEnd, lineEnd]

/-! ### Laws that every step keeps -/

/-- Every step keeps each queue in class order (R64) and each backlog figure the sum of its queue's estimates (R72). -/
def Obligations.StepsKeepQueues : Prop :=
  ∀ s t : State, step s = .next t →
    (s.queuesOrdered → t.queuesOrdered) ∧ (s.backlogsExact → t.backlogsExact)

/-- Every step keeps this of the circuits: outside SENDING no take is in flight (R116), an answer-back window is open in
IDENTIFYING alone (R123, R125), and the pacer runs in IDENTIFYING, READY and SENDING (R144). -/
def Obligations.StepsKeepCircuitStates : Prop :=
  ∀ s t : State, step s = .next t → s.onlySendingHasFlight → s.windowsIdentify → s.pacersRun →
    t.onlySendingHasFlight ∧ t.windowsIdentify ∧ t.pacersRun

/-- Every step keeps 1024 segments in the pool and the chains (R24), LOW between its marks and the settings in order (R25,
R26), and every hold line as R20 calls for. -/
def Obligations.StepsKeepStore : Prop :=
  ∀ s t : State, step s = .next t →
    (s.segmentsConserved → t.segmentsConserved) ∧ (s.lowConsistent → t.lowConsistent) ∧
      (s.holdsFollowLow → t.holdsFollowLow)

/-- Every step keeps the reference law of R38: each listed record counts the queue entries and takes in flight that name
it, at least one where it is READY and none where it is FILLING, and no circuit names an unlisted record; and that the
record of each copy frame in progress is FILLING and its link's own. -/
def Obligations.StepsKeepReferences : Prop :=
  ∀ s t : State, step s = .next t → Takes.wf s.store.takes = true → s.onlySendingHasFlight → s.framesFill → s.refsExact →
    t.framesFill ∧ t.refsExact

/-- Every step keeps codes of its own source in each entry of the fault summary (R176), and the request queue, the reply
queues, the receive FIFOs and the watch list within their capacities (R3, R153, R173). -/
def Obligations.StepsKeepFaultsAndBuffers : Prop :=
  ∀ s t : State, step s = .next t →
    (s.faultsOwn → t.faultsOwn) ∧ (s.withinCapacities → t.withinCapacities)

/-- Every step keeps at most 256 story entries, no two of one key (R47), and at most 16 serials, none twice, in each
recent-serial set (R10, R16). -/
def Obligations.StepsKeepStoriesAndSerials : Prop :=
  ∀ s t : State, step s = .next t →
    (s.storiesDistinct → t.storiesDistinct) ∧ (s.recentsBounded → t.recentsBounded)

/-- Every step keeps this of reception: a link with bytes in its FIFO waits for a segment (R3, R4; log 3), and every
waiting request fails the grant rule (R29). -/
def Obligations.StepsKeepDraining : Prop :=
  ∀ s t : State, step s = .next t → (s.settled → t.settled) ∧ (s.noEligibleWaits → t.noEligibleWaits)

/-- Every step keeps the fields of the circuit profiles, active and staged, of the link profiles, of the routing table,
the service settings, the day clock and the substitution table in their ranges (R1, R43, R83 to R85, R126, R147, R164,
R169). -/
def Obligations.StepsKeepTablesInRange : Prop :=
  ∀ s t : State, step s = .next t →
    (s.profilesInRange → t.profilesInRange) ∧ (s.linkProfilesInRange → t.linkProfilesInRange) ∧
      (s.settingsInRange → t.settingsInRange) ∧ (s.substLawful → t.substLawful)
end

