-- ==== Sys2Proof/WellFormed.lean ====
section
/-! DEFINITION. When a command is well formed: a service request's parameters fit the 64 bytes that a service frame can
carry (R14, R153). The bounds on links, circuits, bits and positions are in the operands' types. -/

namespace Sys2Proof

/-- The most value bytes of a TABLE WRITE: 64 parameter bytes less table, index and field (R14, R184). -/
abbrev maxWriteValue : Nat := 61

/-- The most point bytes of a WATCH ENTER: 64 parameter bytes less the count (R14, R184). -/
abbrev maxPointBytes : Nat := 63

/-- A command that the outside world can send (R14: at most 128 parameter digits). -/
def Instr.wellFormed : Instr → Bool
  | .tableWriteRoute _ _ _ v | .tableWriteCircuit _ _ _ v | .tableWriteLink _ _ _ v | .tableWriteSubst _ _ _ v
  | .tableWriteStore _ _ _ v | .tableWriteService _ _ _ v => decide (v.length ≤ maxWriteValue)
  | .watchEnter _ _ ps => decide (ps.length ≤ maxPointBytes)
  | .hardwareReset _ | .millisecondTick | .dayClockSecond | .byteArrives _ _ | .segmentGrant | .silenceExpiry _
  | .holdExpiry _ | .characterTimeEnd _ | .answerbackCharacter _ _ | .noAnswerback _ | .receiverBreak _ | .restore _
  | .requestTimedOut _ | .retry | .identify _ | .tableRead _ _ _ _ | .start _ _ | .stopNow _ _ | .stopAtTakeEnd _ _
  | .openCircuit _ _ | .closeCircuit _ _ | .flush _ _ | .linkEnable _ _ | .linkDisable _ _ | .linkReset _ _
  | .takeSpike _ _ _ | .queueRead _ _ _ | .watchRead _ _ | .faultRead _ | .clockSet _ _ _ _ | .copyRestart _
  | .replyFrameSent _ | .watchReport | .resetInputAsserted | .returnLineLevelChange _ => true

end Sys2Proof
end

