-- ==== Sys2Proof/Laws/PerInstr.lean ====
section
/-! SUPPORT. A statement made of every command on its own: a well-formed service request carries at most the 64
parameter bytes that a service frame holds (R14, R184). -/

namespace Sys2Proof.Laws.RequestFits

/-- Three bytes before at most 61 make at most 64. -/
theorem cons_value_length {a b c : Byte} {v : List Byte} (h : v.length ≤ maxWriteValue) :
    (a :: b :: c :: v).length ≤ 64 := Nat.add_le_add_right h 3

/-- One byte before at most 63 makes at most 64. -/
theorem cons_points_length {a : Byte} {v : List Byte} (h : v.length ≤ maxPointBytes) : (a :: v).length ≤ 64 :=
  Nat.add_le_add_right h 1

/-- The parameters of a well-formed service request fit its frame. -/
def Statement (i : Instr) : Prop :=
  i.wellFormed = true → ∀ h kind ps, i.request? = some (h, kind, ps) → ps.length ≤ 64

theorem hardwareReset (straps : BitVec 6) : Statement (.hardwareReset straps) := by
  intro _ _ _ _ hr
  cases hr

theorem millisecondTick : Statement .millisecondTick := by
  intro _ _ _ _ hr
  cases hr

theorem dayClockSecond : Statement .dayClockSecond := by
  intro _ _ _ _ hr
  cases hr

theorem byteArrives (link : LinkId) (b : Byte) : Statement (.byteArrives link b) := by
  intro _ _ _ _ hr
  cases hr

theorem segmentGrant : Statement .segmentGrant := by
  intro _ _ _ _ hr
  cases hr

theorem silenceExpiry (link : LinkId) : Statement (.silenceExpiry link) := by
  intro _ _ _ _ hr
  cases hr

theorem holdExpiry (link : LinkId) : Statement (.holdExpiry link) := by
  intro _ _ _ _ hr
  cases hr

theorem characterTimeEnd (circuit : CircuitId) : Statement (.characterTimeEnd circuit) := by
  intro _ _ _ _ hr
  cases hr

theorem answerbackCharacter (circuit : CircuitId) (code : Code5) : Statement (.answerbackCharacter circuit code) := by
  intro _ _ _ _ hr
  cases hr

theorem noAnswerback (circuit : CircuitId) : Statement (.noAnswerback circuit) := by
  intro _ _ _ _ hr
  cases hr

theorem receiverBreak (circuit : CircuitId) : Statement (.receiverBreak circuit) := by
  intro _ _ _ _ hr
  cases hr

theorem restore (circuit : CircuitId) : Statement (.restore circuit) := by
  intro _ _ _ _ hr
  cases hr

theorem requestTimedOut (position : Fin 8) : Statement (.requestTimedOut position) := by
  intro _ _ _ _ hr
  cases hr

theorem retry : Statement .retry := by
  intro _ _ _ _ hr
  cases hr

theorem identify (h : ReqHead) : Statement (.identify h) := by
  intro _ _ _ _ hr
  cases hr
  exact Nat.le_of_ble_eq_true rfl

theorem tableRead (h : ReqHead) (table index field : Byte) : Statement (.tableRead h table index field) := by
  intro _ _ _ _ hr
  cases hr
  exact Nat.le_of_ble_eq_true rfl

theorem tableWriteRoute (h : ReqHead) (index field : Byte) (value : List Byte) :
    Statement (.tableWriteRoute h index field value) := by
  intro hw _ _ _ hr
  cases hr
  exact cons_value_length (of_decide_eq_true hw)

theorem tableWriteCircuit (h : ReqHead) (index field : Byte) (value : List Byte) :
    Statement (.tableWriteCircuit h index field value) := by
  intro hw _ _ _ hr
  cases hr
  exact cons_value_length (of_decide_eq_true hw)

theorem tableWriteLink (h : ReqHead) (index field : Byte) (value : List Byte) :
    Statement (.tableWriteLink h index field value) := by
  intro hw _ _ _ hr
  cases hr
  exact cons_value_length (of_decide_eq_true hw)

theorem tableWriteSubst (h : ReqHead) (index field : Byte) (value : List Byte) :
    Statement (.tableWriteSubst h index field value) := by
  intro hw _ _ _ hr
  cases hr
  exact cons_value_length (of_decide_eq_true hw)

theorem tableWriteStore (h : ReqHead) (index field : Byte) (value : List Byte) :
    Statement (.tableWriteStore h index field value) := by
  intro hw _ _ _ hr
  cases hr
  exact cons_value_length (of_decide_eq_true hw)

theorem tableWriteService (h : ReqHead) (index field : Byte) (value : List Byte) :
    Statement (.tableWriteService h index field value) := by
  intro hw _ _ _ hr
  cases hr
  exact cons_value_length (of_decide_eq_true hw)

theorem start (h : ReqHead) (circuit : Byte) : Statement (.start h circuit) := by
  intro _ _ _ _ hr
  cases hr
  exact Nat.le_of_ble_eq_true rfl

theorem stopNow (h : ReqHead) (circuit : Byte) : Statement (.stopNow h circuit) := by
  intro _ _ _ _ hr
  cases hr
  exact Nat.le_of_ble_eq_true rfl

theorem stopAtTakeEnd (h : ReqHead) (circuit : Byte) : Statement (.stopAtTakeEnd h circuit) := by
  intro _ _ _ _ hr
  cases hr
  exact Nat.le_of_ble_eq_true rfl

theorem openCircuit (h : ReqHead) (circuit : Byte) : Statement (.openCircuit h circuit) := by
  intro _ _ _ _ hr
  cases hr
  exact Nat.le_of_ble_eq_true rfl

theorem closeCircuit (h : ReqHead) (circuit : Byte) : Statement (.closeCircuit h circuit) := by
  intro _ _ _ _ hr
  cases hr
  exact Nat.le_of_ble_eq_true rfl

theorem flush (h : ReqHead) (circuit : Byte) : Statement (.flush h circuit) := by
  intro _ _ _ _ hr
  cases hr
  exact Nat.le_of_ble_eq_true rfl

theorem linkEnable (h : ReqHead) (link : Byte) : Statement (.linkEnable h link) := by
  intro _ _ _ _ hr
  cases hr
  exact Nat.le_of_ble_eq_true rfl

theorem linkDisable (h : ReqHead) (link : Byte) : Statement (.linkDisable h link) := by
  intro _ _ _ _ hr
  cases hr
  exact Nat.le_of_ble_eq_true rfl

theorem linkReset (h : ReqHead) (link : Byte) : Statement (.linkReset h link) := by
  intro _ _ _ _ hr
  cases hr
  exact Nat.le_of_ble_eq_true rfl

theorem takeSpike (h : ReqHead) (link : Byte) (serial : BitVec 16) : Statement (.takeSpike h link serial) := by
  intro _ _ _ _ hr
  cases hr
  exact Nat.le_of_ble_eq_true rfl

theorem queueRead (h : ReqHead) (circuit position : Byte) : Statement (.queueRead h circuit position) := by
  intro _ _ _ _ hr
  cases hr
  exact Nat.le_of_ble_eq_true rfl

theorem watchEnter (h : ReqHead) (count : Byte) (points : List Byte) : Statement (.watchEnter h count points) := by
  intro hw _ _ _ hr
  cases hr
  exact cons_points_length (of_decide_eq_true hw)

theorem watchRead (h : ReqHead) (clear : Byte) : Statement (.watchRead h clear) := by
  intro _ _ _ _ hr
  cases hr
  exact Nat.le_of_ble_eq_true rfl

theorem faultRead (h : ReqHead) : Statement (.faultRead h) := by
  intro _ _ _ _ hr
  cases hr
  exact Nat.le_of_ble_eq_true rfl

theorem clockSet (h : ReqHead) (hours minutes seconds : Byte) : Statement (.clockSet h hours minutes seconds) := by
  intro _ _ _ _ hr
  cases hr
  exact Nat.le_of_ble_eq_true rfl

theorem copyRestart (h : ReqHead) : Statement (.copyRestart h) := by
  intro _ _ _ _ hr
  cases hr
  exact Nat.le_of_ble_eq_true rfl

theorem replyFrameSent (link : LinkId) : Statement (.replyFrameSent link) := by
  intro _ _ _ _ hr
  cases hr

theorem watchReport : Statement .watchReport := by
  intro _ _ _ _ hr
  cases hr

theorem resetInputAsserted : Statement .resetInputAsserted := by
  intro _ _ _ _ hr
  cases hr

theorem returnLineLevelChange (circuit : CircuitId) : Statement (.returnLineLevelChange circuit) := by
  intro _ _ _ _ hr
  cases hr

end Sys2Proof.Laws.RequestFits
end

