-- ==== Sys2Proof/Laws/State.lean ====
section
/-! SUPPORT. One lemma per field of the state for each update of it, and the reading of the part an update changes. -/

namespace Sys2Proof.Machine

open Sys2Proof

variable (s : State)

/-! ### setLink -/

@[simp] theorem State.setLink_pending (l : LinkId) (k : Link) : (s.setLink l k).pending = s.pending := rfl
@[simp] theorem State.setLink_resetHeld (l : LinkId) (k : Link) : (s.setLink l k).resetHeld = s.resetHeld := rfl
@[simp] theorem State.setLink_ms (l : LinkId) (k : Link) : (s.setLink l k).ms = s.ms := rfl
@[simp] theorem State.setLink_tickRun (l : LinkId) (k : Link) : (s.setLink l k).tickRun = s.tickRun := rfl
@[simp] theorem State.setLink_clock (l : LinkId) (k : Link) : (s.setLink l k).clock = s.clock := rfl
@[simp] theorem State.setLink_ownCode (l : LinkId) (k : Link) : (s.setLink l k).ownCode = s.ownCode := rfl
@[simp] theorem State.setLink_store (l : LinkId) (k : Link) : (s.setLink l k).store = s.store := rfl
@[simp] theorem State.setLink_routes (l : LinkId) (k : Link) : (s.setLink l k).routes = s.routes := rfl
@[simp] theorem State.setLink_stories (l : LinkId) (k : Link) : (s.setLink l k).stories = s.stories := rfl
@[simp] theorem State.setLink_subst (l : LinkId) (k : Link) : (s.setLink l k).subst = s.subst := rfl
@[simp] theorem State.setLink_circuits (l : LinkId) (k : Link) : (s.setLink l k).circuits = s.circuits := rfl
@[simp] theorem State.setLink_requests (l : LinkId) (k : Link) : (s.setLink l k).requests = s.requests := rfl
@[simp] theorem State.setLink_retryTimer (l : LinkId) (k : Link) : (s.setLink l k).retryTimer = s.retryTimer := rfl
@[simp] theorem State.setLink_settings (l : LinkId) (k : Link) : (s.setLink l k).settings = s.settings := rfl
@[simp] theorem State.setLink_requestsDone (l : LinkId) (k : Link) : (s.setLink l k).requestsDone = s.requestsDone := rfl
@[simp] theorem State.setLink_requestsTimedOut (l : LinkId) (k : Link) : (s.setLink l k).requestsTimedOut = s.requestsTimedOut := rfl
@[simp] theorem State.setLink_watch (l : LinkId) (k : Link) : (s.setLink l k).watch = s.watch := rfl
@[simp] theorem State.setLink_watchTimer (l : LinkId) (k : Link) : (s.setLink l k).watchTimer = s.watchTimer := rfl
@[simp] theorem State.setLink_faults (l : LinkId) (k : Link) : (s.setLink l k).faults = s.faults := rfl
@[simp] theorem State.setLink_noticeNumber (l : LinkId) (k : Link) : (s.setLink l k).noticeNumber = s.noticeNumber := rfl

/-! ### setCircuit -/

@[simp] theorem State.setCircuit_pending (i : CircuitId) (c : Circuit) : (s.setCircuit i c).pending = s.pending := rfl
@[simp] theorem State.setCircuit_resetHeld (i : CircuitId) (c : Circuit) : (s.setCircuit i c).resetHeld = s.resetHeld := rfl
@[simp] theorem State.setCircuit_ms (i : CircuitId) (c : Circuit) : (s.setCircuit i c).ms = s.ms := rfl
@[simp] theorem State.setCircuit_tickRun (i : CircuitId) (c : Circuit) : (s.setCircuit i c).tickRun = s.tickRun := rfl
@[simp] theorem State.setCircuit_clock (i : CircuitId) (c : Circuit) : (s.setCircuit i c).clock = s.clock := rfl
@[simp] theorem State.setCircuit_ownCode (i : CircuitId) (c : Circuit) : (s.setCircuit i c).ownCode = s.ownCode := rfl
@[simp] theorem State.setCircuit_links (i : CircuitId) (c : Circuit) : (s.setCircuit i c).links = s.links := rfl
@[simp] theorem State.setCircuit_store (i : CircuitId) (c : Circuit) : (s.setCircuit i c).store = s.store := rfl
@[simp] theorem State.setCircuit_routes (i : CircuitId) (c : Circuit) : (s.setCircuit i c).routes = s.routes := rfl
@[simp] theorem State.setCircuit_stories (i : CircuitId) (c : Circuit) : (s.setCircuit i c).stories = s.stories := rfl
@[simp] theorem State.setCircuit_subst (i : CircuitId) (c : Circuit) : (s.setCircuit i c).subst = s.subst := rfl
@[simp] theorem State.setCircuit_requests (i : CircuitId) (c : Circuit) : (s.setCircuit i c).requests = s.requests := rfl
@[simp] theorem State.setCircuit_retryTimer (i : CircuitId) (c : Circuit) : (s.setCircuit i c).retryTimer = s.retryTimer := rfl
@[simp] theorem State.setCircuit_settings (i : CircuitId) (c : Circuit) : (s.setCircuit i c).settings = s.settings := rfl
@[simp] theorem State.setCircuit_requestsDone (i : CircuitId) (c : Circuit) : (s.setCircuit i c).requestsDone = s.requestsDone := rfl
@[simp] theorem State.setCircuit_requestsTimedOut (i : CircuitId) (c : Circuit) : (s.setCircuit i c).requestsTimedOut = s.requestsTimedOut := rfl
@[simp] theorem State.setCircuit_watch (i : CircuitId) (c : Circuit) : (s.setCircuit i c).watch = s.watch := rfl
@[simp] theorem State.setCircuit_watchTimer (i : CircuitId) (c : Circuit) : (s.setCircuit i c).watchTimer = s.watchTimer := rfl
@[simp] theorem State.setCircuit_faults (i : CircuitId) (c : Circuit) : (s.setCircuit i c).faults = s.faults := rfl
@[simp] theorem State.setCircuit_noticeNumber (i : CircuitId) (c : Circuit) : (s.setCircuit i c).noticeNumber = s.noticeNumber := rfl

/-! ### modLink -/

@[simp] theorem State.modLink_pending (l : LinkId) (f : Link → Link) : (s.modLink l f).pending = s.pending := rfl
@[simp] theorem State.modLink_resetHeld (l : LinkId) (f : Link → Link) : (s.modLink l f).resetHeld = s.resetHeld := rfl
@[simp] theorem State.modLink_ms (l : LinkId) (f : Link → Link) : (s.modLink l f).ms = s.ms := rfl
@[simp] theorem State.modLink_tickRun (l : LinkId) (f : Link → Link) : (s.modLink l f).tickRun = s.tickRun := rfl
@[simp] theorem State.modLink_clock (l : LinkId) (f : Link → Link) : (s.modLink l f).clock = s.clock := rfl
@[simp] theorem State.modLink_ownCode (l : LinkId) (f : Link → Link) : (s.modLink l f).ownCode = s.ownCode := rfl
@[simp] theorem State.modLink_store (l : LinkId) (f : Link → Link) : (s.modLink l f).store = s.store := rfl
@[simp] theorem State.modLink_routes (l : LinkId) (f : Link → Link) : (s.modLink l f).routes = s.routes := rfl
@[simp] theorem State.modLink_stories (l : LinkId) (f : Link → Link) : (s.modLink l f).stories = s.stories := rfl
@[simp] theorem State.modLink_subst (l : LinkId) (f : Link → Link) : (s.modLink l f).subst = s.subst := rfl
@[simp] theorem State.modLink_circuits (l : LinkId) (f : Link → Link) : (s.modLink l f).circuits = s.circuits := rfl
@[simp] theorem State.modLink_requests (l : LinkId) (f : Link → Link) : (s.modLink l f).requests = s.requests := rfl
@[simp] theorem State.modLink_retryTimer (l : LinkId) (f : Link → Link) : (s.modLink l f).retryTimer = s.retryTimer := rfl
@[simp] theorem State.modLink_settings (l : LinkId) (f : Link → Link) : (s.modLink l f).settings = s.settings := rfl
@[simp] theorem State.modLink_requestsDone (l : LinkId) (f : Link → Link) : (s.modLink l f).requestsDone = s.requestsDone := rfl
@[simp] theorem State.modLink_requestsTimedOut (l : LinkId) (f : Link → Link) : (s.modLink l f).requestsTimedOut = s.requestsTimedOut := rfl
@[simp] theorem State.modLink_watch (l : LinkId) (f : Link → Link) : (s.modLink l f).watch = s.watch := rfl
@[simp] theorem State.modLink_watchTimer (l : LinkId) (f : Link → Link) : (s.modLink l f).watchTimer = s.watchTimer := rfl
@[simp] theorem State.modLink_faults (l : LinkId) (f : Link → Link) : (s.modLink l f).faults = s.faults := rfl
@[simp] theorem State.modLink_noticeNumber (l : LinkId) (f : Link → Link) : (s.modLink l f).noticeNumber = s.noticeNumber := rfl

/-! ### modCircuit -/

@[simp] theorem State.modCircuit_pending (i : CircuitId) (f : Circuit → Circuit) : (s.modCircuit i f).pending = s.pending := rfl
@[simp] theorem State.modCircuit_resetHeld (i : CircuitId) (f : Circuit → Circuit) : (s.modCircuit i f).resetHeld = s.resetHeld := rfl
@[simp] theorem State.modCircuit_ms (i : CircuitId) (f : Circuit → Circuit) : (s.modCircuit i f).ms = s.ms := rfl
@[simp] theorem State.modCircuit_tickRun (i : CircuitId) (f : Circuit → Circuit) : (s.modCircuit i f).tickRun = s.tickRun := rfl
@[simp] theorem State.modCircuit_clock (i : CircuitId) (f : Circuit → Circuit) : (s.modCircuit i f).clock = s.clock := rfl
@[simp] theorem State.modCircuit_ownCode (i : CircuitId) (f : Circuit → Circuit) : (s.modCircuit i f).ownCode = s.ownCode := rfl
@[simp] theorem State.modCircuit_links (i : CircuitId) (f : Circuit → Circuit) : (s.modCircuit i f).links = s.links := rfl
@[simp] theorem State.modCircuit_store (i : CircuitId) (f : Circuit → Circuit) : (s.modCircuit i f).store = s.store := rfl
@[simp] theorem State.modCircuit_routes (i : CircuitId) (f : Circuit → Circuit) : (s.modCircuit i f).routes = s.routes := rfl
@[simp] theorem State.modCircuit_stories (i : CircuitId) (f : Circuit → Circuit) : (s.modCircuit i f).stories = s.stories := rfl
@[simp] theorem State.modCircuit_subst (i : CircuitId) (f : Circuit → Circuit) : (s.modCircuit i f).subst = s.subst := rfl
@[simp] theorem State.modCircuit_requests (i : CircuitId) (f : Circuit → Circuit) : (s.modCircuit i f).requests = s.requests := rfl
@[simp] theorem State.modCircuit_retryTimer (i : CircuitId) (f : Circuit → Circuit) : (s.modCircuit i f).retryTimer = s.retryTimer := rfl
@[simp] theorem State.modCircuit_settings (i : CircuitId) (f : Circuit → Circuit) : (s.modCircuit i f).settings = s.settings := rfl
@[simp] theorem State.modCircuit_requestsDone (i : CircuitId) (f : Circuit → Circuit) : (s.modCircuit i f).requestsDone = s.requestsDone := rfl
@[simp] theorem State.modCircuit_requestsTimedOut (i : CircuitId) (f : Circuit → Circuit) : (s.modCircuit i f).requestsTimedOut = s.requestsTimedOut := rfl
@[simp] theorem State.modCircuit_watch (i : CircuitId) (f : Circuit → Circuit) : (s.modCircuit i f).watch = s.watch := rfl
@[simp] theorem State.modCircuit_watchTimer (i : CircuitId) (f : Circuit → Circuit) : (s.modCircuit i f).watchTimer = s.watchTimer := rfl
@[simp] theorem State.modCircuit_faults (i : CircuitId) (f : Circuit → Circuit) : (s.modCircuit i f).faults = s.faults := rfl
@[simp] theorem State.modCircuit_noticeNumber (i : CircuitId) (f : Circuit → Circuit) : (s.modCircuit i f).noticeNumber = s.noticeNumber := rfl

/-! ### modStore -/

@[simp] theorem State.modStore_pending (f : Store → Store) : (s.modStore f).pending = s.pending := rfl
@[simp] theorem State.modStore_resetHeld (f : Store → Store) : (s.modStore f).resetHeld = s.resetHeld := rfl
@[simp] theorem State.modStore_ms (f : Store → Store) : (s.modStore f).ms = s.ms := rfl
@[simp] theorem State.modStore_tickRun (f : Store → Store) : (s.modStore f).tickRun = s.tickRun := rfl
@[simp] theorem State.modStore_clock (f : Store → Store) : (s.modStore f).clock = s.clock := rfl
@[simp] theorem State.modStore_ownCode (f : Store → Store) : (s.modStore f).ownCode = s.ownCode := rfl
@[simp] theorem State.modStore_links (f : Store → Store) : (s.modStore f).links = s.links := rfl
@[simp] theorem State.modStore_routes (f : Store → Store) : (s.modStore f).routes = s.routes := rfl
@[simp] theorem State.modStore_stories (f : Store → Store) : (s.modStore f).stories = s.stories := rfl
@[simp] theorem State.modStore_subst (f : Store → Store) : (s.modStore f).subst = s.subst := rfl
@[simp] theorem State.modStore_circuits (f : Store → Store) : (s.modStore f).circuits = s.circuits := rfl
@[simp] theorem State.modStore_requests (f : Store → Store) : (s.modStore f).requests = s.requests := rfl
@[simp] theorem State.modStore_retryTimer (f : Store → Store) : (s.modStore f).retryTimer = s.retryTimer := rfl
@[simp] theorem State.modStore_settings (f : Store → Store) : (s.modStore f).settings = s.settings := rfl
@[simp] theorem State.modStore_requestsDone (f : Store → Store) : (s.modStore f).requestsDone = s.requestsDone := rfl
@[simp] theorem State.modStore_requestsTimedOut (f : Store → Store) : (s.modStore f).requestsTimedOut = s.requestsTimedOut := rfl
@[simp] theorem State.modStore_watch (f : Store → Store) : (s.modStore f).watch = s.watch := rfl
@[simp] theorem State.modStore_watchTimer (f : Store → Store) : (s.modStore f).watchTimer = s.watchTimer := rfl
@[simp] theorem State.modStore_faults (f : Store → Store) : (s.modStore f).faults = s.faults := rfl
@[simp] theorem State.modStore_noticeNumber (f : Store → Store) : (s.modStore f).noticeNumber = s.noticeNumber := rfl

/-! ### modStory -/

@[simp] theorem State.modStory_pending (k : StoryKey) (f : Story → Story) : (s.modStory k f).pending = s.pending := rfl
@[simp] theorem State.modStory_resetHeld (k : StoryKey) (f : Story → Story) : (s.modStory k f).resetHeld = s.resetHeld := rfl
@[simp] theorem State.modStory_ms (k : StoryKey) (f : Story → Story) : (s.modStory k f).ms = s.ms := rfl
@[simp] theorem State.modStory_tickRun (k : StoryKey) (f : Story → Story) : (s.modStory k f).tickRun = s.tickRun := rfl
@[simp] theorem State.modStory_clock (k : StoryKey) (f : Story → Story) : (s.modStory k f).clock = s.clock := rfl
@[simp] theorem State.modStory_ownCode (k : StoryKey) (f : Story → Story) : (s.modStory k f).ownCode = s.ownCode := rfl
@[simp] theorem State.modStory_links (k : StoryKey) (f : Story → Story) : (s.modStory k f).links = s.links := rfl
@[simp] theorem State.modStory_store (k : StoryKey) (f : Story → Story) : (s.modStory k f).store = s.store := rfl
@[simp] theorem State.modStory_routes (k : StoryKey) (f : Story → Story) : (s.modStory k f).routes = s.routes := rfl
@[simp] theorem State.modStory_subst (k : StoryKey) (f : Story → Story) : (s.modStory k f).subst = s.subst := rfl
@[simp] theorem State.modStory_circuits (k : StoryKey) (f : Story → Story) : (s.modStory k f).circuits = s.circuits := rfl
@[simp] theorem State.modStory_requests (k : StoryKey) (f : Story → Story) : (s.modStory k f).requests = s.requests := rfl
@[simp] theorem State.modStory_retryTimer (k : StoryKey) (f : Story → Story) : (s.modStory k f).retryTimer = s.retryTimer := rfl
@[simp] theorem State.modStory_settings (k : StoryKey) (f : Story → Story) : (s.modStory k f).settings = s.settings := rfl
@[simp] theorem State.modStory_requestsDone (k : StoryKey) (f : Story → Story) : (s.modStory k f).requestsDone = s.requestsDone := rfl
@[simp] theorem State.modStory_requestsTimedOut (k : StoryKey) (f : Story → Story) : (s.modStory k f).requestsTimedOut = s.requestsTimedOut := rfl
@[simp] theorem State.modStory_watch (k : StoryKey) (f : Story → Story) : (s.modStory k f).watch = s.watch := rfl
@[simp] theorem State.modStory_watchTimer (k : StoryKey) (f : Story → Story) : (s.modStory k f).watchTimer = s.watchTimer := rfl
@[simp] theorem State.modStory_faults (k : StoryKey) (f : Story → Story) : (s.modStory k f).faults = s.faults := rfl
@[simp] theorem State.modStory_noticeNumber (k : StoryKey) (f : Story → Story) : (s.modStory k f).noticeNumber = s.noticeNumber := rfl

/-! ### setFault -/

@[simp] theorem State.setFault_pending (src : Fin 26) (code : FaultCode) : (s.setFault src code).pending = s.pending := rfl
@[simp] theorem State.setFault_resetHeld (src : Fin 26) (code : FaultCode) : (s.setFault src code).resetHeld = s.resetHeld := rfl
@[simp] theorem State.setFault_ms (src : Fin 26) (code : FaultCode) : (s.setFault src code).ms = s.ms := rfl
@[simp] theorem State.setFault_tickRun (src : Fin 26) (code : FaultCode) : (s.setFault src code).tickRun = s.tickRun := rfl
@[simp] theorem State.setFault_clock (src : Fin 26) (code : FaultCode) : (s.setFault src code).clock = s.clock := rfl
@[simp] theorem State.setFault_ownCode (src : Fin 26) (code : FaultCode) : (s.setFault src code).ownCode = s.ownCode := rfl
@[simp] theorem State.setFault_links (src : Fin 26) (code : FaultCode) : (s.setFault src code).links = s.links := rfl
@[simp] theorem State.setFault_store (src : Fin 26) (code : FaultCode) : (s.setFault src code).store = s.store := rfl
@[simp] theorem State.setFault_routes (src : Fin 26) (code : FaultCode) : (s.setFault src code).routes = s.routes := rfl
@[simp] theorem State.setFault_stories (src : Fin 26) (code : FaultCode) : (s.setFault src code).stories = s.stories := rfl
@[simp] theorem State.setFault_subst (src : Fin 26) (code : FaultCode) : (s.setFault src code).subst = s.subst := rfl
@[simp] theorem State.setFault_circuits (src : Fin 26) (code : FaultCode) : (s.setFault src code).circuits = s.circuits := rfl
@[simp] theorem State.setFault_requests (src : Fin 26) (code : FaultCode) : (s.setFault src code).requests = s.requests := rfl
@[simp] theorem State.setFault_retryTimer (src : Fin 26) (code : FaultCode) : (s.setFault src code).retryTimer = s.retryTimer := rfl
@[simp] theorem State.setFault_settings (src : Fin 26) (code : FaultCode) : (s.setFault src code).settings = s.settings := rfl
@[simp] theorem State.setFault_requestsDone (src : Fin 26) (code : FaultCode) : (s.setFault src code).requestsDone = s.requestsDone := rfl
@[simp] theorem State.setFault_requestsTimedOut (src : Fin 26) (code : FaultCode) : (s.setFault src code).requestsTimedOut = s.requestsTimedOut := rfl
@[simp] theorem State.setFault_watch (src : Fin 26) (code : FaultCode) : (s.setFault src code).watch = s.watch := rfl
@[simp] theorem State.setFault_watchTimer (src : Fin 26) (code : FaultCode) : (s.setFault src code).watchTimer = s.watchTimer := rfl
@[simp] theorem State.setFault_noticeNumber (src : Fin 26) (code : FaultCode) : (s.setFault src code).noticeNumber = s.noticeNumber := rfl

/-! ### modSettings -/

@[simp] theorem State.modSettings_pending (f : Settings → Settings) : (s.modSettings f).pending = s.pending := rfl
@[simp] theorem State.modSettings_resetHeld (f : Settings → Settings) : (s.modSettings f).resetHeld = s.resetHeld := rfl
@[simp] theorem State.modSettings_ms (f : Settings → Settings) : (s.modSettings f).ms = s.ms := rfl
@[simp] theorem State.modSettings_tickRun (f : Settings → Settings) : (s.modSettings f).tickRun = s.tickRun := rfl
@[simp] theorem State.modSettings_clock (f : Settings → Settings) : (s.modSettings f).clock = s.clock := rfl
@[simp] theorem State.modSettings_ownCode (f : Settings → Settings) : (s.modSettings f).ownCode = s.ownCode := rfl
@[simp] theorem State.modSettings_links (f : Settings → Settings) : (s.modSettings f).links = s.links := rfl
@[simp] theorem State.modSettings_store (f : Settings → Settings) : (s.modSettings f).store = s.store := rfl
@[simp] theorem State.modSettings_routes (f : Settings → Settings) : (s.modSettings f).routes = s.routes := rfl
@[simp] theorem State.modSettings_stories (f : Settings → Settings) : (s.modSettings f).stories = s.stories := rfl
@[simp] theorem State.modSettings_subst (f : Settings → Settings) : (s.modSettings f).subst = s.subst := rfl
@[simp] theorem State.modSettings_circuits (f : Settings → Settings) : (s.modSettings f).circuits = s.circuits := rfl
@[simp] theorem State.modSettings_requests (f : Settings → Settings) : (s.modSettings f).requests = s.requests := rfl
@[simp] theorem State.modSettings_retryTimer (f : Settings → Settings) : (s.modSettings f).retryTimer = s.retryTimer := rfl
@[simp] theorem State.modSettings_requestsDone (f : Settings → Settings) : (s.modSettings f).requestsDone = s.requestsDone := rfl
@[simp] theorem State.modSettings_requestsTimedOut (f : Settings → Settings) : (s.modSettings f).requestsTimedOut = s.requestsTimedOut := rfl
@[simp] theorem State.modSettings_watch (f : Settings → Settings) : (s.modSettings f).watch = s.watch := rfl
@[simp] theorem State.modSettings_watchTimer (f : Settings → Settings) : (s.modSettings f).watchTimer = s.watchTimer := rfl
@[simp] theorem State.modSettings_faults (f : Settings → Settings) : (s.modSettings f).faults = s.faults := rfl
@[simp] theorem State.modSettings_noticeNumber (f : Settings → Settings) : (s.modSettings f).noticeNumber = s.noticeNumber := rfl

/-! ### putTake -/

@[simp] theorem State.putTake_pending (h : Nat) (t : Take) : (s.putTake h t).pending = s.pending := rfl
@[simp] theorem State.putTake_resetHeld (h : Nat) (t : Take) : (s.putTake h t).resetHeld = s.resetHeld := rfl
@[simp] theorem State.putTake_ms (h : Nat) (t : Take) : (s.putTake h t).ms = s.ms := rfl
@[simp] theorem State.putTake_tickRun (h : Nat) (t : Take) : (s.putTake h t).tickRun = s.tickRun := rfl
@[simp] theorem State.putTake_clock (h : Nat) (t : Take) : (s.putTake h t).clock = s.clock := rfl
@[simp] theorem State.putTake_ownCode (h : Nat) (t : Take) : (s.putTake h t).ownCode = s.ownCode := rfl
@[simp] theorem State.putTake_links (h : Nat) (t : Take) : (s.putTake h t).links = s.links := rfl
@[simp] theorem State.putTake_routes (h : Nat) (t : Take) : (s.putTake h t).routes = s.routes := rfl
@[simp] theorem State.putTake_stories (h : Nat) (t : Take) : (s.putTake h t).stories = s.stories := rfl
@[simp] theorem State.putTake_subst (h : Nat) (t : Take) : (s.putTake h t).subst = s.subst := rfl
@[simp] theorem State.putTake_circuits (h : Nat) (t : Take) : (s.putTake h t).circuits = s.circuits := rfl
@[simp] theorem State.putTake_requests (h : Nat) (t : Take) : (s.putTake h t).requests = s.requests := rfl
@[simp] theorem State.putTake_retryTimer (h : Nat) (t : Take) : (s.putTake h t).retryTimer = s.retryTimer := rfl
@[simp] theorem State.putTake_settings (h : Nat) (t : Take) : (s.putTake h t).settings = s.settings := rfl
@[simp] theorem State.putTake_requestsDone (h : Nat) (t : Take) : (s.putTake h t).requestsDone = s.requestsDone := rfl
@[simp] theorem State.putTake_requestsTimedOut (h : Nat) (t : Take) : (s.putTake h t).requestsTimedOut = s.requestsTimedOut := rfl
@[simp] theorem State.putTake_watch (h : Nat) (t : Take) : (s.putTake h t).watch = s.watch := rfl
@[simp] theorem State.putTake_watchTimer (h : Nat) (t : Take) : (s.putTake h t).watchTimer = s.watchTimer := rfl
@[simp] theorem State.putTake_faults (h : Nat) (t : Take) : (s.putTake h t).faults = s.faults := rfl
@[simp] theorem State.putTake_noticeNumber (h : Nat) (t : Take) : (s.putTake h t).noticeNumber = s.noticeNumber := rfl

/-! ### withHead -/

@[simp] theorem State.withHead_pending (r : Request) : (s.withHead r).pending = s.pending := rfl
@[simp] theorem State.withHead_resetHeld (r : Request) : (s.withHead r).resetHeld = s.resetHeld := rfl
@[simp] theorem State.withHead_ms (r : Request) : (s.withHead r).ms = s.ms := rfl
@[simp] theorem State.withHead_tickRun (r : Request) : (s.withHead r).tickRun = s.tickRun := rfl
@[simp] theorem State.withHead_clock (r : Request) : (s.withHead r).clock = s.clock := rfl
@[simp] theorem State.withHead_ownCode (r : Request) : (s.withHead r).ownCode = s.ownCode := rfl
@[simp] theorem State.withHead_links (r : Request) : (s.withHead r).links = s.links := rfl
@[simp] theorem State.withHead_store (r : Request) : (s.withHead r).store = s.store := rfl
@[simp] theorem State.withHead_routes (r : Request) : (s.withHead r).routes = s.routes := rfl
@[simp] theorem State.withHead_stories (r : Request) : (s.withHead r).stories = s.stories := rfl
@[simp] theorem State.withHead_subst (r : Request) : (s.withHead r).subst = s.subst := rfl
@[simp] theorem State.withHead_circuits (r : Request) : (s.withHead r).circuits = s.circuits := rfl
@[simp] theorem State.withHead_retryTimer (r : Request) : (s.withHead r).retryTimer = s.retryTimer := rfl
@[simp] theorem State.withHead_settings (r : Request) : (s.withHead r).settings = s.settings := rfl
@[simp] theorem State.withHead_requestsDone (r : Request) : (s.withHead r).requestsDone = s.requestsDone := rfl
@[simp] theorem State.withHead_requestsTimedOut (r : Request) : (s.withHead r).requestsTimedOut = s.requestsTimedOut := rfl
@[simp] theorem State.withHead_watch (r : Request) : (s.withHead r).watch = s.watch := rfl
@[simp] theorem State.withHead_watchTimer (r : Request) : (s.withHead r).watchTimer = s.watchTimer := rfl
@[simp] theorem State.withHead_faults (r : Request) : (s.withHead r).faults = s.faults := rfl
@[simp] theorem State.withHead_noticeNumber (r : Request) : (s.withHead r).noticeNumber = s.noticeNumber := rfl

/-! ### The part an update changes -/

@[simp] theorem State.setLink_link_self (l : LinkId) (k : Link) : (s.setLink l k).link l = k := by
  simp [State.setLink, State.link]

theorem State.setLink_link_ne {l m : LinkId} (h : m ≠ l) (k : Link) : (s.setLink l k).link m = s.link m := by
  have : l.val ≠ m.val := fun e => h (Fin.ext e.symm)
  simp [State.setLink, State.link, this]

theorem State.setLink_link (l m : LinkId) (k : Link) : (s.setLink l k).link m = if m = l then k else s.link m := by
  by_cases h : m = l
  · subst h; simp
  · simp [h, State.setLink_link_ne s h]

@[simp] theorem State.setCircuit_circuit_self (i : CircuitId) (c : Circuit) : (s.setCircuit i c).circuit i = c := by
  simp [State.setCircuit, State.circuit]

theorem State.setCircuit_circuit_ne {i j : CircuitId} (h : j ≠ i) (c : Circuit) :
    (s.setCircuit i c).circuit j = s.circuit j := by
  have : i.val ≠ j.val := fun e => h (Fin.ext e.symm)
  simp [State.setCircuit, State.circuit, this]

theorem State.setCircuit_circuit (i j : CircuitId) (c : Circuit) :
    (s.setCircuit i c).circuit j = if j = i then c else s.circuit j := by
  by_cases h : j = i
  · subst h; simp
  · simp [h, State.setCircuit_circuit_ne s h]

@[simp] theorem State.modLink_link_self (l : LinkId) (f : Link → Link) : (s.modLink l f).link l = f (s.link l) := by
  simp [State.modLink]

theorem State.modLink_link (l m : LinkId) (f : Link → Link) :
    (s.modLink l f).link m = if m = l then f (s.link m) else s.link m := by
  by_cases h : m = l
  · subst h; simp
  · simp [State.modLink, h, State.setLink_link_ne s h]

@[simp] theorem State.modCircuit_circuit_self (i : CircuitId) (f : Circuit → Circuit) :
    (s.modCircuit i f).circuit i = f (s.circuit i) := by simp [State.modCircuit]

theorem State.modCircuit_circuit (i j : CircuitId) (f : Circuit → Circuit) :
    (s.modCircuit i f).circuit j = if j = i then f (s.circuit j) else s.circuit j := by
  by_cases h : j = i
  · subst h; simp
  · simp [State.modCircuit, h, State.setCircuit_circuit_ne s h]

@[simp] theorem State.modLink_circuit (l : LinkId) (f : Link → Link) (i : CircuitId) :
    (s.modLink l f).circuit i = s.circuit i := rfl
@[simp] theorem State.setLink_circuit (l : LinkId) (k : Link) (i : CircuitId) :
    (s.setLink l k).circuit i = s.circuit i := rfl
@[simp] theorem State.modCircuit_link (i : CircuitId) (f : Circuit → Circuit) (l : LinkId) :
    (s.modCircuit i f).link l = s.link l := rfl
@[simp] theorem State.setCircuit_link (i : CircuitId) (c : Circuit) (l : LinkId) :
    (s.setCircuit i c).link l = s.link l := rfl
@[simp] theorem State.modStore_link (f : Store → Store) (l : LinkId) : (s.modStore f).link l = s.link l := rfl
@[simp] theorem State.modStore_circuit (f : Store → Store) (i : CircuitId) : (s.modStore f).circuit i = s.circuit i := rfl
@[simp] theorem State.modStore_store (f : Store → Store) : (s.modStore f).store = f s.store := rfl
@[simp] theorem State.modStory_link (k : StoryKey) (f : Story → Story) (l : LinkId) :
    (s.modStory k f).link l = s.link l := rfl
@[simp] theorem State.modStory_circuit (k : StoryKey) (f : Story → Story) (i : CircuitId) :
    (s.modStory k f).circuit i = s.circuit i := rfl
@[simp] theorem State.setFault_link (src : Fin 26) (code : FaultCode) (l : LinkId) :
    (s.setFault src code).link l = s.link l := rfl
@[simp] theorem State.setFault_circuit (src : Fin 26) (code : FaultCode) (i : CircuitId) :
    (s.setFault src code).circuit i = s.circuit i := rfl
@[simp] theorem State.putTake_link (h : Nat) (t : Take) (l : LinkId) : (s.putTake h t).link l = s.link l := rfl
@[simp] theorem State.putTake_circuit (h : Nat) (t : Take) (i : CircuitId) :
    (s.putTake h t).circuit i = s.circuit i := rfl
@[simp] theorem State.withHead_link (r : Request) (l : LinkId) : (s.withHead r).link l = s.link l := rfl
@[simp] theorem State.withHead_circuit (r : Request) (i : CircuitId) : (s.withHead r).circuit i = s.circuit i := rfl
@[simp] theorem State.withHead_requests (r : Request) : (s.withHead r).requests = [r] := rfl

/-! ### Two updates of one part, an update by what stands there, and updates under a waiting head -/

@[simp] theorem State.setLink_setLink (l : LinkId) (k m : Link) : (s.setLink l k).setLink l m = s.setLink l m := by
  simp [State.setLink]
@[simp] theorem State.setCircuit_setCircuit (i : CircuitId) (c d : Circuit) :
    (s.setCircuit i c).setCircuit i d = s.setCircuit i d := by simp [State.setCircuit]
@[simp] theorem State.setLink_self (l : LinkId) : s.setLink l (s.link l) = s := by simp [State.setLink, State.link]
@[simp] theorem State.setCircuit_self (i : CircuitId) : s.setCircuit i (s.circuit i) = s := by
  simp [State.setCircuit, State.circuit]
@[simp] theorem State.withHead_setLink (r : Request) (l : LinkId) (k : Link) :
    (s.withHead r).setLink l k = (s.setLink l k).withHead r := rfl
@[simp] theorem State.withHead_setCircuit (r : Request) (i : CircuitId) (c : Circuit) :
    (s.withHead r).setCircuit i c = (s.setCircuit i c).withHead r := rfl
@[simp] theorem State.withHead_modLink (r : Request) (l : LinkId) (f : Link → Link) :
    (s.withHead r).modLink l f = (s.modLink l f).withHead r := rfl
@[simp] theorem State.withHead_modCircuit (r : Request) (i : CircuitId) (f : Circuit → Circuit) :
    (s.withHead r).modCircuit i f = (s.modCircuit i f).withHead r := rfl
@[simp] theorem State.withHead_modStore (r : Request) (f : Store → Store) :
    (s.withHead r).modStore f = (s.modStore f).withHead r := rfl

theorem State.setFault_get (src t : Fin 26) (code : FaultCode) :
    (s.setFault src code).faults[t] = if t = src then some code else s.faults[t] := by
  by_cases h : t = src
  · subst h; simp [State.setFault]
  · have : src.val ≠ t.val := fun e => h (Fin.ext e.symm)
    simp [State.setFault, h, this]

end Sys2Proof.Machine
end

