-- ==== Sys2Proof/Laws/Store.lean ====
section
/-! SUPPORT. The take directory: every operation keeps the canonical form, and a record read after a write is the one
written. -/

namespace Sys2Proof.Machine

open Sys2Proof

/-! ### Reading after writing -/

@[simp] theorem Takes.get_put_self (ts : List (Nat × Take)) (h : Nat) (t : Take) :
    Takes.get (Takes.put ts h t) h = some t := by
  induction ts with
  | nil => simp [Takes.put, Takes.get]
  | cons e rest ih =>
    obtain ⟨k, u⟩ := e
    simp only [Takes.put]
    split
    · simp [Takes.get]
    · split
      · simp [Takes.get]
      · rename_i _ hne
        simp [Takes.get, ih, Ne.symm hne]

theorem Takes.get_put_other (ts : List (Nat × Take)) {h g : Nat} (t : Take) (hg : g ≠ h) :
    Takes.get (Takes.put ts h t) g = Takes.get ts g := by
  induction ts with
  | nil => simp [Takes.put, Takes.get, Ne.symm hg]
  | cons e rest ih =>
    obtain ⟨k, u⟩ := e
    simp only [Takes.put]
    split
    · simp [Takes.get, Ne.symm hg]
    · split
      · rename_i _ he
        subst he
        simp [Takes.get, Ne.symm hg]
      · simp [Takes.get, ih]

@[simp] theorem Takes.get_erase_self (ts : List (Nat × Take)) (h : Nat) : Takes.get (Takes.erase ts h) h = none := by
  induction ts with
  | nil => rfl
  | cons e rest ih =>
    obtain ⟨k, u⟩ := e
    by_cases hk : k = h
    · subst hk; simpa [Takes.erase] using ih
    · simp only [Takes.erase] at ih ⊢
      simp [hk, Takes.get, ih]

theorem Takes.get_erase_other (ts : List (Nat × Take)) {h g : Nat} (hg : g ≠ h) :
    Takes.get (Takes.erase ts h) g = Takes.get ts g := by
  induction ts with
  | nil => rfl
  | cons e rest ih =>
    obtain ⟨k, u⟩ := e
    simp only [Takes.erase] at ih ⊢
    by_cases hk : k = h
    · subst hk; simp [Takes.get, Ne.symm hg, ih]
    · simp [hk, Takes.get, ih]

/-! ### The canonical form -/

theorem Takes.mem_put {ts : List (Nat × Take)} {h : Nat} {t : Take} {e : Nat × Take} (he : e ∈ Takes.put ts h t) :
    e = (h, t) ∨ e ∈ ts := by
  induction ts with
  | nil => simpa [Takes.put] using he
  | cons d rest ih =>
    obtain ⟨k, u⟩ := d
    simp only [Takes.put] at he
    split at he
    · simpa using he
    · split at he
      · rcases List.mem_cons.1 he with rfl | hm
        · exact .inl rfl
        · exact .inr (List.mem_cons_of_mem _ hm)
      · rcases List.mem_cons.1 he with rfl | hm
        · exact .inr List.mem_cons_self
        · exact (ih hm).imp id (List.mem_cons_of_mem _)

theorem Takes.sorted_put {ts : List (Nat × Take)} (h : Nat) (t : Take)
    (hs : ts.Pairwise fun a b => a.1 < b.1) : (Takes.put ts h t).Pairwise fun a b => a.1 < b.1 := by
  induction ts with
  | nil => simp [Takes.put]
  | cons d rest ih =>
    obtain ⟨k, u⟩ := d
    obtain ⟨hk, hr⟩ := List.pairwise_cons.1 hs
    simp only [Takes.put]
    split
    · rename_i hlt
      refine List.pairwise_cons.2 ⟨fun e he => ?_, hs⟩
      rcases List.mem_cons.1 he with rfl | hm
      · exact hlt
      · exact hlt.trans (hk e hm)
    · split
      · rename_i _ heq
        subst heq
        exact List.pairwise_cons.2 ⟨hk, hr⟩
      · rename_i hn hne
        refine List.pairwise_cons.2 ⟨fun e he => ?_, ih hr⟩
        rcases Takes.mem_put he with rfl | hm
        · simp only at *; omega
        · exact hk e hm

/-- Setting a record of a handle below 512 keeps the canonical form. -/
theorem Takes.wf_put {ts : List (Nat × Take)} {h : Nat} (t : Take) (hw : Takes.wf ts = true)
    (hh : h < Config.takeRecords) : Takes.wf (Takes.put ts h t) = true := by
  simp only [Takes.wf, Bool.and_eq_true, decide_eq_true_eq, List.all_eq_true] at hw ⊢
  refine ⟨Takes.sorted_put h t hw.1, fun e he => ?_⟩
  rcases Takes.mem_put he with rfl | hm
  · exact hh
  · exact hw.2 e hm

/-- Freeing a record keeps the canonical form. -/
theorem Takes.wf_erase {ts : List (Nat × Take)} (h : Nat) (hw : Takes.wf ts = true) :
    Takes.wf (Takes.erase ts h) = true := by
  simp only [Takes.wf, Bool.and_eq_true, decide_eq_true_eq, List.all_eq_true] at hw ⊢
  exact ⟨hw.1.filter _, fun e he => hw.2 e (List.mem_filter.1 he).1⟩

theorem Takes.wf_reset : Takes.wf State.reset.store.takes = true := by decide

/-- The lowest free handle lies at or above where the search begins. -/
theorem Takes.le_lowestFree (ts : List (Nat × Take)) (n : Nat) : n ≤ Takes.lowestFree ts n := by
  induction ts generalizing n with
  | nil => simp [Takes.lowestFree]
  | cons e rest ih =>
    obtain ⟨k, u⟩ := e
    simp only [Takes.lowestFree]
    split
    · exact (Nat.le_succ n).trans (ih (n + 1))
    · exact Nat.le_refl n

theorem Takes.get_none_of_lt {ts : List (Nat × Take)} {h : Nat} (hb : ∀ e ∈ ts, h < e.1) : Takes.get ts h = none := by
  induction ts with
  | nil => rfl
  | cons e rest ih =>
    obtain ⟨k, u⟩ := e
    have hk : h < k := hb (k, u) List.mem_cons_self
    simp [Takes.get, Nat.ne_of_gt hk, ih fun e he => hb e (List.mem_cons_of_mem _ he)]

/-- The lowest free handle of a directory in canonical form names a FREE record (R32). -/
theorem Takes.get_lowestFree {ts : List (Nat × Take)} (n : Nat) (hs : ts.Pairwise fun a b => a.1 < b.1)
    (hb : ∀ e ∈ ts, n ≤ e.1) : Takes.get ts (Takes.lowestFree ts n) = none := by
  induction ts generalizing n with
  | nil => rfl
  | cons e rest ih =>
    obtain ⟨k, u⟩ := e
    obtain ⟨hk, hr⟩ := List.pairwise_cons.1 hs
    simp only [Takes.lowestFree]
    split
    · rename_i heq
      subst heq
      have hle := Takes.le_lowestFree rest (k + 1)
      have hne : k ≠ Takes.lowestFree rest (k + 1) := by omega
      simp only [Takes.get, hne, if_false]
      exact ih (k + 1) hr fun e he => hk e he
    · rename_i hne
      have hn : n ≤ k := hb (k, u) List.mem_cons_self
      refine Takes.get_none_of_lt fun e he => ?_
      rcases List.mem_cons.1 he with rfl | hm
      · simp only; omega
      · have := hk e hm; simp only at this; omega

/-! ### Records of a state -/

@[simp] theorem State.take?_putTake_self (s : State) (h : Nat) (t : Take) : (s.putTake h t).take? h = some t := by
  simp [State.take?, State.putTake]

theorem State.take?_putTake_other (s : State) {h g : Nat} (t : Take) (hg : g ≠ h) :
    (s.putTake h t).take? g = s.take? g := by
  simp [State.take?, State.putTake, Takes.get_put_other _ t hg]

@[simp] theorem State.take?_modLink (s : State) (l : LinkId) (f : Link → Link) (h : Nat) :
    (s.modLink l f).take? h = s.take? h := rfl

@[simp] theorem State.take?_modCircuit (s : State) (i : CircuitId) (f : Circuit → Circuit) (h : Nat) :
    (s.modCircuit i f).take? h = s.take? h := rfl

@[simp] theorem State.take?_modStory (s : State) (k : StoryKey) (f : Story → Story) (h : Nat) :
    (s.modStory k f).take? h = s.take? h := rfl

@[simp] theorem State.take?_setFault (s : State) (src : Fin 26) (code : FaultCode) (h : Nat) :
    (s.setFault src code).take? h = s.take? h := rfl

/-- Everything `modTake` can do: a listed record is changed, an unlisted one changes nothing. -/
theorem State.modTake_cases (s : State) (h : Nat) (f : Take → Take) :
    (∃ t, s.take? h = some t ∧ s.modTake h f = s.putTake h (f t)) ∨ (s.take? h = none ∧ s.modTake h f = s) := by
  unfold State.modTake
  cases s.take? h with
  | some t => exact .inl ⟨t, rfl, rfl⟩
  | none => exact .inr ⟨rfl, rfl⟩

end Sys2Proof.Machine
end

