-- ==== Sys2Proof/Laws/Shared.lean ====
section
/-! SUPPORT. One lemma for each shared operation that says everything it can do, and the fields that queueing a frame
and answering a request leave alone. -/

namespace Sys2Proof.Machine

open Sys2Proof

/-! ### Frames on reply queues (R159, R180) -/

/-- Everything `queueFrame` can do: the frame joins the reply queue, or REPLY OVERFLOW is recorded. -/
theorem State.queueFrame_cases (s : State) (l : LinkId) (frame : List Byte) :
    ((s.link l).replies.length < Config.replyQueue ∧ s.queueFrame l frame = s.modLink l (·.pushFrame frame)) ∨
      (Config.replyQueue ≤ (s.link l).replies.length ∧
        s.queueFrame l frame = s.setFault serviceSource .replyOverflow) := by
  unfold State.queueFrame
  split
  · exact .inr ⟨‹_›, rfl⟩
  · exact .inl ⟨Nat.lt_of_not_le ‹_›, rfl⟩

@[simp] theorem State.queueFrame_pending (s : State) (l : LinkId) (frame : List Byte) :
    (s.queueFrame l frame).pending = s.pending := by unfold State.queueFrame; split <;> rfl
@[simp] theorem State.queueFrame_resetHeld (s : State) (l : LinkId) (frame : List Byte) :
    (s.queueFrame l frame).resetHeld = s.resetHeld := by unfold State.queueFrame; split <;> rfl
@[simp] theorem State.queueFrame_ms (s : State) (l : LinkId) (frame : List Byte) :
    (s.queueFrame l frame).ms = s.ms := by unfold State.queueFrame; split <;> rfl
@[simp] theorem State.queueFrame_tickRun (s : State) (l : LinkId) (frame : List Byte) :
    (s.queueFrame l frame).tickRun = s.tickRun := by unfold State.queueFrame; split <;> rfl
@[simp] theorem State.queueFrame_clock (s : State) (l : LinkId) (frame : List Byte) :
    (s.queueFrame l frame).clock = s.clock := by unfold State.queueFrame; split <;> rfl
@[simp] theorem State.queueFrame_ownCode (s : State) (l : LinkId) (frame : List Byte) :
    (s.queueFrame l frame).ownCode = s.ownCode := by unfold State.queueFrame; split <;> rfl
@[simp] theorem State.queueFrame_store (s : State) (l : LinkId) (frame : List Byte) :
    (s.queueFrame l frame).store = s.store := by unfold State.queueFrame; split <;> rfl
@[simp] theorem State.queueFrame_routes (s : State) (l : LinkId) (frame : List Byte) :
    (s.queueFrame l frame).routes = s.routes := by unfold State.queueFrame; split <;> rfl
@[simp] theorem State.queueFrame_stories (s : State) (l : LinkId) (frame : List Byte) :
    (s.queueFrame l frame).stories = s.stories := by unfold State.queueFrame; split <;> rfl
@[simp] theorem State.queueFrame_subst (s : State) (l : LinkId) (frame : List Byte) :
    (s.queueFrame l frame).subst = s.subst := by unfold State.queueFrame; split <;> rfl
@[simp] theorem State.queueFrame_circuits (s : State) (l : LinkId) (frame : List Byte) :
    (s.queueFrame l frame).circuits = s.circuits := by unfold State.queueFrame; split <;> rfl
@[simp] theorem State.queueFrame_requests (s : State) (l : LinkId) (frame : List Byte) :
    (s.queueFrame l frame).requests = s.requests := by unfold State.queueFrame; split <;> rfl
@[simp] theorem State.queueFrame_retryTimer (s : State) (l : LinkId) (frame : List Byte) :
    (s.queueFrame l frame).retryTimer = s.retryTimer := by unfold State.queueFrame; split <;> rfl
@[simp] theorem State.queueFrame_settings (s : State) (l : LinkId) (frame : List Byte) :
    (s.queueFrame l frame).settings = s.settings := by unfold State.queueFrame; split <;> rfl
@[simp] theorem State.queueFrame_requestsDone (s : State) (l : LinkId) (frame : List Byte) :
    (s.queueFrame l frame).requestsDone = s.requestsDone := by unfold State.queueFrame; split <;> rfl
@[simp] theorem State.queueFrame_requestsTimedOut (s : State) (l : LinkId) (frame : List Byte) :
    (s.queueFrame l frame).requestsTimedOut = s.requestsTimedOut := by unfold State.queueFrame; split <;> rfl
@[simp] theorem State.queueFrame_watch (s : State) (l : LinkId) (frame : List Byte) :
    (s.queueFrame l frame).watch = s.watch := by unfold State.queueFrame; split <;> rfl
@[simp] theorem State.queueFrame_watchTimer (s : State) (l : LinkId) (frame : List Byte) :
    (s.queueFrame l frame).watchTimer = s.watchTimer := by unfold State.queueFrame; split <;> rfl
@[simp] theorem State.queueFrame_noticeNumber (s : State) (l : LinkId) (frame : List Byte) :
    (s.queueFrame l frame).noticeNumber = s.noticeNumber := by unfold State.queueFrame; split <;> rfl

/-- Of a link, queueing a frame changes the reply queue and the rate of the frame in transmission alone. -/
theorem State.queueFrame_link (s : State) (l m : LinkId) (frame : List Byte) :
    ∃ rs rate, (s.queueFrame l frame).link m = { s.link m with replies := rs, sendRate := rate } := by
  rcases s.queueFrame_cases l frame with ⟨_, he⟩ | ⟨_, he⟩ <;> rw [he]
  · by_cases hm : m = l
    · subst hm
      exact ⟨_, _, by simp [Link.pushFrame]; exact ⟨rfl, rfl⟩⟩
    · exact ⟨_, _, by rw [State.modLink_link, if_neg hm]⟩
  · exact ⟨_, _, rfl⟩

/-! ### Answering a request (R156, R158) -/

@[simp] theorem State.complete_pending (s : State) (r : Request) (x : Result) (b : Bool) (v : List Byte) :
    (s.complete r x b v).pending = s.pending := by simp [State.complete, State.reply, State.sendBody]
@[simp] theorem State.complete_resetHeld (s : State) (r : Request) (x : Result) (b : Bool) (v : List Byte) :
    (s.complete r x b v).resetHeld = s.resetHeld := by simp [State.complete, State.reply, State.sendBody]
@[simp] theorem State.complete_ms (s : State) (r : Request) (x : Result) (b : Bool) (v : List Byte) :
    (s.complete r x b v).ms = s.ms := by simp [State.complete, State.reply, State.sendBody]
@[simp] theorem State.complete_tickRun (s : State) (r : Request) (x : Result) (b : Bool) (v : List Byte) :
    (s.complete r x b v).tickRun = s.tickRun := by simp [State.complete, State.reply, State.sendBody]
@[simp] theorem State.complete_clock (s : State) (r : Request) (x : Result) (b : Bool) (v : List Byte) :
    (s.complete r x b v).clock = s.clock := by simp [State.complete, State.reply, State.sendBody]
@[simp] theorem State.complete_ownCode (s : State) (r : Request) (x : Result) (b : Bool) (v : List Byte) :
    (s.complete r x b v).ownCode = s.ownCode := by simp [State.complete, State.reply, State.sendBody]
@[simp] theorem State.complete_store (s : State) (r : Request) (x : Result) (b : Bool) (v : List Byte) :
    (s.complete r x b v).store = s.store := by simp [State.complete, State.reply, State.sendBody]
@[simp] theorem State.complete_routes (s : State) (r : Request) (x : Result) (b : Bool) (v : List Byte) :
    (s.complete r x b v).routes = s.routes := by simp [State.complete, State.reply, State.sendBody]
@[simp] theorem State.complete_stories (s : State) (r : Request) (x : Result) (b : Bool) (v : List Byte) :
    (s.complete r x b v).stories = s.stories := by simp [State.complete, State.reply, State.sendBody]
@[simp] theorem State.complete_subst (s : State) (r : Request) (x : Result) (b : Bool) (v : List Byte) :
    (s.complete r x b v).subst = s.subst := by simp [State.complete, State.reply, State.sendBody]
@[simp] theorem State.complete_circuits (s : State) (r : Request) (x : Result) (b : Bool) (v : List Byte) :
    (s.complete r x b v).circuits = s.circuits := by simp [State.complete, State.reply, State.sendBody]
@[simp] theorem State.complete_settings (s : State) (r : Request) (x : Result) (b : Bool) (v : List Byte) :
    (s.complete r x b v).settings = s.settings := by simp [State.complete, State.reply, State.sendBody]
@[simp] theorem State.complete_requestsTimedOut (s : State) (r : Request) (x : Result) (b : Bool) (v : List Byte) :
    (s.complete r x b v).requestsTimedOut = s.requestsTimedOut := by simp [State.complete, State.reply, State.sendBody]
@[simp] theorem State.complete_watch (s : State) (r : Request) (x : Result) (b : Bool) (v : List Byte) :
    (s.complete r x b v).watch = s.watch := by simp [State.complete, State.reply, State.sendBody]
@[simp] theorem State.complete_watchTimer (s : State) (r : Request) (x : Result) (b : Bool) (v : List Byte) :
    (s.complete r x b v).watchTimer = s.watchTimer := by simp [State.complete, State.reply, State.sendBody]
@[simp] theorem State.complete_noticeNumber (s : State) (r : Request) (x : Result) (b : Bool) (v : List Byte) :
    (s.complete r x b v).noticeNumber = s.noticeNumber := by simp [State.complete, State.reply, State.sendBody]
@[simp] theorem State.complete_requests (s : State) (r : Request) (x : Result) (b : Bool) (v : List Byte) :
    (s.complete r x b v).requests = s.requests.tail := by simp [State.complete, State.reply, State.sendBody]
@[simp] theorem State.complete_retryTimer (s : State) (r : Request) (x : Result) (b : Bool) (v : List Byte) :
    (s.complete r x b v).retryTimer = none := by simp [State.complete, State.reply, State.sendBody]
@[simp] theorem State.complete_requestsDone (s : State) (r : Request) (x : Result) (b : Bool) (v : List Byte) :
    (s.complete r x b v).requestsDone = satPlus s.requestsDone 1 := by
  simp [State.complete, State.reply, State.sendBody]

/-- Of a link, an answer changes the reply queue and the rate of the frame in transmission alone. -/
theorem State.complete_link (s : State) (r : Request) (x : Result) (b : Bool) (v : List Byte) (m : LinkId) :
    ∃ rs rate, (s.complete r x b v).link m = { s.link m with replies := rs, sendRate := rate } :=
  State.queueFrame_link _ _ m _

@[simp] theorem State.complete_fifo (s : State) (r : Request) (x : Result) (b : Bool) (v : List Byte) (m : LinkId) :
    ((s.complete r x b v).link m).fifo = (s.link m).fifo := by
  obtain ⟨rs, rate, h⟩ := s.complete_link r x b v m
  rw [h]

/-! ### Settling (R3, R4) -/

/-- Where no link could drain, settling changes nothing. -/
theorem State.settle_of_settled {s : State} (h : s.settled) : s.settle = s := by
  have hn : s.drainOne = none := by
    have : allLinks.find? s.canDrain = none := by
      refine List.find?_eq_none.2 fun l _ => ?_
      rcases h l with hl | hl <;> simp [State.canDrain, hl]
    simp [State.drainOne, this]
  have hs : ∀ n, drainAll n s = s := fun n => by cases n <;> simp [drainAll, hn]
  exact hs _

/-- Being settled depends on the receive FIFOs and the waiting requests alone. -/
theorem State.settled_of_eq {s t : State} (h : s.settled) (hw : t.store.waiting = s.store.waiting)
    (hf : ∀ l, (t.link l).fifo = (s.link l).fifo) : t.settled := fun l => by
  rw [hf l]
  simpa [State.waits, hw] using h l

/-! ### A request that finds the Service Unit idle (R154, R156) -/

/-- A request handed to an empty queue and answered at once leaves it with its reply. -/
theorem State.handOver_answered {s : State} (hq : s.requests = []) {r : Request} {x : Result} {b : Bool}
    {v : List Byte} {after : State} (hp : (s.withHead r).perform r.kind r.params = .answered x b v after) :
    s.handOver r = after.complete r x b v := by
  have hr : ({ s with requests := [r] } : State).perform r.kind r.params = .answered x b v after := hp
  simp [State.handOver, hq, State.runQueue, runRequests, hr]

/-- A request handed to an empty queue that must wait stays at the head with the retry timer started. -/
theorem State.handOver_waits {s : State} (hq : s.requests = []) {r : Request}
    (hp : (s.withHead r).perform r.kind r.params = .waits) : s.handOver r = (s.withHead r).startRetry := by
  have hr : ({ s with requests := [r] } : State).perform r.kind r.params = .waits := hp
  simp [State.handOver, hq, State.runQueue, runRequests, hr, State.withHead]

/-- Everything `handOver` can do with the queue not empty: the request is discarded at 8, or joins the tail. -/
theorem State.handOver_busy {s : State} (hq : s.requests ≠ []) (r : Request) :
    (Config.requestQueue ≤ s.requests.length ∧ s.handOver r = s.recordFault serviceSource .requestOverflow) ∨
      (s.requests.length < Config.requestQueue ∧ s.handOver r = { s with requests := s.requests ++ [r] }) := by
  unfold State.handOver
  split
  · exact .inl ⟨‹_›, rfl⟩
  · refine .inr ⟨Nat.lt_of_not_le ‹_›, ?_⟩
    simp [hq]

/-- A service-request command that finds the Service Unit idle and is answered at once. -/
theorem State.request_answered {s : State} (hi : s.serviceIdle) {h : ReqHead} {kind : Byte} {ps : List Byte}
    {x : Result} {b : Bool} {v : List Byte} {after : State}
    (hp : (s.withHead (ReqHead.request h kind ps)).perform kind ps = .answered x b v after) :
    s.request h kind ps = (after.complete (ReqHead.request h kind ps) x b v).settle := by
  have he : s.handOver (ReqHead.request h kind ps) = after.complete (ReqHead.request h kind ps) x b v := State.handOver_answered hi.2.1 hp
  simp [State.request, State.live, hi.1, he]

/-- An answer does not depend on whether the request stands alone in the queue or is already taken off it. -/
theorem State.withHead_complete {t : State} (ht : t.requests = []) (r : Request) (x : Result) (b : Bool)
    (v : List Byte) : (t.withHead r).complete r x b v = t.complete r x b v := by
  simp [State.complete, State.withHead, ht]

/-- The completion of a service request whose effect leaves every FIFO and every waiting segment request alone. -/
theorem State.request_answers {s t : State} (hi : s.serviceIdle) {h : ReqHead} {kind : Byte} {ps : List Byte}
    {x : Result} {b : Bool} {v : List Byte} (ht : t.requests = []) (hs : t.settled)
    (hp : (s.withHead (ReqHead.request h kind ps)).perform kind ps =
      .answered x b v (t.withHead (ReqHead.request h kind ps))) :
    s.request h kind ps = t.answer h kind ps x b v := by
  rw [State.request_answered hi hp, State.withHead_complete ht]
  exact State.settle_of_settled (State.settled_of_eq hs (by simp) (by simp))

/-- The completion of a service request that is refused. -/
theorem State.request_refused {s : State} (hi : s.serviceIdle) {h : ReqHead} {kind : Byte} {ps : List Byte} {x : Result}
    (hp : (s.withHead (ReqHead.request h kind ps)).perform kind ps =
      (s.withHead (ReqHead.request h kind ps)).refuse x) :
    s.request h kind ps = s.answer h kind ps x false [] :=
  State.request_answers hi hi.2.1 hi.2.2 hp

/-- A service request that finds the Service Unit idle and must wait. -/
theorem State.request_held {s : State} (hi : s.serviceIdle) {h : ReqHead} {kind : Byte} {ps : List Byte}
    (hp : (s.withHead (ReqHead.request h kind ps)).perform kind ps = .waits) :
    s.request h kind ps = s.held h kind ps := by
  have he : s.handOver (ReqHead.request h kind ps) = s.held h kind ps := State.handOver_waits hi.2.1 hp
  simp only [State.request, State.live, hi.1, he]
  exact State.settle_of_settled (State.settled_of_eq hi.2.2 rfl fun _ => rfl)

/-- A circuit replaced leaves every FIFO and every waiting segment request alone. -/
@[simp] theorem State.setCircuit_settled (s : State) (i : CircuitId) (c : Circuit) :
    (s.setCircuit i c).settled ↔ s.settled := by simp [State.settled, State.waits]

/-- A link replaced by one with the same FIFO, or an empty one, leaves a settled state settled. -/
theorem State.setLink_settled {s : State} {l : LinkId} {k : Link} (h : s.settled)
    (hk : k.fifo = [] ∨ k.fifo = (s.link l).fifo) : (s.setLink l k).settled := by
  intro m
  by_cases hm : m = l
  · subst hm
    rcases hk with hk | hk
    · exact .inl (by simp [hk])
    · simpa [State.waits, hk] using h m
  · rw [State.setLink_link_ne s hm]
    simpa [State.waits] using h m

/-! ### What the requests that name a circuit, a link or a table entry perform (R161 to R166) -/

/-- CIRCUIT CONTROL with a good circuit number. -/
theorem State.perform_circuit (s : State) (i : CircuitId) (index action : Byte) (hx : index.toNat = i.val) :
    s.perform 0x04 [index, action] =
      (if action = 0x01 then s.circuitAct i (·.modCircuit i Circuit.start)
      else if action = 0x02 then s.circuitAct i (·.modCircuit i Circuit.stop)
      else if action = 0x03 then s.circuitAct i (·.modCircuit i Circuit.stopAtEnd)
      else if action = 0x04 then s.circuitAct i (·.modCircuit i (·.setAccepting true))
      else if action = 0x05 then s.circuitAct i (·.modCircuit i (·.setAccepting false))
      else if action = 0x06 then s.circuitAct i (·.flush i)
      else s.refuse .badValue) := by
  have h : circuitOf index.toNat = i := by rw [hx]; exact Fin.ofNat_val_eq_self i
  have hn : ¬16 ≤ index.toNat := by omega
  simp [State.perform, State.circuitControl, h, hn]

/-- LINK CONTROL with a good link number. -/
theorem State.perform_link (s : State) (l : LinkId) (index action : Byte) (hx : index.toNat = l.val) :
    s.perform 0x05 [index, action] =
      (if action = 0x01 then s.linkAct l (·.enableLink l)
      else if action = 0x02 then if (s.link l).rx.betweenFrames then s.linkAct l (·.disableLink l) else .waits
      else if action = 0x03 then s.linkAct l (·.resetLink l)
      else s.refuse .badValue) := by
  have h : linkOf index.toNat = l := by rw [hx]; exact Fin.ofNat_val_eq_self l
  have hn : ¬8 ≤ index.toNat := by omega
  simp [State.perform, State.linkControl, h, hn]

/-- TABLE WRITE with a good table and index. -/
theorem State.perform_write (s : State) {tb : Table} {code index field : Byte} {v : List Byte}
    (hc : Table.ofCode code = some tb) (hx : index.toNat < tb.entries) :
    s.perform 0x03 (code :: index :: field :: v) =
      match s.writeField tb index.toNat field v with
      | none => s.refuse .badField
      | some .refused => s.refuse .badValue
      | some (.taken staged limited held after) =>
        if s.writeWaits tb index.toNat then .waits
        else .answered (if staged then .staged else .done) limited held after := by
  simp [State.perform, State.tableWrite, State.withTable, hc, hx] <;> rfl

/-- TABLE READ with a good table and index. -/
theorem State.perform_read (s : State) {tb : Table} {code index field : Byte} (hc : Table.ofCode code = some tb)
    (hx : index.toNat < tb.entries) :
    s.perform 0x02 [code, index, field] =
      match s.readField tb index.toNat field with
      | some v => .ok v s
      | none => s.refuse .badField := by
  simp [State.perform, State.tableRead, State.withTable, hc, hx] <;> rfl

/-! ### References and removals (R38) -/

/-- Everything `dropRef` can do: nothing for a FREE record; the record freed and its release reported at the last
reference; else the count falls by one. -/
theorem State.dropRef_cases (s : State) (h : Nat) :
    (s.take? h = none ∧ s.dropRef h = s) ∨
      (∃ t, s.take? h = some t ∧ t.refs ≤ 1 ∧ s.dropRef h = (s.reportRelease t).freeTake h) ∨
      (∃ t, s.take? h = some t ∧ 1 < t.refs ∧ s.dropRef h = s.putTake h { t with refs := t.refs - 1 }) := by
  unfold State.dropRef
  cases ht : s.take? h with
  | none => exact .inl ⟨rfl, rfl⟩
  | some t =>
    by_cases hr : t.refs ≤ 1
    · exact .inr (.inl ⟨t, rfl, hr, by simp [hr]⟩)
    · exact .inr (.inr ⟨t, rfl, by omega, by simp [hr]⟩)

/-- Everything `removeAt` can do: nothing past the end of the queue; else one entry leaves, the backlog falls by its
estimate and its take's reference is dropped. -/
theorem State.removeAt_cases (s : State) (i : CircuitId) (n : Nat) :
    ((s.circuit i).queue[n]? = none ∧ s.removeAt i n = s) ∨
      ∃ e, (s.circuit i).queue[n]? = some e ∧
        s.removeAt i n = (s.modCircuit i fun c =>
          { c with queue := c.queue.eraseIdx n, backlog := c.backlog - e.estimate }).dropRef e.handle := by
  unfold State.removeAt
  cases h : (s.circuit i).queue[n]? with
  | none => exact .inl ⟨rfl, rfl⟩
  | some e => exact .inr ⟨e, rfl, rfl⟩

/-! ### Insertion (R67) -/

/-- Everything an insertion of a listed take can do: shed, placed, refused as full, or placed after a displacement. -/
theorem State.insert_cases (s : State) (i : CircuitId) (h : Nat) (p : Priority) {t : Take} (ht : s.take? h = some t) :
    ((s.circuit i).sheds p = true ∧ s.insert i h p = s.countCircuit i .shed 1) ∨
      ((s.circuit i).sheds p = false ∧ s.full i = false ∧ s.insert i h p = s.place i h t p) ∨
      ((s.circuit i).sheds p = false ∧ s.full i = true ∧ s.insert i h p = s.countCircuit i .refusedFull 1) ∨
      ∃ n, (s.circuit i).sheds p = false ∧ s.full i = true ∧ displacedAt (s.circuit i).queue p = some n ∧
        s.insert i h p = ((s.removeAt i n).countCircuit i .displaced 1).place i h t p := by
  unfold State.insert
  simp only [ht]
  split
  · exact .inl ⟨‹_›, rfl⟩
  · rename_i hs
    have hs : (s.circuit i).sheds p = false := (Bool.not_eq_true _).mp hs
    split
    · rename_i hf
      exact .inr (.inl ⟨hs, by simpa using hf, rfl⟩)
    · rename_i hf
      have hf : s.full i = true := by simpa using hf
      split
      · exact .inr (.inr (.inl ⟨hs, hf, rfl⟩))
      · split
        · exact .inr (.inr (.inl ⟨hs, hf, rfl⟩))
        · exact .inr (.inr (.inr ⟨_, hs, hf, ‹_›, rfl⟩))

/-- The estimates of a queue with an entry placed in it (R72). -/
theorem queueSum_placeEntry (q : List Entry) (e : Entry) : queueSum (placeEntry q e) = queueSum q + e.estimate := by
  have h := congrArg (fun l => (l.map (·.estimate)).sum) (List.takeWhile_append_dropWhile
    (p := fun x : Entry => decide (x.prio.num ≤ e.prio.num)) (l := q))
  simp only [List.map_append, List.sum_append] at h
  simp only [queueSum, placeEntry, List.map_append, List.sum_append, List.map_cons, List.sum_cons]
  omega

/-- The estimates of a queue with a resumed entry placed in it (R72). -/
theorem queueSum_placeResumed (q : List Entry) (e : Entry) : queueSum (placeResumed q e) = queueSum q + e.estimate := by
  have h := congrArg (fun l => (l.map (·.estimate)).sum) (List.takeWhile_append_dropWhile
    (p := fun x : Entry => decide (x.prio.num < e.prio.num)) (l := q))
  simp only [List.map_append, List.sum_append] at h
  simp only [queueSum, placeResumed, List.map_append, List.sum_append, List.map_cons, List.sum_cons]
  omega

/-! ### Store space (R27 to R31) -/

/-- Everything `freeTake` can do: nothing for a FREE record; else the record is erased and its chain returned. -/
theorem State.freeTake_cases (s : State) (h : Nat) :
    (s.take? h = none ∧ s.freeTake h = s) ∨
      ∃ t, s.take? h = some t ∧
        s.freeTake h = (s.modStore fun st => { st with takes := Takes.erase st.takes h }).returnSegments
          t.chain.length := by
  unfold State.freeTake
  cases ht : s.take? h with
  | none => exact .inl ⟨rfl, rfl⟩
  | some t => exact .inr ⟨t, rfl, rfl⟩

/-- Everything a recorded fault can do: the entry takes the code, and with notices on a numbered notice follows. -/
theorem State.recordFault_cases (s : State) (src : Fin 26) (code : FaultCode) :
    (s.settings.notices = true ∧ code ≠ .replyOverflow ∧
        s.recordFault src code = (s.setFault src code).notice 0x01 (faultNoticeFields s src code)) ∨
      s.recordFault src code = s.setFault src code := by
  unfold State.recordFault
  split
  · rename_i h; exact .inl ⟨h.1, h.2, rfl⟩
  · exact .inr rfl

/-! ### Spikes and return-line characters (R146, R167) -/

/-- The value of TAKE SPIKE: the number of takes while one byte holds it, and past that the free byte (log 38). -/
theorem spikeCount_cases (n : Nat) :
    (n < 256 ∧ spikeCount n = [BitVec.ofNat 8 n]) ∨ (256 ≤ n ∧ spikeCount n = [Config.spikeCountByte n]) := by
  unfold spikeCount
  split
  · exact .inl ⟨‹_›, rfl⟩
  · exact .inr ⟨Nat.le_of_not_lt ‹_›, rfl⟩

/-- Everything a tick can do to a character being received: drop it as a false start, or bring its sample closer. -/
theorem Reception.tick_cases (mark : Bool) (r : Reception) :
    (r.sampleIn = 1 ∧ mark = true ∧ Reception.tick mark r = none) ∨
      (¬(r.sampleIn = 1 ∧ mark = true) ∧ Reception.tick mark r = some { r with sampleIn := r.sampleIn - 1 }) := by
  unfold Reception.tick
  split
  · exact .inl ⟨‹_ ∧ _›.1, ‹_ ∧ _›.2, rfl⟩
  · exact .inr ⟨‹_›, rfl⟩

/-! ### What LINK RESET leaves in a FIFO, and the Packer's characters (R4, R23, R96, R101) -/

/-- Everything `resetFifo` can be: the FIFO of a link that waits in TEXT, or empty. -/
theorem State.resetFifo_cases (s : State) (l : LinkId) :
    ((∃ h closed, (s.link l).rx = .text h closed) ∧ s.waits l = true ∧ s.resetFifo l = (s.link l).fifo) ∨
      s.resetFifo l = [] := by
  unfold State.resetFifo
  split
  · rename_i h closed hx
    by_cases hw : s.waits l = true
    · exact .inl ⟨⟨h, closed, hx⟩, hw, by simp [hw]⟩
    · exact .inr (by simp [hw])
  all_goals exact .inr rfl

@[simp] theorem HeldWord.remaining_nil (long fresh : Bool) (off : Nat) :
    ({ ahead := [], long := long, fresh := fresh } : HeldWord).remaining off = 0 := rfl
@[simp] theorem HeldWord.remaining_cons (e : List Byte) (es : List (List Byte)) (long fresh : Bool) (off : Nat) :
    ({ ahead := e :: es, long := long, fresh := fresh } : HeldWord).remaining off =
      (e.length - off) + (es.map List.length).sum := rfl

@[simp] theorem emitted_zero (fm : Form) (tbl : Vector SubstEntry 32) (t : Take) (x : Context) :
    emitted fm tbl t 0 x = [] := rfl

/-- The Packer in a line end in progress: the next of its characters (R96, R104). -/
theorem choose_of_sequence {fm : Form} {tbl : Vector SubstEntry 32} {t : Take} {x : Context} {f : FiveUnit}
    {rest : List FiveUnit} (h : x.sequence = f :: rest) :
    choose fm tbl t x = .char f (({ x with sequence := rest } : Context).emit fm f).markLineStart 0 false := by
  simp [choose, h]

/-- The Packer at a complete line end acts on its orders first (R105). -/
theorem choose_of_lineEnd {fm : Form} {tbl : Vector SubstEntry 32} {t : Take} {x : Context} {k : LineEnd}
    (h : x.sequence = []) (hk : x.lineEnd = some k) :
    choose fm tbl t x = lineEndDone fm tbl t { x with lineEnd := none } k := by
  simp [choose, h, hk]

/-- The Packer outside a line end goes by its phase (R96). -/
theorem choose_of_phase {fm : Form} {tbl : Vector SubstEntry 32} {t : Take} {x : Context} (h : x.sequence = [])
    (hk : x.lineEnd = none) :
    choose fm tbl t x = match x.phase with
      | .header items => headerNext fm tbl t x items
      | .text => textNext fm tbl t x
      | .trailer step => trailerNext fm t x step 0 := by
  cases hp : x.phase <;> simp [choose, h, hk, hp]

/-- One character of `emitted`. -/
theorem emitted_of_char {fm : Form} {tbl : Vector SubstEntry 32} {t : Take} {x y : Context} {f : FiveUnit} {u : Nat}
    {start : Bool} (n : Nat) (h : choose fm tbl t x = .char f y u start) :
    emitted fm tbl t (n + 1) x = f :: emitted fm tbl t n y := by simp [emitted, h]

/-- `emitted` stops at the take's end. -/
theorem emitted_of_takeEnd {fm : Form} {tbl : Vector SubstEntry 32} {t : Take} {x : Context} (n : Nat)
    (h : choose fm tbl t x = .takeEnd) : emitted fm tbl t n x = [] := by cases n <;> simp [emitted, h]

end Sys2Proof.Machine
end

