-- ==== Sys2Proof/Tests/Slice0.lean ====
section
/-! SUPPORT. Tests on fixed values whose expected results stand in spec/, the well-formedness smoke tests, and for each
statement with hypotheses a witness: concrete states and operands that meet all of them, clause by clause. -/

namespace Sys2Proof.Tests

open Sys2Proof Sys2Proof.Machine

/-! ### Helpers -/

/-- The head of a request from IL0 under the own code. -/
def head : ReqHead := { link := 0, matched := .own, serial := 0x55, timeCheck := 100 }

/-- A request of a kind from IL0 with parameters, its time check of 2 units elapsed so far. -/
def asked (kind : Byte) (ps : List Byte) (elapsed : Nat) : Request :=
  { link := 0, matched := .own, kind := kind, serial := 0x55, timeCheck := 2, params := ps, elapsed := elapsed }

/-- A ROUTINE take of IL1 with no text yet. -/
def copy : Take :=
  { state := .filling, link := 1, serial := 7, prio := .routine, adjusted := none, disp := .normal, slug := [0x41],
    part := 1, tag := [0x41, 0x42], category := 26, length := 0, chain := [], truncated := false, suspect := false,
    unindexed := false, readyTime := none, readyClock := none, refs := 0, story := none }

/-- A READY take of three letters with references. -/
def letters (refs : Nat) : Take :=
  { copy with
    state := .ready, adjusted := some .routine, length := 3, chain := [[0x41, 0x42, 0x43]], readyTime := some 0
    readyClock := some (0, 0), refs := refs }

/-- From reset, IL1 changed. -/
def onLink (f : Link → Link) : State := State.reset.modLink 1 f

/-- From reset, OC0 changed, and takes in records 3 and 4. -/
def onCircuit (f : Circuit → Circuit) : State :=
  ((State.reset.putTake 3 (letters 2)).putTake 4 { letters 2 with prio := .flash }).modCircuit 0 f

/-- From reset, IL1 in TEXT with a take in record 0. -/
def inText (t : Take) : State := (onLink fun k => { k with rx := .text 0 false }).putTake 0 t

/-- The settings of the store changed. -/
def stored (s : State) (f : Store → Store) : State := s.modStore f

/-- A queue entry for a record. -/
def entry (h : Nat) (p : Priority) : Entry := { handle := h, prio := p, resume := none, estimate := 10 }

/-- The context of the take in record 3, at a phase. -/
def packing (ph : Phase) : Context :=
  { freshContext Form.reset (entry 3 .routine) (letters 2) false false with phase := ph, sequence := [], lineEnd := none }

/-- A circuit SENDING the take in record 3. -/
def sending (c : Circuit) (x : Context) : Circuit :=
  { c with
    state := .sending, flight := some { entry := entry 3 .routine, ctx := x }
    pacer := { running := true, period := 18431, charLen := 15 } }

/-- A circuit in a state with its pacer running. -/
def running (c : Circuit) (st : CircuitState) : Circuit :=
  { c with state := st, pacer := { running := true, period := 18431, charLen := 15 } }

/-- An open answer-back window for `AB`, so many ticks old. -/
def window (n : Nat) : Window := { ticks := n, limit := 3000, expected := [0x41, 0x42] }

/-- From reset, OC0 changed, takes in records 3 and 4 with one reference each, and the story of those takes in the index. -/
def counted (st : StoryState) (sent : CircuitSet) (f : Circuit → Circuit) : State :=
  { ((State.reset.putTake 3 { letters 1 with story := some { link := 1, slug := [0x41] } }).putTake 4
      { letters 1 with story := some { link := 1, slug := [0x41] } }).modCircuit 0 f with
    stories := [{ key := { link := 1, slug := [0x41] }, state := st, sent := sent, queued := 2 }] }

/-- A READY take of that story with a disposition, not yet routed. -/
def arriving (d : Disposition) : Take := { letters 0 with disp := d, adjusted := none }

/-! ### Well-formedness -/

theorem test_wf_long_write_route_refused :
    Instr.wellFormed (.tableWriteRoute head 0 1 (List.replicate 62 0)) = false := by decide
theorem test_wf_long_write_circuit_refused :
    Instr.wellFormed (.tableWriteCircuit head 0 1 (List.replicate 62 0)) = false := by decide
theorem test_wf_long_write_link_refused :
    Instr.wellFormed (.tableWriteLink head 0 1 (List.replicate 62 0)) = false := by decide
theorem test_wf_long_write_subst_refused :
    Instr.wellFormed (.tableWriteSubst head 0 1 (List.replicate 62 0)) = false := by decide
theorem test_wf_long_write_store_refused :
    Instr.wellFormed (.tableWriteStore head 0 1 (List.replicate 62 0)) = false := by decide
theorem test_wf_long_write_service_refused :
    Instr.wellFormed (.tableWriteService head 0 1 (List.replicate 62 0)) = false := by decide
theorem test_wf_many_points_refused : Instr.wellFormed (.watchEnter head 21 (List.replicate 64 0)) = false := by decide
theorem test_wf_longest_accepted :
    Instr.wellFormed (.tableWriteCircuit head 0 1 (List.replicate 61 0)) = true ∧
      Instr.wellFormed (.watchEnter head 21 (List.replicate 63 0)) = true := by decide

/-- The table gives no row bits (log 27). -/
theorem test_no_word_spells_a_command : decodeTableWord 8 0 = none ∧ State.reset.withFetchWord 8 0 = State.reset :=
  ⟨rfl, rfl⟩

/-! ### Worked cases of the spec -/

/-- R7, CRC-8 worked case: 0x41 gives 0xC0. -/
theorem test_crc_of_41 : crcBytes 0x07 0x00 [0x41] = 0xC0 := by decide

/-- R7, CRC-8 worked case: `123456789` gives 0xF4. -/
theorem test_crc_of_digits :
    crcBytes 0x07 0x00 [0x31, 0x32, 0x33, 0x34, 0x35, 0x36, 0x37, 0x38, 0x39] = 0xF4 := by decide +kernel

/-- 12, An election night: estimates under the default profile. -/
theorem test_estimates_of_the_election_night :
    [180, 60, 230, 20, 190, 177].map (estimate Form.reset) = [31800, 12600, 39900, 6600, 33300, 31350] := by decide

/-- 12, event 1: 74,850 ms is held at 65,535. -/
theorem test_estimate_held : estimate Form.reset 451 = 65535 := by decide

/-- R16, serial tracking worked: E = 9998 and a take 0003 raise the gap total by 5, and E becomes 0004. -/
theorem test_serial_gap_over_the_wrap :
    (((onLink fun k => { k with expected := some 9998 }).trackSerial 1 3).link 1).counters.serialGap = 5 ∧
      (((onLink fun k => { k with expected := some 9998 }).trackSerial 1 3).link 1).expected = some 4 := by decide

/-- R16, serial tracking worked: 0003 after E = 0105 records SERIAL RESTART. -/
theorem test_serial_restart :
    ((onLink fun k => { k with expected := some 105 }).trackSerial 1 3).faults[1] = some .serialRestart := by decide

/-- R141: four ticks of 1843 cycles, then one of 1844. -/
theorem test_tick_divider : (List.ofFn tickCycles) = [1843, 1843, 1843, 1843, 1844] := by decide

/-- R104: a fold before a word that opens with a dropped byte stands before that byte, whose place the new line starts
with; the examination has counted it (R82). -/
theorem test_fold_stands_before_dropped_byte :
    (match textNext Form.reset State.reset.subst { letters 2 with chain := [[0x80, 0x41, 0x42]] }
        { packing .text with column := 68 } with
      | .char f y n _ => f == .cr && y.lineEnd == some .fold && y.read == { pos := 0, off := 0 } && n == 1
      | _ => false) = true := by decide

/-- R146: the half-bit sample stands 18432 cycles, ten milliseconds, after the edge; marking then, the line is hunted
again, and spacing, the character goes on. -/
theorem test_false_start_is_hunted_again :
    let heard := fun mark : Bool => onCircuit fun c =>
      { c with returnMark := mark, receiving := some { period := 18431, charLen := 15, sampleIn := 1 } }
    Form.reset.startReception.sampleIn = 10 ∧ ((heard true).tick.circuit 0).receiving = none ∧
      ((heard false).tick.circuit 0).receiving = some { period := 18431, charLen := 15, sampleIn := 0 } := by
  decide +kernel

/-- R4, R23: LINK RESET of a link that waits drains the waiting bytes from IDLE, here one stray and a BEGIN. -/
theorem test_link_reset_drains_waiting_bytes :
    let s := stored ((onLink fun k => { k with rx := .text 0 false, fifo := [0x41, byteBegin] }).putTake 0 copy) fun st =>
      { st with waiting := [{ link := 1, prio := .routine }] }
    (match exec (.linkReset head 1) s with
      | .next t => (t.link 1).rx == .header .unclassed && (t.link 1).counters.stray == 1 && (t.link 1).fifo == []
      | .fault _ => false
      | .refused _ => false) = true := by decide +kernel

/-- R110: a suspect and cut take, in figures past the margin with no reassert: LTRS before the tag, FIGS after it. -/
theorem test_trailer_in_figures :
    emitted { Form.reset with reassert := false, nCR := 1 } State.reset.subst
      { letters 2 with suspect := true, tag := [0x41, 0x44], readyClock := some (3, 12) } 40
      { packing .text with read := { pos := 3, off := 0 }, column := 4, shift := .figures, cut := true } =
    [.cr, .lf, .ltrs, .letter 0x41, .letter 0x44, .space, .figs, .figure 0x30, .figure 0x33, .figure 0x31, .figure 0x32,
      .figure 0x3F, .figure 0x2F, .cr, .lf, .cr, .lf] := by decide

/-- The folded header of section 6.5: 56 slots with the default bells at W = 20, here behind the LF of a break-in lead
(R106, R108). -/
theorem test_folded_header :
    let t : Take :=
      { letters 1 with
        disp := .correction, tag := [0x41, 0x44], part := 14
        slug := [0x43, 0x4F, 0x55, 0x4E, 0x54, 0x2D, 0x57, 0x45, 0x53, 0x54, 0x2D, 0x39] }
    let fm : Form := { Form.reset with width := 20 }
    let word := fun bs : List Byte => bs.map FiveUnit.letter
    emitted fm State.reset.subst t 57 (freshContext fm (entry 3 .bulletin) t true false) = List.flatten
      [[.lf, .figs, .bell, .bell, .bell, .bell, .bell, .ltrs], word [0x42, 0x55, 0x4C, 0x4C, 0x45, 0x54, 0x49, 0x4E],
        [.space], word [0x43, 0x4F, 0x52, 0x52, 0x45, 0x43, 0x54, 0x49, 0x4F, 0x4E], [.space, .cr, .cr, .lf, .ltrs],
        word [0x41, 0x44], [.space], word [0x43, 0x4F, 0x55, 0x4E, 0x54], [.figs, .figure 0x2D, .ltrs],
        word [0x57, 0x45, 0x53, 0x54], [.figs, .figure 0x2D, .figure 0x39, .space, .figure 0x31, .figure 0x34],
        [.cr, .cr, .lf, .ltrs]] := by decide +kernel

/-- A take cut in its header shows, behind the complete line end, the trailer `AD 0312/` alone (R105, R111). -/
theorem test_cut_in_header_goes_to_trailer :
    let t : Take := { letters 1 with tag := [0x41, 0x44], readyClock := some (3, 12) }
    let x : Context := { packing (.header [.word [0x31, 0x34], .close]) with cut := true, lineEnd := some .fold }
    emitted Form.reset State.reset.subst t 40 x =
      [.letter 0x41, .letter 0x44, .space, .figs, .figure 0x30, .figure 0x33, .figure 0x31, .figure 0x32, .figure 0x2F,
        .cr, .cr, .lf, .ltrs, .cr, .cr, .lf, .ltrs] := by decide +kernel

/-! ### Witnesses: steps, reset and time -/

theorem witness_StepRunsFrontCommand :
    ({ State.reset with pending := [.retry, .watchReport] } : State).pending = .retry :: [.watchReport] ∧
      State.reset.pending = [] := ⟨rfl, rfl⟩

theorem witness_ResetInputAndRelease :
    State.reset.resetHeld = false ∧ ({ State.reset with resetHeld := true } : State).resetHeld = true ∧
      (∀ straps, Instr.retry ≠ .hardwareReset straps) ∧ ∀ i, Instr.retry ≠ .returnLineLevelChange i :=
  ⟨rfl, rfl, fun _ h => Instr.noConfusion h, fun _ h => Instr.noConfusion h⟩

/-- Half-bit samples due and not yet due, on a marking and on a spacing line. -/
theorem witness_TickCountsOnce :
    let heard := fun (mark : Bool) (n : Nat) => onCircuit fun c =>
      { c with returnMark := mark, receiving := some { period := 18431, charLen := 15, sampleIn := n } }
    State.reset.resetHeld = false ∧ (State.reset.circuit 0).receiving = none ∧
      ∀ mark : Bool, ∀ n ∈ [0, 1, 2], (heard mark n).resetHeld = false ∧
        ((heard mark n).circuit 0).receiving = some { period := 18431, charLen := 15, sampleIn := n } ∧
        ((heard mark n).circuit 0).returnMark = mark := by decide

/-- At 23:59:59 a thousand ticks in, at 999 ticks, and for the request. -/
theorem witness_DayClockCountsAndSets :
    let s : State := { State.reset with clock := { hours := 23, minutes := 59, seconds := 59, ticks := 1000 } }
    let u : State := { s with clock := { s.clock with ticks := 999 } }
    (s.resetHeld = false ∧ 1000 ≤ s.clock.ticks ∧ s.clock.hours < 24 ∧ s.clock.minutes < 60 ∧ s.clock.seconds < 60) ∧
      (u.resetHeld = false ∧ u.clock.ticks < 1000) ∧ State.reset.serviceIdle := by decide

theorem witness_EncodingsReadBack :
    (isWordChar 0x41 = true ∧ isLetter 0x41 = true) ∧ (isWordChar 0x30 = true ∧ isLetter 0x30 = false) ∧
      (1 < 2 ∧ 12 ≤ 12) ∧ 4 < 5 ∧ 11 = 3 + 2 * 4 := by decide

/-- A request with 64 parameter bytes on IL0, at the own code. -/
theorem witness_ServiceFrameRunsRequest :
    let s := State.reset
    s.resetHeld = false ∧ (∀ l : LinkId, (s.link l).fifo = []) ∧ s.waits head.link = false ∧
      (s.link head.link).rx = .idle ∧ (s.link head.link).profile.check = true ∧
      (s.link head.link).profile.servicePermitted = true ∧ s.matchStation (0x00 : Byte).toNat = some head.matched ∧
      (List.replicate 64 (0x00 : Byte)).length ≤ 64 := by decide

/-! ### Witnesses: reception -/

theorem witness_BytesOutsideFramesOrLost_idle :
    let s := State.reset
    let u := onLink fun k => { k with rx := .disabled }
    (s.resetHeld = false ∧ (s.link 1).rx = .idle ∧ s.settled ∧ s.waits 1 = false) ∧
      u.resetHeld = false ∧ (u.link 1).rx = .disabled := by decide

/-- A take with so many characters in its one segment. -/
def filled (n : Nat) : Take := { copy with length := n, chain := [List.replicate n 0x41] }

/-- The premises of a text byte on IL1. -/
abbrev storing (s : State) (b : Byte) (t : Take) : Prop :=
  s.resetHeld = false ∧ s.settled ∧ s.waits 1 = false ∧ (s.link 1).rx = .text 0 false ∧ s.take? 0 = some t ∧
    b ≠ byteBegin ∧ b ≠ byteEnd

/-- A segment with one place left, and a byte that is not stored. -/
theorem witness_TextBytesStored_in_segment :
    let s := inText (filled 63)
    storing s 0x41 (filled 63) ∧ s.storable 0x41 = true ∧ (filled 63).length < 4095 ∧
      (filled 63).length < 64 * (filled 63).chain.length ∧ storing s 0x04 (filled 63) ∧ s.storable 0x04 = false := by
  decide

/-- A full segment, with the pool open and with the pool at the reserve. -/
theorem witness_TextBytesStored_new_segment :
    let s := inText (filled 64)
    let low := stored s fun st => { st with free := 64 }
    (storing s 0x41 (filled 64) ∧ s.storable 0x41 = true ∧ 64 * (filled 64).chain.length ≤ (filled 64).length ∧
      s.store.eligible (filled 64).prio = true ∧ s.store.reserve + 1 < s.store.free ∧
      s.store.lowWater + 1 < s.store.free) ∧
    storing low 0x41 (filled 64) ∧ low.store.eligible (filled 64).prio = false := by decide

/-- Text already closed, with a byte that R11 stores and one that it does not. -/
theorem witness_TextBytesStored_closed_text :
    let s := (onLink fun k => { k with rx := .text 0 true }).putTake 0 copy
    s.resetHeld = false ∧ s.settled ∧ s.waits 1 = false ∧ (s.link 1).rx = .text 0 true ∧
      (0x41 : Byte) ≠ byteBegin ∧ (0x41 : Byte) ≠ byteEnd ∧ (0x04 : Byte) ≠ byteBegin ∧ (0x04 : Byte) ≠ byteEnd := by
  decide

/-- Bytes at the edges of R11's rows: 0x80 with and without an entry in the substitution table. -/
theorem witness_TextBytesStored_sorted :
    let s : State := { State.reset with subst := State.reset.subst.set 31 { source := some 0x80, replacement := [] } }
    (∀ b ∈ [(0x20 : Byte), 0x7E, 0x0A, 0x80], s.storable b = true) ∧
      (∀ b ∈ [(0x1F : Byte), 0x7F, 0x0D, 0x81], s.storable b = false) ∧ State.reset.storable 0x80 = false ∧
      fold 0x7A = 0x5A ∧ fold 0x7B = 0x7B := by decide

/-- A take of 4095 characters. -/
theorem witness_TextBytesStored_full_take :
    let t : Take := { copy with length := 4095 }
    storing (inText t) 0x41 t ∧ (inText t).storable 0x41 = true ∧ 4095 ≤ t.length := by decide

theorem witness_BytesOutsideFramesOrLost_full_fifo :
    let s := stored ((onLink fun k => { k with rx := .text 0 true, fifo := List.replicate 16 0x41 }).putTake 0 copy)
      fun st => { st with waiting := [{ link := 1, prio := .routine }] }
    s.resetHeld = false ∧ s.settled ∧ (s.link 1).rx = .text 0 true ∧ s.take? 0 = some copy ∧
      16 ≤ (s.link 1).fifo.length ∧ ∀ x ∈ (s.link 1).fifo, x ≠ byteBegin ∧ x ≠ byteEnd := by decide

/-- A slug of twelve characters, serial 9999, a letter for category, a NUL for disposition, and record 0 free. -/
theorem witness_CopyHeaderOpensTake :
    let s := State.reset
    s.resetHeld = false ∧ (∀ m : LinkId, (s.link m).fifo = []) ∧ s.waits 1 = false ∧ (s.link 1).rx = .idle ∧
      (3 < (0x41 : Byte).toNat ∨ (0x41 : Byte) = 0) ∧ (3 < (0x00 : Byte).toNat ∨ (0x00 : Byte) = 0) ∧
      List.replicate 12 (0x61 : Byte) ≠ [] ∧ (List.replicate 12 (0x61 : Byte)).length ≤ 12 ∧
      (∀ c ∈ List.replicate 12 (0x61 : Byte), (slugByte c).isSome = true) ∧
      ((s.link 1).profile.dupSuppress = false ∨ 9999 ∉ (s.link 1).recent) ∧
      Takes.lowestFree s.store.takes 0 < 512 := by decide

/-- Categories and slug bytes at the edges of R8's ranges. -/
theorem witness_CopyHeaderOpensTake_bytes :
    [(0x41 : Byte), 0x7A, 0x5B, 0x60, 0x2A].map (fun b => (categoryOf b).val) = [0, 25, 26, 26, 26] ∧
      [(0x61 : Byte), 0x39, 0x2D, 0x3A, 0x40].map slugByte = [some 0x41, some 0x39, some 0x2D, none, none] := by decide

/-- END on a link with checking, in open and in closed text. -/
theorem witness_EndAcceptsTake_to_check :
    ∀ closed : Bool,
      let s := onLink fun k => { k with rx := .text 0 closed, profile := { k.profile with check := true } }
      s.resetHeld = false ∧ s.settled ∧ s.waits 1 = false ∧ (s.link 1).rx = .text 0 closed ∧
        (s.link 1).profile.check = true := by decide

/-- END on a link without checking, and a check byte that agrees. -/
theorem witness_EndAcceptsTake :
    let s := inText copy
    let u := (onLink fun k => { k with rx := .checkCopy 0, crc := 0x5A }).putTake 0 copy
    (s.resetHeld = false ∧ s.settled ∧ s.waits 1 = false ∧ s.take? 0 = some copy ∧ (s.link 1).rx = .text 0 false ∧
      (s.link 1).profile.check = false ∧ byteEnd = byteEnd) ∧
    (u.resetHeld = false ∧ u.settled ∧ u.waits 1 = false ∧ u.take? 0 = some copy ∧ (u.link 1).rx = .checkCopy 0 ∧
      (0x5A : Byte) = (u.link 1).crc) := by decide

/-- The premises of a byte on IL1 in a frame. -/
abbrev framed (s : State) (x : Rx) : Prop := s.resetHeld = false ∧ s.settled ∧ s.waits 1 = false ∧ (s.link 1).rx = x

/-- The byte above `9` in the digit positions 1, 5, 8 and 9; a bad twelfth slug byte; a 129th parameter digit; END at nine
and at eleven service digits; a service frame not permitted and one for another station. -/
theorem witness_HeadersRefused :
    let at' := fun x : Rx => onLink fun k => { k with rx := x }
    let copyAt := fun (n : Nat) (slug : List Byte) => ({ CopyHeader.fresh with pos := n, slug := slug } : CopyHeader)
    let service := fun (n : Nat) (m : Option MatchCode) => ({ digits := List.replicate n 0, matched := m } : ServiceHeader)
    let off := onLink fun k =>
      { k with rx := .header .unclassed, profile := { k.profile with servicePermitted := false } }
    (framed (at' (.header .unclassed)) (.header .unclassed) ∧ (0x63 : Byte) ≠ 0x43 ∧ (0x63 : Byte) ≠ 0x53) ∧
      (∀ n ∈ [1, 5, 8, 9], framed (at' (.header (.copy (copyAt n [])))) (.header (.copy (copyAt n [])))) ∧
      decimalValue 0x3A = none ∧ (copyAt 10 []).slug = [] ∧
      (framed (at' (.header (.copy (copyAt 21 (List.replicate 11 0x41)))))
        (.header (.copy (copyAt 21 (List.replicate 11 0x41)))) ∧ slugByte 0x40 = none) ∧
      (framed (at' (.header (.service (service 138 (some .own))))) (.header (.service (service 138 (some .own)))) ∧
        138 ≤ (service 138 (some .own)).digits.length ∧ hexValue 0x61 = none) ∧
      ((service 9 (some .own)).digits.length < 10 ∧ (service 11 (some .own)).digits.length % 2 = 1) ∧
      (framed off (.header .unclassed) ∧
        ((off.link 1).profile.check && (off.link 1).profile.servicePermitted) = false) ∧
      (framed (at' (.header (.service (service 1 none)))) (.header (.service (service 1 none))) ∧
        hexValue 0x31 = some 1 ∧ (service 1 none).digits = [0] ∧ State.reset.matchStation (16 * 0 + 1) = none) ∧
      ∀ due : Bool, framed (at' (.discarding due)) (.discarding due) := by decide +kernel

/-- A serial among the recent ones, and a full directory. -/
theorem witness_HeadersRefused_at_text :
    let h : CopyHeader := { CopyHeader.fresh with pos := 11, slug := [0x41], serial := 7 }
    let s := onLink fun k =>
      { k with rx := .header (.copy h), recent := [7], profile := { k.profile with dupSuppress := true } }
    let u : State := stored (onLink fun k => { k with rx := .header (.copy h) }) fun st =>
      { st with takes := (List.range 512).map fun n => (n, copy) }
    (framed s (.header (.copy h)) ∧ h.slug ≠ [] ∧ (s.link 1).profile.dupSuppress = true ∧ h.serial ∈ (s.link 1).recent) ∧
      (framed u (.header (.copy h)) ∧ h.serial ∉ (u.link 1).recent ∧ 512 ≤ Takes.lowestFree u.store.takes 0) := by
  decide +kernel

/-- A second code equal to the own code, one of its own, general call on, and a code that matches nothing (R15). -/
theorem witness_HeadersRefused_stations :
    let s := fun (second : Nat) => ({ State.reset with ownCode := 5 } : State).modSettings fun g =>
      { g with secondCode := second, secondOn := true, generalOn := true }
    (s 5).matchStation 5 = some .own ∧ (s 6).matchStation 6 = some .second ∧ (s 6).matchStation 63 = some .general ∧
      (s 6).matchStation 62 = none ∧ hexValue 0x46 = some 15 ∧ hexValue 0x47 = none := by decide

/-- Check bytes that disagree, BEGIN among them, for a request and for a take under either policy, and BEGIN in TEXT. -/
theorem witness_ChecksFailAndFramesAbandoned :
    let r := asked 0x01 [] 0
    let s := onLink fun k => { k with rx := .checkService r, crc := 0x5A }
    let u := fun (x : Rx) (p : CheckPolicy) =>
      (onLink fun k => { k with rx := x, crc := 0x5A, profile := { k.profile with policy := p } }).putTake 0 copy
    (framed s (.checkService r) ∧ (0x5B : Byte) ≠ (s.link 1).crc ∧ byteBegin ≠ (s.link 1).crc) ∧
      ∀ p ∈ [CheckPolicy.mark, .discard], ∀ x ∈ [Rx.checkCopy 0, .text 0 false, .text 0 true],
        framed (u x p) x ∧ (u x p).take? 0 = some copy ∧ ((u x p).link 1).profile.policy = p ∧
          (0x5B : Byte) ≠ ((u x p).link 1).crc ∧ (u x p).store.waiting = [] ∧ (u x p).store.low = false := by decide

/-- Every clause, the distances 0, 1, 4999, 5000 and 9999 among them. -/
theorem witness_SerialTracking :
    let e := (onLink fun k => { k with expected := some 9998, recent := [7] }).link 1
    let full := (onLink fun k => { k with recent := List.range 16 }).link 1
    (7 < 10000 ∧ (State.reset.link 1).expected = none) ∧ e.expected = some 9998 ∧ 9998 < 10000 ∧
      (9999 = (9998 + 1) % 10000 ∧ 4997 = (9998 + 4999) % 10000 ∧ 4998 = (9998 + 5000) % 10000 ∧
        9997 = (9998 + 9999) % 10000) ∧
      (e.recent.Nodup ∧ e.recent.length ≤ 16 ∧ 7 ∈ e.recent ∧ 8 ∉ e.recent ∧ e.recent.length < 16) ∧
      16 ∉ full.recent ∧ full.recent.length = 16 := by decide

/-! ### Witnesses: the store -/

/-- A waiting link with one byte that the pool can serve again, and no waiting link. -/
theorem witness_SegmentGrants_arbiter :
    let w : WaitingRequest := { link := 1, prio := .routine }
    let s := stored ((onLink fun k => { k with rx := .text 0 false, fifo := [0x41] }).putTake 0 copy)
      fun st => { st with waiting := [w] }
    (s.resetHeld = false ∧ s.settled ∧ s.store.nextServed = some w ∧ (s.link w.link).rx = .text 0 false ∧
      (s.link w.link).fifo = [0x41] ∧ s.take? 0 = some copy ∧ s.store.reserve + 1 < s.store.free ∧
      s.store.lowWater + 1 < s.store.free) ∧
    State.reset.resetHeld = false ∧ State.reset.store.nextServed = none := by decide

theorem witness_SegmentGrants_rule :
    let s := stored State.reset fun st => { st with free := 130 }
    let u := stored State.reset fun st => { st with free := 129 }
    (0 < s.store.free ∧ s.store.lowWater < s.store.free - 1) ∧
      (0 < u.store.free ∧ u.store.low = false ∧ u.store.free - 1 ≤ u.store.lowWater) := by decide

/-! ### Witnesses: timers of a link, and its return direction -/

/-- A link on which the silence timer has just reached its limit. -/
def silentNow (rx : Rx) : State :=
  onLink fun k =>
    { k with
      rx := rx, silenceTicks := 5000, hold := true, holdTicks := 5000
      profile := { k.profile with silenceLimit := 5, policy := .discard } }

theorem witness_SilenceAndHoldTimers :
    let premises := fun (s : State) => s.resetHeld = false ∧ s.settled ∧ (s.link 1).silenceDue = true
    let check : Rx := .checkService (asked 0x01 [] 0)
    (premises (silentNow .idle) ∧ ((silentNow .idle).link 1).rx = .idle) ∧
    (premises (silentNow (.discarding true)) ∧ ((silentNow (.discarding true)).link 1).rx = .discarding true) ∧
    (premises (silentNow (.header .unclassed)) ∧
      ((silentNow (.header .unclassed)).link 1).rx = .header .unclassed) ∧
    (premises (silentNow check) ∧ ((silentNow check).link 1).rx = check) ∧
    (State.reset.link 1).silenceDue = false ∧
    (((silentNow .idle).link 1).hold = true ∧
      ((silentNow .idle).link 1).profile.holdLimit ≤ ((silentNow .idle).link 1).holdTicks) ∧
    (State.reset.link 1).hold = false := by decide

/-- A take in TEXT and in CHECK under either policy, and in TEXT with bytes waiting for a segment. -/
theorem witness_SilenceAndHoldTimers_take :
    let s := fun (x : Rx) (p : CheckPolicy) =>
      ((silentNow x).modLink 1 fun k => { k with profile := { k.profile with policy := p } }).putTake 0 copy
    let u := fun p : CheckPolicy => stored ((s (.text 0 false) p).modLink 1 fun k => { k with fifo := [0x41, 0x42] })
      fun st => { st with waiting := [{ link := 1, prio := .routine }] }
    (∀ p ∈ [CheckPolicy.mark, .discard], ∀ x ∈ [Rx.text 0 false, .text 0 true, .checkCopy 0],
      (s x p).resetHeld = false ∧ (s x p).settled ∧ ((s x p).link 1).silenceDue = true ∧ ((s x p).link 1).rx = x ∧
        (s x p).take? 0 = some copy ∧ ((s x p).link 1).profile.policy = p ∧ (s x p).store.waiting = [] ∧
        (s x p).store.low = false ∧ ((s x p).link 1).fifo = []) ∧
    ∀ p ∈ [CheckPolicy.mark, .discard],
      (u p).resetHeld = false ∧ (u p).settled ∧ ((u p).link 1).silenceDue = true ∧ ((u p).link 1).rx = .text 0 false ∧
        (u p).take? 0 = some copy ∧ ((u p).link 1).profile.policy = p ∧ (∀ w ∈ (u p).store.waiting, w.link = 1) ∧
        (u p).store.low = false ∧ ∀ b ∈ ((u p).link 1).fifo, b ≠ byteBegin := by decide

/-- Reply queues with none, one, two and four frames. -/
theorem witness_AnswersAndReplyQueues :
    let queue := fun n : Nat => (onLink fun k => { k with replies := List.replicate n [0x01] })
    (queue 0).resetHeld = false ∧ ((queue 0).link 1).replies = [] ∧ ((queue 1).link 1).replies = [[0x01]] ∧
      ((queue 2).link 1).replies = [0x01] :: [0x01] :: [] ∧ ¬((queue 4).link 1).replies.length < 4 := by decide

/-! ### Witnesses: supervision -/

theorem witness_FaultAndWatchNotices_fault :
    let off := State.reset.modSettings fun g => { g with notices := false }
    let four := State.reset.modLink 0 fun k => { k with replies := List.replicate 4 [0x01] }
    off.settings.notices = false ∧ State.reset.settings.notices = true ∧ FaultCode.check ≠ .replyOverflow ∧
      (State.reset.link State.reset.settings.deskLink).replies.length < 4 ∧ four.settings.notices = true ∧
      4 ≤ (four.link four.settings.deskLink).replies.length := by decide

theorem witness_FaultReadAndAttention :
    State.reset.serviceIdle ∧ (State.reset.modLink 0 fun k => { k with replies := List.replicate 4 [0x01] }).serviceIdle :=
  by decide

/-- Twenty points, a count of 21, a list that ends short, a point that names nothing; flags 02, 00 and 01, with a list
and without. -/
theorem witness_WatchListRequests :
    let s : State := { State.reset with watch := [.requestsDone, .freeSegments] }
    (State.reset.serviceIdle ∧ (List.replicate 20 WatchPoint.freeSegments).length = (20 : Byte).toNat ∧
      (20 : Byte).toNat ≤ 20) ∧
    20 < (21 : Byte).toNat ∧ ([0x03, 0x00] : List Byte).length < 3 * (1 : Byte).toNat ∧
    (([] : List WatchPoint).length < (1 : Byte).toNat) ∧
    (s.serviceIdle ∧ (0x02 : Byte) ≠ 0x00 ∧ (0x02 : Byte) ≠ 0x01 ∧ s.watch ≠ [] ∧ .requestsDone ∈ s.watch) ∧
    State.reset.watch = [] := by decide

/-- Kind 00 names no point. -/
theorem witness_WatchListRequests_no_point : ∀ p : WatchPoint, p.bytes ≠ [0x00, 0x00, 0x00] := by
  intro p; cases p <;> simp [WatchPoint.bytes]

theorem witness_FaultAndWatchNotices_watch :
    let s : State := { State.reset with watchTimer := some 1000, settings := { Settings.reset with watchPeriod := 1 } }
    let u : State := { s with watch := [.freeSegments] }
    (s.resetHeld = false ∧ s.watchTimer = some 1000 ∧ s.settings.watchPeriod * 1000 ≤ 1000 ∧ s.watch = []) ∧
      (u.watchTimer = some 1000 ∧ u.settings.watchPeriod * 1000 ≤ 1000 ∧ u.watch ≠ []) ∧
      State.reset.watchTimer = none := by decide

/-! ### Witnesses: the request queue -/

theorem witness_RequestQueueAndTimers_joins :
    let s : State := { State.reset with requests := List.replicate 7 (asked 0x05 [1, 2] 0) }
    let u : State := { State.reset with requests := List.replicate 8 (asked 0x05 [1, 2] 0) }
    (s.resetHeld = false ∧ s.settled ∧ (Instr.flush head 3).request? = some (head, 0x04, [3, 6]) ∧ s.requests ≠ [] ∧
      s.requests.length < 8) ∧ (u.resetHeld = false ∧ u.settled ∧ 8 ≤ u.requests.length) := by decide

/-- One tick short of the time check, an empty place, a lone head and a last place that are due, and a due head with
another request behind it. -/
theorem witness_RequestQueueAndTimers_time_check :
    let r := asked 0x05 [1, 2]
    let s : State := { State.reset with requests := [r 20, r 20] }
    let u : State := { State.reset with requests := [r 20] }
    let v : State := { State.reset with requests := [r 19] }
    (s.resetHeld = false ∧ s.settled ∧ s.requests = r 20 :: r 20 :: [] ∧ max 2 (r 20).timeCheck * 10 ≤ (r 20).elapsed) ∧
      (s.requests[(1 : Fin 8).val]? = some (r 20) ∧ (1 : Fin 8) ≠ 0) ∧
      (u.settled ∧ u.requests[(0 : Fin 8).val]? = some (r 20) ∧ u.requests = [r 20]) ∧
      (v.settled ∧ v.requests[(0 : Fin 8).val]? = some (r 19) ∧ (r 19).elapsed < max 2 (r 19).timeCheck * 10) ∧
      u.requests[(7 : Fin 8).val]? = none := by decide

theorem witness_RequestQueueAndTimers_retry :
    let r := asked 0x05 [1, 2] 0
    let x : RetryTimer := { ticks := 10, limit := 10 }
    let s : State := { (onLink fun k => { k with rx := .header .unclassed }) with requests := [r], retryTimer := some x }
    let u : State := { State.reset with requests := [r], retryTimer := some x }
    (s.resetHeld = false ∧ s.settled ∧ s.retryTimer = some x ∧ x.limit ≤ x.ticks ∧ s.requests = [r] ∧ r.kind = 0x05 ∧
      r.params = [BitVec.ofNat 8 (1 : LinkId).val, 0x02] ∧ (s.link 1).rx ≠ .idle ∧ (s.link 1).rx ≠ .disabled) ∧
      (u.settled ∧ u.retryTimer = some x ∧ u.requests = [r] ∧ (u.link 1).rx = .idle) ∧
      State.reset.retryTimer = none := by decide

/-! ### Witnesses: IDENTIFY and the tables -/

theorem witness_IdentifyAnswers : State.reset.serviceIdle := by decide

theorem witness_TableReadsAnswer :
    State.reset.serviceIdle ∧ (215 : Byte).toNat = (215 : Fin 216).val ∧ (15 : Byte).toNat = (15 : CircuitId).val ∧
      (7 : Byte).toNat = (7 : LinkId).val ∧ (31 : Byte).toNat = (31 : Fin 32).val := by decide

/-- Table 07; the last index of each table and the first past it; the first field past each list. -/
theorem witness_TableAddressesChecked :
    ((215 : Byte).toNat < 216 ∧ (15 : Byte).toNat < 16 ∧ (7 : Byte).toNat < 8 ∧ (31 : Byte).toNat < 32) ∧
      State.reset.serviceIdle ∧ 6 < (0x07 : Byte).toNat ∧ 216 ≤ (216 : Byte).toNat ∧ 16 ≤ (16 : Byte).toNat ∧
      8 ≤ (8 : Byte).toNat ∧ 32 ≤ (32 : Byte).toNat ∧ (1 : Byte) ≠ 0 ∧ (0x04 : Byte) ∉ [(0x01 : Byte), 0x02, 0x03] ∧
      0x21 < (0x22 : Byte).toNat ∧ 0x1E < (0x1F : Byte).toNat ∧ 0x0C < (0x0D : Byte).toNat ∧
      0x07 < (0x08 : Byte).toNat ∧ 0x03 < (0x04 : Byte).toNat ∧ 0x02 < (0x03 : Byte).toNat := by decide

/-- Kind 0D; parameters one byte short of each need; circuit 15 and link 7 with the first actions past their lists. -/
theorem witness_TableAddressesChecked_requests :
    State.reset.serviceIdle ∧ 0x0C < (0x0D : Byte).toNat ∧
      (∀ kn ∈ [((0x02 : Byte), 3), (0x03, 3), (0x04, 2), (0x05, 2), (0x06, 3), (0x07, 2), (0x08, 1), (0x09, 1),
          (0x0B, 3)], (List.replicate (kn.2 - 1) (0 : Byte)).length < kn.2) ∧
      ((15 : Byte).toNat < 16 ∧ 0x06 < (0x07 : Byte).toNat ∧ 16 ≤ (16 : Byte).toNat) ∧
      ((7 : Byte).toNat < 8 ∧ 0x03 < (0x04 : Byte).toNat ∧ 8 ≤ (8 : Byte).toNat) := by decide

/-- Kind 0D is answered UNKNOWN REQUEST, CIRCUIT CONTROL with action 07 and WATCH READ without its flag BAD VALUE (R156,
R158, R165). -/
theorem test_bad_requests_answered :
    let codes := fun (kind : Byte) (ps : List Byte) =>
      ((State.reset.request head kind ps).link 0).replies.map fun f => (f.drop 9).take 2
    codes 0x0D [] = [[0x30, 0x32]] ∧ codes 0x04 [0, 0x07] = [[0x30, 0x36]] ∧ codes 0x09 [] = [[0x30, 0x36]] := by
  decide +kernel

/-- Substitution sources: `%` free, `%` taken by another entry, and a letter. -/
theorem witness_RouteAndSubstWrites :
    let s := State.reset.subst
    let u := State.reset.subst.set 5 { source := some 0x25, replacement := [] }
    State.reset.serviceIdle ∧ (-128 ≤ (-3 : Int) ∧ (3 : Int) ≤ 127) ∧ 1 < (0x02 : Byte).toNat ∧
      (isNonDirectPrintable 0x25 || isHigh 0x25) = true ∧ (∀ m : Fin 32, m ≠ 0 → s[m].source ≠ some 0x25) ∧
      ((5 : Fin 32) ≠ 0 ∧ u[(5 : Fin 32)].source = some 0x25) ∧ (isNonDirectPrintable 0x41 || isHigh 0x41) = false ∧
      [(0x50 : Byte), 0x43, 0x54].length ≤ 3 ∧ [(0x50 : Byte), 0x43, 0x54].all isWordChar = true ∧
      3 < [(0x50 : Byte), 0x43, 0x54, 0x53].length ∧ [(0x25 : Byte)].all isWordChar = false := by decide

/-- A SENDING circuit and one that is not; the ends of each range are numbers below 256 or 65536. -/
theorem witness_CircuitFormWrites :
    let s := onCircuit fun c => sending c (packing .text)
    (State.reset.serviceIdle ∧ (0 : Byte).toNat = (0 : CircuitId).val ∧ (State.reset.circuit 0).state ≠ .sending) ∧
      (s.serviceIdle ∧ (s.circuit 0).state = .sending) ∧ (4606 < 65536 ∧ 81 < 256) ∧ 3 < (0x04 : Byte).toNat ∧
      1 < (0x02 : Byte).toNat := by decide

/-- A pacer that completes its character time in STOPPED and FAULTED and one that stands; a break run and a restore run
that a written time of 100 finds due, and ones that it does not. -/
theorem witness_CircuitPlainWrites_pacer_and_runs :
    let left := fun st : CircuitState => onCircuit fun c => running c st
    let spaced := fun n : Nat => onCircuit fun c => { running c .ready with returnMark := false, spacing := some n }
    let marked := fun n : Nat => onCircuit fun c => { c with state := .broken, marking := some n }
    let written := fun (s : State) (d r : Nat) =>
      s.modCircuit 0 fun c => { c with active := { c.active with breakDetect := d, restoreTime := r } }
    (∀ st ∈ [CircuitState.stopped, .faulted], (left st).serviceIdle ∧ ((left st).circuit 0).state = st ∧
      ((left st).circuit 0).pacer.running = true) ∧
    ((State.reset.circuit 0).state = .stopped ∧ (State.reset.circuit 0).pacer.running = false) ∧
    ((spaced 100).serviceIdle ∧ ((written (spaced 100) 100 1000).circuit 0).breakDue = true ∧
      ((written (spaced 99) 100 1000).circuit 0).breakDue = false) ∧
    ((marked 100).serviceIdle ∧ ((written (marked 100) 300 100).circuit 0).restoreDue = true ∧
      ((written (marked 99) 300 100).circuit 0).restoreDue = false) := by decide

theorem witness_CircuitPlainWrites :
    let s := onCircuit fun c => { c with active := { c.active with abExpected := [0x41], abCheck := true } }
    State.reset.serviceIdle ∧ (15 : Byte).toNat = (15 : CircuitId).val ∧ (State.reset.circuit 15).active.abExpected = [] ∧
      (s.serviceIdle ∧ (s.circuit 0).active.abExpected ≠ [] ∧ (s.circuit 0).active.abCheck = true) ∧
      (State.reset.circuit 15).active.abCheck = false ∧
      (List.replicate 16 (0x41 : Byte)).length ≤ 16 ∧ (List.replicate 16 (0x41 : Byte)).all isAnswerChar = true ∧
      List.replicate 16 (0x41 : Byte) ≠ [] ∧ (16 < (List.replicate 17 (0x41 : Byte)).length) ∧
      [(0x25 : Byte)].all isAnswerChar = false ∧ 2 < (0x03 : Byte).toNat ∧ 1 < (0x02 : Byte).toNat := by decide

theorem witness_LinkWrites :
    let s := onLink fun k => { k with rx := .header .unclassed }
    (State.reset.serviceIdle ∧ (1 : Byte).toNat = (1 : LinkId).val ∧ (State.reset.link 1).rx = .idle) ∧
      (s.serviceIdle ∧ (s.link 1).rx ≠ .idle ∧ (s.link 1).rx ≠ .disabled) ∧
      (isLetter 0x41 = true ∧ isLetter 0x5A = true) ∧ 3 < (0x04 : Byte).toNat ∧ 1 < (0x02 : Byte).toNat ∧
      (0x01 : Byte) ≠ 0x02 ∧ (isLetter 0x41 && isLetter 0x31) = false := by decide

/-- On a link in a frame a write of the check field would be taken. -/
theorem witness_LinkWrites_taken : ∃ staged limited held t,
    (onLink fun k => { k with rx := .header .unclassed }).writeLink (1 : LinkId).val 0x03 [0x01] =
      some (.taken staged limited held t) := ⟨_, _, _, _, rfl⟩

/-- Low water written equal to the reserve is taken; below it, refused. LOW then begins, and ends, with the write. -/
theorem witness_StoreAndServiceWrites :
    let st := State.reset.store
    let few := stored State.reset fun st => { st with free := 64 }
    let low := stored State.reset fun st => { st with low := true }
    State.reset.serviceIdle ∧ (64 < 65536 ∧ 63 < 65536) ∧
      (st.reserve ≤ 64 ∧ 64 < st.highWater ∧ st.highWater ≤ 1024 ∧ st.waiting = [] ∧ st.low = false ∧ 64 < st.free) ∧
      ¬st.reserve ≤ 63 ∧ (few.serviceIdle ∧ few.store.low = false ∧ few.store.free ≤ 64) ∧
      (low.serviceIdle ∧ low.store.low = true ∧ low.store.highWater ≤ low.store.free ∧ low.store.free < 1025) ∧
      1 < (0x02 : Byte).toNat := by decide

/-- A write that is taken, of the link table, of a circuit not SENDING, and of one SENDING. -/
theorem witness_WritesReadBack :
    (1 < Table.link.entries ∧ ∃ limited held t,
      State.reset.writeField .link 1 0x03 [0x01] = some (.taken false limited held t)) ∧
    (1 < Table.circuit.entries ∧ ∃ limited held t,
      State.reset.writeField .circuit 1 0x04 [0x01] = some (.taken false limited held t)) ∧
    ∃ limited held t, (onCircuit fun c => sending c (packing .text)).writeField .circuit 0 0x04 [0x01] =
      some (.taken true limited held t) :=
  ⟨⟨by decide, _, _, _, rfl⟩, ⟨by decide, _, _, _, rfl⟩, _, _, _, rfl⟩

/-! ### Witnesses: circuit control -/

/-- STOPPED with the pacer standing, STOPPED and FAULTED with it completing its character time, and BROKEN. -/
theorem witness_StartOpenClose :
    let s := onCircuit fun c => running c .broken
    let left := fun st : CircuitState => onCircuit fun c => { running c st with slot := .space }
    (State.reset.serviceIdle ∧ (0 : Byte).toNat = (0 : CircuitId).val ∧ (State.reset.circuit 0).state = .stopped) ∧
      (∀ st ∈ [CircuitState.stopped, .faulted], (left st).serviceIdle ∧ ((left st).circuit 0).state = st ∧
        ((left st).circuit 0).pacer.running = true) ∧
      (s.serviceIdle ∧ (s.circuit 0).state ≠ .stopped ∧ (s.circuit 0).state ≠ .faulted) ∧ 16 ≤ (16 : Byte).toNat := by
  decide

theorem witness_StopCircuit :
    let s := onCircuit fun c => running c .ready
    let u := onCircuit fun c => sending c (packing .text)
    let v := onCircuit fun c => { running c .sending with abandoned := true }
    (State.reset.serviceIdle ∧ (0 : Byte).toNat = (0 : CircuitId).val ∧ (State.reset.circuit 0).state = .stopped) ∧
      (s.serviceIdle ∧ (s.circuit 0).state ≠ .stopped ∧ (s.circuit 0).state ≠ .sending) ∧
      (u.serviceIdle ∧ (u.circuit 0).state = .sending ∧
        (u.circuit 0).flight = some { entry := entry 3 .routine, ctx := packing .text }) ∧
      (v.serviceIdle ∧ (v.circuit 0).state = .sending ∧ (v.circuit 0).flight = none) := by decide

theorem witness_FlushCircuit :
    let s := onCircuit fun c => { c with queue := [entry 4 .flash, entry 3 .routine], backlog := 20 }
    s.serviceIdle ∧ (0 : Byte).toNat = (0 : CircuitId).val ∧ s.store.waiting = [] ∧ s.store.low = false ∧
      s.take? 3 = some (letters 2) := by decide

/-! ### Witnesses: link control, spikes, queue read, copy restart -/

theorem witness_LinkEnableAndDisable :
    let off := onLink fun k => { k with rx := .disabled }
    let busy := onLink fun k => { k with rx := .header .unclassed }
    (off.serviceIdle ∧ (1 : Byte).toNat = (1 : LinkId).val ∧ (off.link 1).rx = .disabled) ∧
      (State.reset.serviceIdle ∧ (State.reset.link 1).rx ≠ .disabled ∧ (State.reset.link 1).rx = .idle) ∧
      (busy.serviceIdle ∧ (busy.link 1).rx ≠ .idle ∧ (busy.link 1).rx ≠ .disabled) ∧ 8 ≤ (8 : Byte).toNat := by decide

theorem witness_LinkResetCommand :
    let off := onLink fun k => { k with rx := .disabled }
    let busy := onLink fun k => { k with rx := .header .unclassed }
    let s := inText copy
    (off.serviceIdle ∧ (1 : Byte).toNat = (1 : LinkId).val ∧ (off.link 1).rx = .disabled) ∧
      (busy.serviceIdle ∧ (busy.link 1).rx = .header .unclassed) ∧
      (s.serviceIdle ∧ (s.link 1).rx = .text 0 false ∧ s.take? 0 = some copy ∧
        (∀ w ∈ s.store.waiting, w.link = 1) ∧ s.store.low = false) := by decide

/-- A link with bytes that wait for a segment, and one that awaits its check byte. -/
theorem witness_LinkResetCommand_waiting :
    let s := stored ((onLink fun k => { k with rx := .text 0 false, fifo := [0x41, 0x42] }).putTake 0 copy) fun st =>
      { st with waiting := [{ link := 1, prio := .routine }] }
    let u := (onLink fun k => { k with rx := .checkCopy 0 }).putTake 0 copy
    (s.serviceIdle ∧ (s.link 1).rx = .text 0 false ∧ (s.link 1).fifo = [0x41, 0x42] ∧ s.take? 0 = some copy ∧
      (∀ w ∈ s.store.waiting, w.link = 1) ∧ s.store.low = false ∧ ∀ b ∈ (s.link 1).fifo, b ≠ byteBegin) ∧
    (u.serviceIdle ∧ (u.link 1).rx = .checkCopy 0 ∧ u.take? 0 = some copy ∧ u.store.waiting = [] ∧
      u.store.low = false) := by decide

/-- Serials 9999 and 10000; a FILLING take, no take, and two READY takes of IL1 with serial 7. -/
theorem witness_TakeSpikeCommand :
    let named := fun (s : State) (st : TakeState) =>
      (s.store.takes.filter fun e => e.2.state == st && e.2.link == 1 && e.2.serial == (7 : BitVec 16).toNat).map (·.1)
    let s := onCircuit fun c => { c with queue := [entry 4 .flash, entry 3 .routine], backlog := 20 }
    (State.reset.serviceIdle ∧ 8 ≤ (8 : Byte).toNat ∧ (7 : Byte).toNat < 8 ∧ 9999 < (10000 : BitVec 16).toNat ∧
      (1 : Byte).toNat = (1 : LinkId).val ∧ (9999 : BitVec 16).toNat ≤ 9999) ∧
      ((inText copy).serviceIdle ∧ named (inText copy) .filling = [0]) ∧
      (named State.reset .filling = [] ∧ named State.reset .ready = []) ∧
      (s.serviceIdle ∧ named s .filling = [] ∧ named s .ready = [3, 4] ∧ s.store.waiting = [] ∧ s.store.low = false) := by
  decide

theorem witness_QueueReadAnswers :
    let s := onCircuit fun c => { sending c (packing .text) with queue := [entry 4 .flash], backlog := 10 }
    (s.serviceIdle ∧ 16 ≤ (16 : Byte).toNat ∧ (0 : Byte).toNat = (0 : CircuitId).val ∧
      (s.circuit 0).flight = some { entry := entry 3 .routine, ctx := packing .text } ∧ s.take? 3 = some (letters 2)) ∧
      ((1 : Byte).toNat = 0 + 1 ∧ (s.circuit 0).queue[0]? = some (entry 4 .flash) ∧ (s.take? 4).isSome = true) ∧
      (State.reset.circuit 0).flight = none ∧ ((2 : Byte) ≠ 0 ∧ (s.circuit 0).queue.length < (2 : Byte).toNat) := by
  decide

theorem witness_CopyRestartEmptiesCopy : (onCircuit fun c => sending c (packing .text)).serviceIdle := by decide

/-! ### Witnesses: a circuit's character times -/

theorem witness_CharacterEndIdle :
    let premises := fun (s : State) => s.resetHeld = false ∧ s.settled
    let at' := fun st => onCircuit fun c => running c st
    (premises State.reset ∧ (State.reset.circuit 0).pacer.running = false) ∧
      ∀ st ∈ [CircuitState.stopped, .faulted, .broken, .ready, .identifying],
        premises (at' st) ∧ ((at' st).circuit 0).pacer.running = true ∧ ((at' st).circuit 0).state = st ∧
          ((at' st).circuit 0).queue = [] := by decide

/-- A ROUTINE entry at its stale limit of 60 minutes to the tick, and one tick past it. -/
theorem witness_ReadyHeadSelection :
    let s : State :=
      { (onCircuit fun c => { running c .ready with queue := [entry 3 .routine], backlog := 10 }) with ms := 3600000 }
    let u : State := { s with ms := 3600001 }
    let late := fun (x : State) => (x.ms - (letters 2).readyTime.getD 0).toNat
    (s.resetHeld = false ∧ s.settled ∧ (s.circuit 0).pacer.running = true ∧ (s.circuit 0).state = .ready ∧
      (s.circuit 0).queue = entry 3 .routine :: [] ∧ s.take? 3 = some (letters 2) ∧
      late s ≤ (s.circuit 0).active.stale.get .routine * 60000) ∧
    (u.resetHeld = false ∧ u.settled ∧ u.store.waiting = [] ∧ u.store.low = false ∧
      (u.circuit 0).pacer.running = true ∧ (u.circuit 0).state = .ready ∧ (u.circuit 0).flight = none ∧
      (u.circuit 0).queue = [entry 3 .routine] ∧ u.take? 3 = some (letters 2) ∧ (entry 3 .routine).resume = none ∧
      0 < (u.circuit 0).active.stale.get .routine ∧
      (u.circuit 0).active.stale.get .routine * 60000 < late u) := by decide

/-- Header items of each kind, behind a lead and without one, at the margin, where a word just fits and just does not,
and at the width. -/
theorem witness_ReadyHeadSelection_headers :
    let x := fun (items : List HeaderItem) (column : Nat) => ({ packing (.header items) with column := column } : Context)
    ((letters 2).tag ≠ [] ∧ (letters 2).slug ≠ [] ∧ { letters 2 with part := 99 }.part < 100) ∧
      (∀ items ∈ [[HeaderItem.fixed .figs], [.word [0x41, 0x42]], [.space], [.close]],
        (x items 0).sequence = [] ∧ (x items 0).lineEnd = none ∧ (x items 0).lead = false ∧
          (x items 0).phase = .header items ∧ { x items 0 with lead := true }.lead = true) ∧
      ((x [] 67).column + [(0x41 : Byte), 0x42].length ≤ Form.reset.width ∧
        Form.reset.width < (x [] 68).column + [(0x41 : Byte), 0x42].length) ∧
      ((x [] 68).column < Form.reset.width ∧ Form.reset.width ≤ (x [] 69).column) ∧
      ((unitOf 0x41).needs = some (x [] 0).shift ∧ (unitOf 0x39).needs = some .figures ∧
        ShiftCase.figures ≠ (x [] 0).shift) := by decide

/-- The premises of a character time of a SENDING circuit. -/
theorem witness_SendingCharacterEnd :
    let premises := fun (s : State) (x : Context) => s.resetHeld = false ∧ s.settled ∧ (s.circuit 0).pacer.running = true ∧
      (s.circuit 0).state = .sending ∧ (s.circuit 0).flight = some { entry := entry 3 .routine, ctx := x } ∧
      s.take? 3 = some (letters 2)
    let x := packing .text
    let y : Context := { x with sequence := [.lf] }
    let s := onCircuit fun c => sending c y
    let u := onCircuit fun c => { sending c x with stopNow := true }
    let v := onCircuit fun c => { sending c x with breakSeen := true }
    (premises s y ∧ (s.circuit 0).stopNow = false ∧ (s.circuit 0).breakSeen = false) ∧
      (premises u x ∧ (u.circuit 0).stopNow = true ∧ x.trailerDone = false ∧ x.cut = false) ∧
      (premises v x ∧ (v.circuit 0).stopNow = false ∧ (v.circuit 0).breakSeen = true) := by decide

/-- The Packer has a character for the first clause: the LF that the sequence holds. -/
theorem witness_SendingCharacterEnd_chooses : ∃ ch y u,
    choose Form.reset State.reset.subst (letters 2) { packing .text with sequence := [.lf] } = .char ch y u false :=
  ⟨_, _, _, rfl⟩

/-- A header start behind the break-in lead: the LF is none, and the LTRS after it is one. -/
theorem witness_SendingCharacterEnd_starts :
    let x := freshContext Form.reset (entry 3 .routine) (letters 2) true false
    let y : Context := { x with lead := false, slots := 1 }
    choose Form.reset State.reset.subst (letters 2) x = .char .lf y 0 false ∧ y.sequence = [] ∧ y.lineEnd = none ∧
      (∃ items, y.phase = .header (.fixed .ltrs :: items)) ∧ y.headerStarted = false ∧
      ∃ z, choose Form.reset State.reset.subst (letters 2) y = .char .ltrs z 0 true :=
  ⟨rfl, rfl, rfl, ⟨_, rfl⟩, rfl, _, rfl⟩

theorem witness_TakeEndCountsTake :
    let premises := fun (s : State) (x : Context) => s.resetHeld = false ∧ s.settled ∧ s.store.waiting = [] ∧
      s.store.low = false ∧ (s.circuit 0).pacer.running = true ∧ (s.circuit 0).state = .sending ∧
      (s.circuit 0).stopNow = false ∧ (s.circuit 0).breakSeen = false ∧ (s.circuit 0).abandoned = false ∧
      (s.circuit 0).flight = some { entry := entry 3 .routine, ctx := x } ∧ s.take? 3 = some (letters 2) ∧
      (s.circuit 0).active.stopMode = .mark ∧ x.sequence = [] ∧ x.phase = .trailer .done
    let x := packing (.trailer .done)
    let y : Context := { x with stopPending := true }
    (premises (onCircuit fun c => sending c x) x ∧ ((onCircuit fun c => sending c x).circuit 0).queue = [] ∧
      x.stopPending = false) ∧ (premises (onCircuit fun c => sending c y) y ∧ y.stopPending = true) := by decide

/-- A live head behind a take that ends: at its stale limit of 60 minutes to the tick, resumed past it, and an entry of
the ended take itself, which has two references. -/
theorem witness_TakeEndCountsTake_next :
    let x := packing (.trailer .done)
    let s := fun (e : Entry) (ms : Nat) => ({ (onCircuit fun c =>
      { sending c x with queue := [e], backlog := 10, staged := { c.staged with width := some 20 } }) with
        ms := BitVec.ofNat 32 ms } : State)
    let premises := fun u : State => u.resetHeld = false ∧ u.settled ∧ u.store.waiting = [] ∧ u.store.low = false ∧
      (u.circuit 0).pacer.running = true ∧ (u.circuit 0).state = .sending ∧ (u.circuit 0).stopNow = false ∧
      (u.circuit 0).breakSeen = false ∧ (u.circuit 0).flight = some { entry := entry 3 .routine, ctx := x } ∧
      u.take? 3 = some (letters 2) ∧ (u.take? 4).isSome = true
    let late := fun u : State => (u.ms - (letters 2).readyTime.getD 0).toNat
    let resumed : Entry := { entry 4 .routine with resume := some { pos := 2, off := 0 } }
    (x.sequence = [] ∧ x.phase = .trailer .done ∧ x.stopPending = false) ∧
      (premises (s (entry 4 .routine) 3600000) ∧
        late (s (entry 4 .routine) 3600000) ≤ ((s (entry 4 .routine) 0).circuit 0).active.stale.get .routine * 60000) ∧
      (premises (s resumed 3600001) ∧ resumed.resume.isSome = true) ∧
      (premises (s (entry 3 .routine) 0) ∧ (entry 3 .routine).handle = 3 ∧ 1 < (letters 2).refs) := by decide

/-- The premises of a character time of OC0 in SENDING under these orders, with no segment bookkeeping due. -/
abbrev ordered (s : State) (stop brk : Bool) : Prop :=
  s.resetHeld = false ∧ s.settled ∧ s.store.waiting = [] ∧ s.store.low = false ∧ (s.circuit 0).pacer.running = true ∧
    (s.circuit 0).state = .sending ∧ (s.circuit 0).stopNow = stop ∧ (s.circuit 0).breakSeen = brk

/-- A complete trailer and a cut take, under STOP NOW with each stop mode, under a break, and under both. -/
theorem witness_SendingEndsUnderOrders :
    let s := fun (x : Context) (stop brk : Bool) (m : StopMode) => onCircuit fun c =>
      { sending { c with active := { c.active with stopMode := m } } x with stopNow := stop, breakSeen := brk }
    ∀ x ∈ [packing (.trailer .done), { packing .text with cut := true }],
      (x.trailerDone = true ∨ x.cut = true) ∧ ∀ m ∈ [StopMode.mark, .space, .fill], ∀ stop brk : Bool,
        ordered (s x stop brk m) stop brk ∧ (s x stop brk m).take? 3 = some (letters 2) ∧
          ((s x stop brk m).circuit 0).flight = some { entry := entry 3 .routine, ctx := x } := by decide +kernel

/-- An abandoned take under each order and under none. -/
theorem witness_SendingEndsUnderOrders_abandoned :
    let s := fun stop brk : Bool => onCircuit fun c =>
      { running c .sending with abandoned := true, stopNow := stop, breakSeen := brk }
    ∀ stop brk : Bool, ordered (s stop brk) stop brk ∧ ((s stop brk).circuit 0).flight = none := by decide

theorem witness_BreakInTakesLine :
    let x : Context := { packing .text with lineEnd := some .fold, breakIn := true }
    let s := onCircuit fun c => { sending c x with queue := [entry 4 .flash], backlog := 10 }
    s.resetHeld = false ∧ s.settled ∧ (s.circuit 0).pacer.running = true ∧ (s.circuit 0).state = .sending ∧
      (s.circuit 0).stopNow = false ∧ (s.circuit 0).breakSeen = false ∧
      (s.circuit 0).flight = some { entry := entry 3 .routine, ctx := x } ∧ s.take? 3 = some (letters 2) ∧
      x.sequence = [] ∧ x.lineEnd = some .fold ∧ x.phase = .text ∧ x.breakIn = true ∧ x.cut = false ∧
      x.read.pos < (letters 2).length ∧ (s.circuit 0).queue = entry 4 .flash :: [] ∧ inClassOrder (s.circuit 0).queue ∧
      (entry 4 .flash).prio.num < (entry 3 .routine).prio.num ∧ (s.take? 4).isSome = true ∧
      (entry 4 .flash).resume = none ∧ (s.circuit 0).active.stale.get .flash = 0 := by decide

/-! ### Witnesses: answer-back, break and restore -/

theorem witness_AnswerbackDecides :
    let hears := fun (n : Nat) (buffer : List RxChar) => onCircuit fun c =>
      { running c .identifying with window := some (window n), receiving := some { period := 18431, charLen := 15, sampleIn := 0 }, buffer := buffer }
    let s := hears 10 [.printed 0x41]
    let a : List RxChar := [.printed 0x41]
    (State.reset.resetHeld = false ∧ (State.reset.circuit 0).window = none) ∧
      (s.resetHeld = false ∧ (s.circuit 0).window = some (window 10) ∧ (s.circuit 0).receiving = some { period := 18431, charLen := 15, sampleIn := 0 } ∧
        (s.circuit 0).active.stopMode = .mark) ∧
      decodeReturn .letters FiveUnit.figs.code = .shift .figures ∧ decodeReturn .letters FiveUnit.cr.code = .ignored ∧
      (decodeReturn .letters (FiveUnit.letter 0x42).code = .collect (.printed 0x42) ∧
        a ++ [RxChar.printed 0x42] = (window 10).expected.map RxChar.printed) ∧
      (decodeReturn .letters (FiveUnit.letter 0x43).code = .collect (.printed 0x43) ∧
        (a ++ [RxChar.printed 0x43]).length = (window 10).expected.length ∧
        a ++ [RxChar.printed 0x43] ≠ (window 10).expected.map RxChar.printed) ∧
      ([RxChar.printed 0x42].length ≠ (window 10).expected.length) ∧
      (((hears 3000 a).circuit 0).window = some (window 3000) ∧ (window 3000).limit ≤ (window 3000).ticks ∧
        a.length < (window 3000).expected.length) ∧ (window 2999).ticks < (window 2999).limit := by decide

theorem witness_BreakAndRestore :
    let spaced := fun (st : CircuitState) (n : Nat) => onCircuit fun c =>
      { running c st with returnMark := false, spacing := some n }
    let marked := onCircuit fun c => { running c .broken with returnMark := true, marking := some 1000 }
    let hunting := onCircuit fun c => { running c .identifying with window := some (window 0), returnMark := true }
    (∀ st ∈ [CircuitState.sending, .identifying, .ready], (spaced st 300).resetHeld = false ∧
      ((spaced st 300).circuit 0).spacing = some 300 ∧ ((spaced st 300).circuit 0).active.breakDetect ≤ 300 ∧
      ((spaced st 300).circuit 0).state = st) ∧ 299 < ((spaced .ready 299).circuit 0).active.breakDetect ∧
      ((marked.circuit 0).state = .broken ∧ (marked.circuit 0).marking = some 1000 ∧
        (marked.circuit 0).active.restoreTime ≤ 1000) ∧ (State.reset.circuit 0).state ≠ .broken ∧
      ((marked.circuit 0).returnMark = true ∧ ((spaced .ready 0).circuit 0).returnMark = false) ∧
      ((hunting.circuit 0).returnMark = true ∧ (hunting.circuit 0).window ≠ none ∧ (hunting.circuit 0).receiving = none) :=
  by decide

/-! ### Witnesses: queues, routing and packing -/

theorem witness_EstimateArithmetic : Form.reset.inRange := by decide

/-- Copy that is shed; a queue with room; a full queue without, and with, an entry to displace; and one above its depth. -/
theorem witness_QueuePlacesAndInsertions :
    let s := onCircuit fun c => { c with active := { c.active with shed := 1 }, backlog := 1001 }
    let full := fun (p : Priority) (n : Nat) => onCircuit fun c =>
      { c with active := { c.active with depth := n }, queue := [entry 3 p], backlog := 10 }
    (inClassOrder [entry 4 .flash, entry 3 .routine] ∧ s.take? 3 = some (letters 2) ∧ (s.circuit 0).flight = none ∧
      0 < (s.circuit 0).active.shed ∧ (s.circuit 0).active.shed * 1000 < (s.circuit 0).backlog) ∧
    (¬0 < (State.reset.circuit 0).active.shed ∧
      (State.reset.circuit 0).queue.length < (State.reset.circuit 0).active.depth ∧ 0 < State.reset.freeEntries) ∧
    (((full .flash 1).circuit 0).queue.length = ((full .flash 1).circuit 0).active.depth ∧
      ∀ x ∈ ((full .flash 1).circuit 0).queue, x.prio.num ≤ Priority.flash.num ∨ x.resume ≠ none) ∧
    (((full .routine 1).circuit 0).queue.length = ((full .routine 1).circuit 0).active.depth ∧
      ((full .routine 1).circuit 0).queue = [] ++ entry 3 .routine :: [] ∧
      Priority.flash.num < (entry 3 .routine).prio.num ∧ (full .routine 1).take? 3 = some (letters 2) ∧
      1 < (letters 2).refs ∧ 3 ≠ 4) ∧
    ((full .routine 0).circuit 0).active.depth < ((full .routine 0).circuit 0).queue.length := by decide

/-- A normal take routed to OC0 alone, and one that no route takes; and a killed story with a take in flight. -/
theorem witness_RouterAndKills :
    let t : Take := { letters 0 with readyTime := none, readyClock := none, adjusted := none }
    let s : State :=
      { State.reset.putTake 3 t with
        routes := State.reset.routes.set 53 { enabled := true, circuits := 0x0001, adjust := 0 } }
    let set := ((s.lookup t.link t.category).map (·.circuits)).getD 0
    let key : StoryKey := { link := 1, slug := [0x41] }
    let u := counted .active 0 fun c => { sending c (packing .text) with queue := [entry 4 .routine], backlog := 10 }
    (s.take? 3 = some t ∧ t.disp = .normal ∧ t.refs = 0 ∧ t.story = none ∧ s.story? t.key = none ∧
      s.stories.length < 256 ∧ s.store.waiting = [] ∧ s.store.low = false) ∧
      ((∀ j : CircuitId, (set.getLsbD j.val = true ∧ (s.circuit j).active.accepting = true) ↔ j = 0) ∧
        (s.circuit 0).sheds .routine = false ∧ s.full 0 = false ∧ (s.circuit 0).flight = none) ∧
      State.reset.lookup t.link t.category = none ∧
      (Takes.wf u.store.takes = true ∧ u.refsCounted ∧ u.ofStory key 4 = true ∧
        (u.circuit 0).queue = [entry 4 .routine]) ∧
      ((u.circuit 0).flight.isSome = true ∧ u.ofStory key 3 = true ∧ Phase.cuttable .text = true) := by decide

/-- A correction of the take in record 4, queued on OC0 at the correction's priority and at another, with no route and with
one that lowers its priority and names OC0 and OC15. -/
theorem witness_CorrectionsAndAfterKill :
    let t := arriving .correction
    let y := fun st : StoryState => ({ key := t.key, state := st, sent := 0, queued := 2 } : Story)
    let s := fun (st : StoryState) (p : Priority) =>
      ((counted st 0 fun c => { c with queue := [entry 3 .flash, entry 4 p], backlog := 20 }).putTake 3
        { letters 1 with part := 9 }).putTake 5 t
    let routed := fun u : State =>
      { u with routes := State.reset.routes.set 53 { enabled := true, circuits := 0x8001, adjust := 1 } }
    ((s .killed .routine).take? 5 = some t ∧ t.disp ≠ .kill ∧ t.refs = 0 ∧
      (s .killed .routine).story? t.key = some (y .killed) ∧ (s .killed .routine).store.waiting = [] ∧
      (s .killed .routine).store.low = false) ∧
    (∀ p ∈ [Priority.routine, .urgent], ∀ u ∈ [s .active p, routed (s .active p)],
      (u.take? 5 = some t ∧ u.story? t.key = some (y .active) ∧ Takes.wf u.store.takes = true ∧ u.refsCounted ∧
        u.store.waiting = [] ∧ u.store.low = false ∧ u.entriesUsed + 16 ≤ 512) ∧
      (∀ i : CircuitId, (u.circuit i).occupancy < (u.circuit i).active.depth ∧ (u.circuit i).active.shed = 0 ∧
        (u.circuit i).flight = none) ∧
      (u.circuit 0).queue = [entry 3 .flash] ++ entry 4 p :: [] ∧
      ((u.take? 4).any fun v => v.part == t.part) = true ∧ ((u.take? 3).any fun v => v.part == t.part) = false) ∧
    (s .active .routine).lookup t.link t.category = none ∧
      ((routed (s .active .routine)).lookup t.link t.category).map (·.circuits) = some 0x8001 ∧
      adjustedPriority t.prio 1 = .deferred ∧ (State.reset.circuit 15).active.accepting = true := by decide

/-- A correction that no circuit gets. -/
theorem witness_CorrectionsAndAfterKill_unrouted :
    let t := arriving .correction
    let s := (counted .active 0 id).modStore fun st => { st with takes := [(5, t)] }
    s.take? 5 = some t ∧ (s.story? t.key).isSome = true ∧ Takes.wf s.store.takes = true ∧ s.refsCounted ∧
      s.lookup t.link t.category = none ∧ ∀ i : CircuitId, (s.circuit i).queue = [] ∧ (s.circuit i).flight = none := by
  decide

/-- A kill of an ACTIVE story with a take queued and one in flight, of a KILLED one sent to OC0 and OC15, of one sent
nowhere, and of an unknown one. -/
theorem witness_KillsCloseStories :
    let t := arriving .kill
    let s := fun (st : StoryState) (sent : CircuitSet) => (counted st sent fun c =>
      { sending c (packing .text) with queue := [entry 4 .routine], backlog := 10 }).putTake 5 t
    let none' : State := { (State.reset.putTake 5 t) with stories := [{ key := t.key, state := .active, sent := 0, queued := 0 }] }
    let fresh : State := { (State.reset.putTake 5 t) with
      routes := State.reset.routes.set 53 { enabled := true, circuits := 0x8000, adjust := 0 } }
    let set := ((fresh.lookup t.link t.category).map (·.circuits)).getD 0
    let premises := fun u : State => u.take? 5 = some t ∧ t.disp = .kill ∧ t.refs = 0 ∧
      Takes.wf u.store.takes = true ∧ u.refsCounted ∧ u.store.waiting = [] ∧ u.store.low = false ∧
      u.entriesUsed + 16 ≤ 512 ∧ ∀ i : CircuitId, (u.circuit i).occupancy < (u.circuit i).active.depth
    (premises (s .active 0) ∧ ((s .active 0).story? t.key).isSome = true) ∧
      (premises (s .killed 0x8001) ∧ ((s .killed 0x8001).story? t.key).isSome = true) ∧
      (premises none' ∧ (none'.story? t.key).isSome = true) ∧
      (fresh.take? 5 = some t ∧ fresh.story? t.key = none ∧ fresh.stories.length < 256 ∧
        (∀ j : CircuitId, (set.getLsbD j.val = true ∧ (fresh.circuit j).active.accepting = true) ↔ j = 15) ∧
        fresh.full 15 = false ∧ (fresh.circuit 15).flight = none) := by decide

/-- A full index whose least recent story has no queued copy, and one in which every story has some. -/
theorem witness_KillsCloseStories_full_index :
    let t := arriving .normal
    let stories := fun q : Nat => (List.range 256).map fun n =>
      ({ key := { link := 7, slug := [BitVec.ofNat 8 n] }, state := .active, sent := 0, queued := q } : Story)
    let s := fun q : Nat => ({ State.reset.putTake 5 t with stories := stories q } : State)
    (∀ q ∈ [0, 1], (s q).take? 5 = some t ∧ (s q).story? t.key = none ∧ (s q).stories.length = 256) ∧
      ((s 0).stories = (stories 0).take 255 ++
        { key := { link := 7, slug := [0xFF] }, state := .active, sent := 0, queued := 0 } :: []) ∧
      ∀ z ∈ (s 1).stories, z.queued ≠ 0 := by decide +kernel

/-- Words of `%`, taken as `PCT`, and letters: one that fits at the column, one that does not, one longer than the width 20
at and past the margin, one resumed within `PCT`; and a long word in progress below and at the width. -/
theorem witness_PackerTextAndTrailers_words :
    let tbl := State.reset.subst.set 0 { source := some 0x25, replacement := [0x50, 0x43, 0x54] }
    let fm : Form := { Form.reset with width := 20 }
    let t := fun n : Nat => { letters 2 with length := n, chain := [0x25 :: List.replicate (n - 1) 0x41] }
    let at' := fun (off column : Nat) => { packing .text with read := { pos := 0, off := off }, column := column }
    let w : HeldWord := { ahead := [], long := true, fresh := false }
    0 < fm.width ∧ (expansion tbl 0x25).1 = [0x50, 0x43, 0x54] ∧
      (∀ off ∈ [0, 2], ∀ column ∈ [0, 17, 18, 20], (at' off column).sequence = [] ∧ (at' off column).lineEnd = none ∧
        (at' off column).phase = .text ∧ (at' off column).word = none) ∧
      (∀ n ∈ [1, 18, 19], (at' 0 0).read.pos < (t n).length ∧ (t n).charAt 0 = 0x25) ∧
      (17 + 3 ≤ fm.width ∧ fm.width < 18 + 3 ∧ 3 + 17 ≤ fm.width ∧ fm.width < 3 + 18) ∧
      ((unitOf 0x50).needs = some (at' 0 0).shift ∧ (unitOf 0x35).needs = some .figures ∧
        ShiftCase.figures ≠ (at' 0 0).shift) ∧
      (w.long = true ∧ w.fresh = false ∧ (w.ahead.headD (expansion tbl ((t 19).charAt 0)).1)[2]? = some 0x54) := by
  decide

/-- The end of the text at the margin and past it. -/
theorem witness_PackerTextAndTrailers_trailer :
    let at' := fun column : Nat => { packing .text with read := { pos := 3, off := 0 }, column := column }
    Form.reset.inRange ∧ (∀ column ∈ [0, 4], (at' column).sequence = [] ∧ (at' column).lineEnd = none ∧
      (at' column).phase = .text ∧ (letters 2).length ≤ (at' column).read.pos) ∧ (letters 2).tag = [0x41, 0x42] ∧
      isLetter 0x41 = true ∧ isLetter 0x42 = true ∧ (letters 2).readyClock = some (0, 0) := by decide

/-- Complete line ends: of the header with and without a cut, of the text at its end, cut, with a break-in and without. -/
theorem witness_PackerTextAndTrailers_orders :
    let x := fun (ph : Phase) (k : LineEnd) (cut breakIn : Bool) (pos : Nat) =>
      ({ packing ph with lineEnd := some k, cut := cut, breakIn := breakIn, read := { pos := pos, off := 0 } } : Context)
    (∀ k ∈ [LineEnd.fold, .headerClose], ∀ cut : Bool,
      let y := x (.header [.close]) k cut false 0
      y.sequence = [] ∧ y.lineEnd = some k ∧ y.phase = .header [.close] ∧ y.cut = cut) ∧
    (∀ cut breakIn : Bool, (x .text .fold cut breakIn 2).phase = .text ∧
      (x .text .fold cut breakIn 2).read.pos < (letters 2).length ∧ (x .text .fold cut breakIn 2).cut = cut ∧
      (x .text .fold cut breakIn 2).breakIn = breakIn) ∧
    (letters 2).length ≤ (x .text .fold false true 3).read.pos ∧ 1 ≤ Form.reset.nLF ∧
    ∃ f y u b, choose Form.reset State.reset.subst (letters 2) (packing .text) = .char f y u b :=
  ⟨by decide, by decide, by decide, by decide, _, _, _, _, rfl⟩

/-- The last character of a text line end moves the line start; the one before it, and one of a header, do not (R104). -/
theorem test_line_start_at_line_end :
    let x := fun (ph : Phase) (fs : List FiveUnit) =>
      ({ packing ph with sequence := fs, lineEnd := some .fold, read := { pos := 2, off := 1 } } : Context)
    let start := fun x : Context => match choose Form.reset State.reset.subst (letters 2) x with
      | .char _ y _ _ => some y.lineStart
      | _ => none
    start (x .text [.ltrs]) = some { pos := 2, off := 1 } ∧ start (x .text [.lf, .ltrs]) = some { pos := 0, off := 0 } ∧
      start (x (.header []) [.ltrs]) = some { pos := 0, off := 0 } := by decide

theorem witness_PackerTextAndTrailers :
    let t : Take := { letters 2 with length := 2, chain := [[0x20, 0x41]] }
    let x := packing .text
    let y : Context := { x with column := 69 }
    1 ≤ Form.reset.nCR ∧ ({ x with sequence := [.lf] } : Context).sequence = FiveUnit.lf :: [] ∧
      ((FiveUnit.letter 0x41).needs = some .letters ∧ ShiftCase.letters ≠ .figures) ∧ FiveUnit.space.needs = none ∧
      (x.sequence = [] ∧ x.lineEnd = none ∧ x.phase = .text ∧ x.word = none ∧ x.read.pos < t.length ∧
        t.charAt x.read.pos = 0x20 ∧ x.column < Form.reset.width ∧ Form.reset.width ≤ y.column) ∧
      { t with chain := [[0x0A, 0x41]] }.charAt x.read.pos = 0x0A := by decide

/-! ### Witnesses: the laws kept by each step -/

/-- A circuit SENDING with an entry behind, two records in use, a serial tracked, and a tick in front of the queue. -/
def busy : State :=
  { (onCircuit fun c => { sending c (packing .text) with queue := [entry 4 .flash], backlog := 10 }).modLink 1 (fun k =>
      { k with expected := some 8, recent := [7] }) with
    pending := [.millisecondTick], stories := [{ key := { link := 1, slug := [0x41] }, state := .active, sent := 1, queued := 2 }]
    faults := State.reset.faults.set 1 (some .serialGap), watch := [.freeSegments] }.modStore fun st =>
      { st with free := 1022 }

theorem witness_StepsKeepQueues : busy.queuesOrdered ∧ busy.backlogsExact ∧ ∃ t, step busy = .next t :=
  ⟨by decide, by decide, _, rfl⟩

theorem witness_StepsKeepCircuitStates :
    busy.onlySendingHasFlight ∧ busy.windowsIdentify ∧ busy.pacersRun ∧ ∃ t, step busy = .next t :=
  ⟨by decide, by decide, by decide, _, rfl⟩

theorem witness_StepsKeepStore :
    busy.segmentsConserved ∧ busy.lowConsistent ∧ busy.holdsFollowLow ∧ ∃ t, step busy = .next t :=
  ⟨by decide, by decide, by decide, _, rfl⟩

/-- One take in flight, one queued, and one being received on IL1. -/
theorem witness_StepsKeepReferences :
    let s : State := { ((counted .active 0 fun c =>
        { sending c (packing .text) with queue := [entry 4 .routine], backlog := 10 }).putTake 5 copy).modLink 1 fun k =>
          { k with rx := .text 5 false } with pending := [.byteArrives 1 0x41] }
    Takes.wf s.store.takes = true ∧ s.onlySendingHasFlight ∧ s.framesFill ∧ s.refsExact ∧ ∃ t, step s = .next t :=
  ⟨by decide, by decide, by decide, by decide, _, rfl⟩

theorem witness_StepsKeepFaultsAndBuffers : busy.faultsOwn ∧ busy.withinCapacities ∧ ∃ t, step busy = .next t :=
  ⟨by decide, by decide, _, rfl⟩

theorem witness_StepsKeepStoriesAndSerials : busy.storiesDistinct ∧ busy.recentsBounded ∧ ∃ t, step busy = .next t :=
  ⟨by decide, by decide, _, rfl⟩

theorem witness_StepsKeepDraining : busy.settled ∧ busy.noEligibleWaits ∧ ∃ t, step busy = .next t :=
  ⟨by decide, by decide, _, rfl⟩

theorem witness_StepsKeepTablesInRange :
    busy.profilesInRange ∧ busy.linkProfilesInRange ∧ busy.settingsInRange ∧ busy.substLawful ∧
      ∃ t, step busy = .next t :=
  ⟨by decide +kernel, by decide, by decide +kernel, by decide +kernel, _, rfl⟩

end Sys2Proof.Tests
end

section
/-! The estimate arithmetic of 06_line_building_and_slot_arithmetic.md (R113 to R115). The number of widths and the final
division by 9216 are one operation, `widths`: the least multiple that covers a number. -/

namespace Sys2Proof.Machine

open Sys2Proof

/-- The stop half-bits of a stop length (R113). -/
def StopLength.halfBits : StopLength → Nat
  | .one => 2
  | .oneAndHalf => 3
  | .two => 4

theorem StopLength.charLen_eq_halfBits (s : StopLength) : s.charLen = 12 + s.halfBits := by
  cases s <;> rfl

/-- The product of R115, formed in full before the division. -/
def Form.estimateProduct (f : Form) (r : Nat) : Nat := slotsEst f r * f.stop.charLen * (f.period + 1) * 5

theorem Form.estimateProduct_eq_halfBits (f : Form) (r : Nat) :
    f.estimateProduct r = slotsEst f r * (12 + f.stop.halfBits) * (f.period + 1) * 5 := by
  rw [estimateProduct, StopLength.charLen_eq_halfBits]

theorem estimate_eq_min_widths (f : Form) (r : Nat) : estimate f r = min 65535 (widths (f.estimateProduct r) 9216) :=
  rfl

theorem widths_le_iff {r w m : Nat} (hw : 0 < w) : widths r w ≤ m ↔ r ≤ m * w := by
  rw [widths, Nat.div_le_iff_le_mul hw]
  omega

theorem widths_covers {r w : Nat} (hw : 0 < w) : r ≤ widths r w * w := (widths_le_iff hw).1 le_rfl

theorem widths_pos {r w : Nat} (hr : 0 < r) (hw : 0 < w) : 0 < widths r w :=
  Nat.pos_of_mul_pos_right (hr.trans_le (widths_covers hw))

theorem Form.two_le_lineEndSlots {f : Form} (hf : f.inRange) : 2 ≤ f.lineEndSlots := by
  obtain ⟨-, -, ⟨hCR, -⟩, ⟨hLF, -⟩, -⟩ := hf
  unfold lineEndSlots
  omega

theorem Form.fourteen_le_slotsEst {f : Form} (hf : f.inRange) (r : Nat) : 14 ≤ slotsEst f r := by
  have hE := two_le_lineEndSlots hf
  unfold slotsEst
  omega

theorem Form.estimateProduct_pos {f : Form} (hf : f.inRange) (r : Nat) : 0 < f.estimateProduct r := by
  have hSlots : 0 < slotsEst f r := (fourteen_le_slotsEst hf r).trans_lt' (by decide)
  rw [estimateProduct_eq_halfBits]
  positivity

theorem estimate_ne_zero {f : Form} (hf : f.inRange) (r : Nat) : estimate f r ≠ 0 := by
  have hMs : 0 < widths (f.estimateProduct r) 9216 := widths_pos (Form.estimateProduct_pos hf r) (by decide)
  rw [estimate_eq_min_widths]
  omega

/-- Settles O47: the two witnesses are the values of `widths` that the estimate is made of. -/
theorem estimateArithmetic : Obligations.EstimateArithmetic := by
  refine ⟨fun f r hf => ?_, by decide⟩
  have hWidth : 0 < f.width := by
    obtain ⟨-, ⟨hw, -⟩, -⟩ := hf
    omega
  have hTrailer : 14 ≤ 8 + 3 * f.lineEndSlots := by
    have hE := Form.two_le_lineEndSlots hf
    omega
  have hPeriod : 4608 ≤ f.period + 1 := Nat.succ_le_succ hf.1.1
  have hCovers : f.estimateProduct r ≤ widths (f.estimateProduct r) 9216 * 9216 := widths_covers (by decide)
  have hLeast (m : Nat) (hm : f.estimateProduct r ≤ m * 9216) : widths (f.estimateProduct r) 9216 ≤ m :=
    (widths_le_iff (by decide)).2 hm
  have hHeld := estimate_eq_min_widths f r
  rw [Form.estimateProduct_eq_halfBits] at hCovers hLeast hHeld
  refine ⟨widths r f.width, _, ⟨widths_covers hWidth, fun m => (widths_le_iff hWidth).2⟩,
    ⟨hTrailer, hPeriod, hCovers, hLeast⟩, ?_, ?_, estimate_ne_zero hf r⟩
  · rw [hHeld]
    split <;> omega
  · rw [hHeld]
    exact Nat.min_le_left ..

end Sys2Proof.Machine
end

section
/-! IDENTIFY and QUEUE READ of 09_service_requests.md (R160, R168). Both only read: what each one performs is stated
once, with the request at the head of the queue, and `State.request_answers` turns it into the answer of the idle
Service Unit. -/

namespace Sys2Proof.Machine

open Sys2Proof

/-! ### IDENTIFY (R160) -/

@[simp] theorem State.withHead_identity (s : State) (r : Request) : (s.withHead r).identity = s.identity := rfl

theorem State.perform_identify (s : State) : s.perform 0x01 [] = .ok s.identity s := rfl

/-- Settles O22: the values read with the request at the head are those of the state before it. -/
theorem identifyAnswers : Obligations.IdentifyAnswers := by
  intro s h hi
  have hp := State.perform_identify (s.withHead (ReqHead.request h 0x01 []))
  rw [State.withHead_identity] at hp
  exact congrArg Host.Outcome.next (State.request_answers hi hi.2.1 hi.2.2 hp)

/-! ### The positions of a circuit's queue (R78) -/

@[simp] theorem State.withHead_queueValues (s : State) (r : Request) (i : CircuitId) (n : Nat) :
    (s.withHead r).queueValues i n = s.queueValues i n := rfl

theorem State.queueValues_flight {s : State} {i : CircuitId} {f : Flight} {t : Take}
    (hf : (s.circuit i).flight = some f) (ht : s.take? f.entry.handle = some t) :
    s.queueValues i 0 = some (flightValues f t) := by
  simp [queueValues, hf, ht]

theorem State.queueValues_no_flight {s : State} {i : CircuitId} (hf : (s.circuit i).flight = none) :
    s.queueValues i 0 = none := by
  simp [queueValues, hf]

theorem State.queueValues_entry {s : State} {i : CircuitId} {n : Nat} {e : Entry} {t : Take}
    (he : (s.circuit i).queue[n]? = some e) (ht : s.take? e.handle = some t) :
    s.queueValues i (n + 1) = some (entryValues e t) := by
  simp [queueValues, he, ht]

theorem State.queueValues_past_end {s : State} {i : CircuitId} {n : Nat} (hn : (s.circuit i).queue.length < n) :
    s.queueValues i n = none := by
  obtain ⟨m, rfl⟩ := Nat.exists_eq_add_one_of_ne_zero (Nat.ne_zero_of_lt hn)
  have he : (s.circuit i).queue[m]? = none := List.getElem?_eq_none (Nat.le_of_lt_succ hn)
  simp [queueValues, he]

/-! ### QUEUE READ (R168) -/

theorem circuitOf_eq {index : Byte} {i : CircuitId} (hx : index.toNat = i.val) : circuitOf index.toNat = i := by
  rw [hx]
  exact Fin.ofNat_val_eq_self i

theorem State.perform_queueRead_badIndex (s : State) {index pos : Byte} (hx : 16 ≤ index.toNat) :
    s.perform 0x07 [index, pos] = s.refuse .badIndex := by
  simp [perform, queueRead, hx]

theorem State.perform_queueRead_some {s : State} {i : CircuitId} {index pos : Byte} {v : List Byte}
    (hx : index.toNat = i.val) (hv : s.queueValues i pos.toNat = some v) :
    s.perform 0x07 [index, pos] = .ok v s := by
  have hn : ¬16 ≤ index.toNat := by omega
  simp [perform, queueRead, hn, circuitOf_eq hx, hv]

theorem State.perform_queueRead_none {s : State} {i : CircuitId} {index pos : Byte} (hx : index.toNat = i.val)
    (hv : s.queueValues i pos.toNat = none) : s.perform 0x07 [index, pos] = s.refuse .notFound := by
  have hn : ¬16 ≤ index.toNat := by omega
  simp [perform, queueRead, hn, circuitOf_eq hx, hv]

section
variable {s : State} {h : ReqHead} {i : CircuitId} {index pos : Byte}

theorem exec_queueRead_badIndex (hi : s.serviceIdle) (hx : 16 ≤ index.toNat) :
    exec (.queueRead h index pos) s = .next (s.answer h 0x07 [index, pos] .badIndex false []) :=
  congrArg Host.Outcome.next (State.request_refused hi (State.perform_queueRead_badIndex _ hx))

theorem exec_queueRead_some {v : List Byte} (hi : s.serviceIdle) (hx : index.toNat = i.val)
    (hv : s.queueValues i pos.toNat = some v) :
    exec (.queueRead h index pos) s = .next (s.answer h 0x07 [index, pos] .done false v) :=
  congrArg Host.Outcome.next
    (State.request_answers hi hi.2.1 hi.2.2 (State.perform_queueRead_some hx (by rwa [State.withHead_queueValues])))

theorem exec_queueRead_none (hi : s.serviceIdle) (hx : index.toNat = i.val)
    (hv : s.queueValues i pos.toNat = none) :
    exec (.queueRead h index pos) s = .next (s.answer h 0x07 [index, pos] .notFound false []) :=
  congrArg Host.Outcome.next
    (State.request_refused hi (State.perform_queueRead_none hx (by rwa [State.withHead_queueValues])))

end

/-- Settles O37: each position's values or their absence decide the answer; a queued entry's bytes are compared with and
without a resume position, and with and without a ready time. -/
theorem queueReadAnswers : Obligations.QueueReadAnswers := by
  intro s h index pos hi
  refine ⟨exec_queueRead_badIndex hi, fun i hx => ⟨?flight, ?entry, ?absent⟩⟩
  case flight =>
    rintro f t rfl hf ht
    exact exec_queueRead_some hi hx (State.queueValues_flight hf ht)
  case entry =>
    intro n e t hn he ht
    refine exec_queueRead_some hi hx ?_
    rw [hn, State.queueValues_entry he ht]
    cases hr : e.resume <;> cases hc : t.readyClock <;> simp [entryValues, num1, num2, sw, hr, hc]
  case absent =>
    rintro (⟨rfl, hf⟩ | ⟨-, hn⟩)
    · exact exec_queueRead_none hi hx (State.queueValues_no_flight hf)
    · exact exec_queueRead_none hi hx (State.queueValues_past_end hn)

end Sys2Proof.Machine
end

section
/-! WATCH ENTER and WATCH READ of 10_watch_list_faults_and_notices.md (R172 to R174). Three bytes name a watch point
exactly when they are its bytes, so reading a list gives back the points whose bytes it holds. Clearing is a fold over
the list: what clearing one point does to a counter and what it leaves alone are stated once and carried along the
fold. -/

namespace Sys2Proof.Machine

open Sys2Proof

/-! ### Bytes that name a watch point (R172, R184) -/

/-- Counter ids count from 1 along the list of counters. -/
theorem counterId_of_getElem? {α : Type} {ps : List α} {ids : α → Byte}
    (hids : ∀ n, (hn : n < ps.length) → (ids ps[n]).toNat = n + 1) {id : Byte} {p : α}
    (h : (ps[id.toNat - 1]?.filter fun _ => decide (id ≠ 0x00)) = some p) : ids p = id := by
  obtain ⟨hp, hid⟩ := Option.filter_eq_some_iff.1 h
  obtain ⟨hn, rfl⟩ := List.getElem?_eq_some_iff.1 hp
  have hid0 : id.toNat ≠ 0 := fun h0 => of_decide_eq_true hid (BitVec.eq_of_toNat_eq h0)
  refine BitVec.eq_of_toNat_eq ((hids _ hn).trans ?_)
  omega

theorem linkPoint_eq_some_iff {id : Byte} {p : LinkPoint} : linkPoint id = some p ↔ p.id = id := by
  refine ⟨counterId_of_getElem? (by decide), ?_⟩
  rintro rfl
  cases p <;> rfl

theorem circuitPoint_eq_some_iff {id : Byte} {p : CircuitPoint} : circuitPoint id = some p ↔ p.id = id := by
  refine ⟨counterId_of_getElem? (by decide), ?_⟩
  rintro rfl
  cases p <;> rfl

theorem CircuitPoint.id_ne_gauge (p : CircuitPoint) : p.id ≠ 0x10 ∧ p.id ≠ 0x11 := by
  cases p <;> decide

theorem ofNat_linkOf {index : Byte} (h : index.toNat < 8) : BitVec.ofNat 8 (linkOf index.toNat).val = index := by
  simp [linkOf, Fin.ofNat, Nat.mod_eq_of_lt h]

theorem ofNat_circuitOf {index : Byte} (h : index.toNat < 16) :
    BitVec.ofNat 8 (circuitOf index.toNat).val = index := by
  simp [circuitOf, Fin.ofNat, Nat.mod_eq_of_lt h]

theorem toNat_ofNat_link (l : LinkId) : (BitVec.ofNat 8 l.val).toNat = l.val :=
  Nat.mod_eq_of_lt (l.isLt.trans (by decide))

theorem toNat_ofNat_circuit (i : CircuitId) : (BitVec.ofNat 8 i.val).toNat = i.val :=
  Nat.mod_eq_of_lt (i.isLt.trans (by decide))

theorem linkWatch_eq_some {index id : Byte} {p : WatchPoint} (h : linkWatch index id = some p) :
    p.bytes = [0x01, index, id] := by
  unfold linkWatch at h
  split_ifs at h with hx
  obtain ⟨q, hq, rfl⟩ := Option.map_eq_some_iff.1 h
  simp [WatchPoint.bytes, ofNat_linkOf hx, linkPoint_eq_some_iff.1 hq]

theorem circuitWatch_eq_some {index id : Byte} {p : WatchPoint} (h : circuitWatch index id = some p) :
    p.bytes = [0x02, index, id] := by
  unfold circuitWatch at h
  split_ifs at h with hx hDepth hBacklog
  · cases h
    simp [WatchPoint.bytes, ofNat_circuitOf hx, hDepth]
  · cases h
    simp [WatchPoint.bytes, ofNat_circuitOf hx, hBacklog]
  · obtain ⟨q, hq, rfl⟩ := Option.map_eq_some_iff.1 h
    simp [WatchPoint.bytes, ofNat_circuitOf hx, circuitPoint_eq_some_iff.1 hq]

theorem storeWatch_eq_some {index id : Byte} {p : WatchPoint} (h : storeWatch index id = some p) :
    p.bytes = [0x03, index, id] := by
  unfold storeWatch at h
  split_ifs at h <;> cases h <;> simp [WatchPoint.bytes, *]

theorem serviceWatch_eq_some {index id : Byte} {p : WatchPoint} (h : serviceWatch index id = some p) :
    p.bytes = [0x04, index, id] := by
  unfold serviceWatch at h
  split_ifs at h <;> cases h <;> simp [WatchPoint.bytes, *]

theorem linkWatch_of_index {l : LinkId} {index : Byte} (hx : index.toNat = l.val) (id : Byte) :
    linkWatch index id = (linkPoint id).map (.link l) := by
  have hl : linkOf l.val = l := Fin.ofNat_val_eq_self l
  simp [linkWatch, hx, hl]

theorem circuitWatch_of_index {i : CircuitId} {index : Byte} (hx : index.toNat = i.val) (id : Byte) :
    circuitWatch index id =
      if id = 0x10 then some (.queueDepth i) else if id = 0x11 then some (.backlog i)
      else (circuitPoint id).map (.circuit i) := by
  rw [circuitWatch, circuitOf_eq hx, hx, if_pos i.isLt]

theorem watchPoint_bytes {kind index id : Byte} {p : WatchPoint} (h : p.bytes = [kind, index, id]) :
    watchPoint kind index id = some p := by
  cases p with
  | link l p =>
    cases h
    exact (linkWatch_of_index (toNat_ofNat_link l) p.id).trans (by rw [linkPoint_eq_some_iff.2 rfl, Option.map_some])
  | circuit i p =>
    cases h
    obtain ⟨hDepth, hBacklog⟩ := p.id_ne_gauge
    refine (circuitWatch_of_index (toNat_ofNat_circuit i) p.id).trans ?_
    rw [if_neg hDepth, if_neg hBacklog, circuitPoint_eq_some_iff.2 rfl, Option.map_some]
  | queueDepth i | backlog i =>
    cases h
    exact circuitWatch_of_index (toNat_ofNat_circuit i) _
  | _ =>
    cases h
    rfl

theorem watchPoint_eq_some_iff {kind index id : Byte} {p : WatchPoint} :
    watchPoint kind index id = some p ↔ p.bytes = [kind, index, id] := by
  refine ⟨fun h => ?_, watchPoint_bytes⟩
  unfold watchPoint at h
  split_ifs at h with hLink hCircuit hStore hService
  · rw [hLink, linkWatch_eq_some h]
  · rw [hCircuit, circuitWatch_eq_some h]
  · rw [hStore, storeWatch_eq_some h]
  · rw [hService, serviceWatch_eq_some h]

/-! ### Reading a list of points (R173) -/

theorem WatchPoint.exists_bytes (p : WatchPoint) : ∃ kind index id, p.bytes = [kind, index, id] := by
  cases p <;> exact ⟨_, _, _, rfl⟩

theorem readPoints_bytes_append (ps : List WatchPoint) (n : Nat) (more : List Byte) :
    readPoints (ps.length + n) (ps.flatMap WatchPoint.bytes ++ more) = (readPoints n more).map (ps ++ ·) := by
  induction ps with
  | nil => simp
  | cons p ps ih =>
    obtain ⟨kind, index, id, hp⟩ := p.exists_bytes
    rw [List.length_cons, Nat.add_right_comm, List.flatMap_cons, hp]
    simp only [List.cons_append, List.nil_append, readPoints, watchPoint_eq_some_iff.2 hp, ih]
    cases readPoints n more <;> rfl

theorem readPoints_short {n : Nat} {bytes : List Byte} (h : bytes.length < 3 * n) : readPoints n bytes = none := by
  induction n generalizing bytes with
  | zero => omega
  | succ n ih =>
    match bytes with
    | [] | [_] | [_, _] => rfl
    | kind :: index :: id :: rest =>
      have hrest : readPoints n rest = none := ih (by simp only [List.length_cons] at h; omega)
      simp [readPoints, hrest]

theorem readPoints_nameless {kind index id : Byte} (h : ∀ p : WatchPoint, p.bytes ≠ [kind, index, id]) (n : Nat)
    (more : List Byte) : readPoints (n + 1) (kind :: index :: id :: more) = none := by
  have hnone : watchPoint kind index id = none :=
    Option.eq_none_iff_forall_ne_some.2 fun p hp => h p (watchPoint_eq_some_iff.1 hp)
  simp [readPoints, hnone]

/-! ### WATCH ENTER (R173) -/

theorem State.perform_watchEnter_some {s : State} {n : Byte} {bytes : List Byte} {ps : List WatchPoint}
    (hn : n.toNat ≤ 20) (hp : readPoints n.toNat bytes = some ps) :
    s.perform 0x08 (n :: bytes) = .ok [n] { s with watch := ps } := by
  have hle : ¬Config.watchPoints < n.toNat := Nat.not_lt.2 hn
  simp [perform, watchEnter, hle, hp, num1]

theorem State.perform_watchEnter_refused {s : State} {n : Byte} {bytes : List Byte}
    (h : 20 < n.toNat ∨ readPoints n.toNat bytes = none) : s.perform 0x08 (n :: bytes) = s.refuse .badValue := by
  rcases h with hn | hp
  · have hlt : Config.watchPoints < n.toNat := hn
    simp [perform, watchEnter, hlt]
  · simp [perform, watchEnter, hp]

section
variable {s : State} {h : ReqHead} {n : Byte} {bytes : List Byte}

theorem exec_watchEnter_some {ps : List WatchPoint} (hi : s.serviceIdle) (hn : n.toNat ≤ 20)
    (hp : readPoints n.toNat bytes = some ps) :
    exec (.watchEnter h n bytes) s = .next ({ s with watch := ps }.answer h 0x08 (n :: bytes) .done false [n]) :=
  congrArg Host.Outcome.next
    (State.request_answers (t := { s with watch := ps }) hi hi.2.1 hi.2.2 (State.perform_watchEnter_some hn hp))

theorem exec_watchEnter_refused (hi : s.serviceIdle) (hr : 20 < n.toNat ∨ readPoints n.toNat bytes = none) :
    exec (.watchEnter h n bytes) s = .next (s.answer h 0x08 (n :: bytes) .badValue false []) :=
  congrArg Host.Outcome.next (State.request_refused hi (State.perform_watchEnter_refused hr))

end

/-! ### What clearing leaves alone (R174) -/

/-- The state with every counter, and the links and circuits that hold some, as in another state. -/
def State.withCountersOf (s t : State) : State :=
  { s with
    links := t.links, circuits := t.circuits, store := { s.store with reserveGrants := t.store.reserveGrants }
    requestsDone := t.requestsDone, requestsTimedOut := t.requestsTimedOut }

theorem State.clearPoint_eq_withCountersOf (s : State) (q : WatchPoint) :
    s.clearPoint q = s.withCountersOf (s.clearPoint q) := by
  cases q <;> rfl

theorem State.clearPoint_link (s : State) (q : WatchPoint) (l : LinkId) :
    (s.clearPoint q).link l = { s.link l with counters := ((s.clearPoint q).link l).counters } := by
  cases q with
  | link m p =>
    rw [clearPoint, modLink_link]
    split <;> rfl
  | _ => rfl

theorem State.clearPoint_circuit (s : State) (q : WatchPoint) (i : CircuitId) :
    (s.clearPoint q).circuit i = { s.circuit i with counters := ((s.clearPoint q).circuit i).counters } := by
  cases q with
  | circuit j p =>
    rw [clearPoint, modCircuit_circuit]
    split <;> rfl
  | _ => rfl

theorem State.clearWatch_eq_withCountersOf (s : State) : s.clearWatch = s.withCountersOf s.clearWatch :=
  List.foldlRecOn (motive := fun t => t = s.withCountersOf t) s.watch _ rfl fun t ht q _ =>
    calc t.clearPoint q = t.withCountersOf (t.clearPoint q) := t.clearPoint_eq_withCountersOf q
      _ = (s.withCountersOf t).withCountersOf (t.clearPoint q) := by rw [← ht]
      _ = s.withCountersOf (t.clearPoint q) := rfl

theorem State.clearWatch_link (s : State) (l : LinkId) :
    s.clearWatch.link l = { s.link l with counters := (s.clearWatch.link l).counters } :=
  List.foldlRecOn (motive := fun t : State => t.link l = { s.link l with counters := (t.link l).counters }) s.watch _
    rfl fun t ht q _ => by rw [t.clearPoint_link q l, ht]

theorem State.clearWatch_circuit (s : State) (i : CircuitId) :
    s.clearWatch.circuit i = { s.circuit i with counters := (s.clearWatch.circuit i).counters } :=
  List.foldlRecOn (motive := fun t : State => t.circuit i = { s.circuit i with counters := (t.circuit i).counters })
    s.watch _ rfl fun t ht q _ => by rw [t.clearPoint_circuit q i, ht]

/-! ### What clearing does to a counter (R174) -/

/-- A counter that clearing its own point sets to 0, and that clearing another leaves, is 0 after the list is cleared
exactly where the list names it. -/
theorem State.clearWatch_counter {f : State → Counter} {p : WatchPoint}
    (hf : ∀ t q, f (State.clearPoint t q) = if q = p then 0 else f t) (s : State) :
    f s.clearWatch = if p ∈ s.watch then 0 else f s := by
  have hfold (ps : List WatchPoint) (t : State) : f (ps.foldl clearPoint t) = if p ∈ ps then 0 else f t := by
    induction ps generalizing t with
    | nil => simp
    | cons q ps ih =>
      rw [List.foldl_cons, ih, hf]
      by_cases hq : q = p
      · simp [hq]
      · simp [hq, Ne.symm hq]
  exact hfold s.watch s

theorem LinkCounters.get_set (c : LinkCounters) (p q : LinkPoint) (v : Counter) :
    (c.set q v).get p = if q = p then v else c.get p := by
  cases q <;> cases p <;> rfl

theorem CircuitCounters.get_set (c : CircuitCounters) (p q : CircuitPoint) (v : Counter) :
    (c.set q v).get p = if q = p then v else c.get p := by
  cases q <;> cases p <;> rfl

theorem State.clearPoint_linkCounter (l : LinkId) (p : LinkPoint) (t : State) (q : WatchPoint) :
    ((t.clearPoint q).link l).counters.get p = if q = .link l p then 0 else (t.link l).counters.get p := by
  cases q with
  | link m r =>
    rw [clearPoint, modLink_link]
    by_cases hm : l = m
    · subst hm
      simp [LinkCounters.get_set]
    · simp [hm, Ne.symm hm]
  | _ => rfl

theorem State.clearPoint_circuitCounter (i : CircuitId) (p : CircuitPoint) (t : State) (q : WatchPoint) :
    ((t.clearPoint q).circuit i).counters.get p = if q = .circuit i p then 0 else (t.circuit i).counters.get p := by
  cases q with
  | circuit j r =>
    rw [clearPoint, modCircuit_circuit]
    by_cases hj : i = j
    · subst hj
      simp [CircuitCounters.get_set]
    · simp [hj, Ne.symm hj]
  | _ => rfl

theorem State.clearWatch_linkCounter (s : State) (l : LinkId) (p : LinkPoint) :
    (s.clearWatch.link l).counters.get p = if .link l p ∈ s.watch then 0 else (s.link l).counters.get p :=
  clearWatch_counter (f := fun t => (t.link l).counters.get p) (clearPoint_linkCounter l p) s

theorem State.clearWatch_circuitCounter (s : State) (i : CircuitId) (p : CircuitPoint) :
    (s.clearWatch.circuit i).counters.get p = if .circuit i p ∈ s.watch then 0 else (s.circuit i).counters.get p :=
  clearWatch_counter (f := fun t => (t.circuit i).counters.get p) (clearPoint_circuitCounter i p) s

theorem State.clearWatch_reserveGrants (s : State) :
    s.clearWatch.store.reserveGrants = if .reserveGrants ∈ s.watch then 0 else s.store.reserveGrants :=
  clearWatch_counter (f := (·.store.reserveGrants)) (fun _ q => by cases q <;> rfl) s

theorem State.clearWatch_requestsDone (s : State) :
    s.clearWatch.requestsDone = if .requestsDone ∈ s.watch then 0 else s.requestsDone :=
  clearWatch_counter (f := (·.requestsDone)) (fun _ q => by cases q <;> rfl) s

theorem State.clearWatch_requestsTimedOut (s : State) :
    s.clearWatch.requestsTimedOut = if .requestsTimedOut ∈ s.watch then 0 else s.requestsTimedOut :=
  clearWatch_counter (f := (·.requestsTimedOut)) (fun _ q => by cases q <;> rfl) s

theorem State.clearWatch_frame (s : State) :
    s.clearWatch = { s with
      links := s.clearWatch.links, circuits := s.clearWatch.circuits
      store := { s.store with reserveGrants := if .reserveGrants ∈ s.watch then 0 else s.store.reserveGrants }
      requestsDone := if .requestsDone ∈ s.watch then 0 else s.requestsDone
      requestsTimedOut := if .requestsTimedOut ∈ s.watch then 0 else s.requestsTimedOut } := by
  rw [← clearWatch_reserveGrants, ← clearWatch_requestsDone, ← clearWatch_requestsTimedOut]
  exact s.clearWatch_eq_withCountersOf

theorem State.clearWatch_requests (s : State) : s.clearWatch.requests = s.requests := by
  rw [clearWatch_eq_withCountersOf]
  rfl

theorem State.clearWatch_settled {s : State} (h : s.settled) : s.clearWatch.settled := by
  refine settled_of_eq h ?_ fun l => ?_
  · rw [clearWatch_eq_withCountersOf]
    rfl
  · rw [clearWatch_link]

/-! ### WATCH READ (R174) -/

theorem State.withHead_clearPoint (s : State) (r : Request) (q : WatchPoint) :
    (s.withHead r).clearPoint q = (s.clearPoint q).withHead r := by
  cases q <;> rfl

theorem State.withHead_clearWatch (s : State) (r : Request) : (s.withHead r).clearWatch = s.clearWatch.withHead r :=
  List.foldl_hom (State.withHead · r) fun t q => t.withHead_clearPoint r q

@[simp] theorem State.withHead_watchValues (s : State) (r : Request) : (s.withHead r).watchValues = s.watchValues := by
  have hp (p : WatchPoint) : (s.withHead r).pointValue p = s.pointValue p := by cases p <;> rfl
  simp [watchValues, hp]

theorem State.perform_watchRead (s : State) (clear : Byte) : s.perform 0x09 [clear] = s.watchRead clear := rfl

theorem State.perform_watchRead_badFlag (s : State) {clear : Byte} (h0 : clear ≠ 0x00) (h1 : clear ≠ 0x01) :
    s.perform 0x09 [clear] = s.refuse .badValue := by
  rw [perform_watchRead, watchRead, if_pos (not_or.2 ⟨h0, h1⟩)]

theorem State.perform_watchRead_empty {s : State} {clear : Byte} (hc : clear = 0x00 ∨ clear = 0x01)
    (hw : s.watch = []) : s.perform 0x09 [clear] = s.refuse .noWatchList := by
  rw [perform_watchRead, watchRead, if_neg (not_not.2 hc), hw]
  rfl

theorem State.perform_watchRead_keep {s : State} (hw : s.watch ≠ []) :
    s.perform 0x09 [0x00] = .ok s.watchValues s := by
  simp [perform, watchRead, hw]

theorem State.perform_watchRead_clear {s : State} (hw : s.watch ≠ []) :
    s.perform 0x09 [0x01] = .ok s.watchValues s.clearWatch := by
  simp [perform, watchRead, hw]

section
variable {s : State} {h : ReqHead} {clear : Byte}

theorem exec_watchRead_badFlag (hi : s.serviceIdle) (h0 : clear ≠ 0x00) (h1 : clear ≠ 0x01) :
    exec (.watchRead h clear) s = .next (s.answer h 0x09 [clear] .badValue false []) :=
  congrArg Host.Outcome.next (State.request_refused hi (State.perform_watchRead_badFlag _ h0 h1))

theorem exec_watchRead_empty (hi : s.serviceIdle) (hc : clear = 0x00 ∨ clear = 0x01) (hw : s.watch = []) :
    exec (.watchRead h clear) s = .next (s.answer h 0x09 [clear] .noWatchList false []) :=
  congrArg Host.Outcome.next (State.request_refused hi (State.perform_watchRead_empty hc hw))

theorem exec_watchRead_keep (hi : s.serviceIdle) (hw : s.watch ≠ []) :
    exec (.watchRead h 0x00) s = .next (s.answer h 0x09 [0x00] .done false s.watchValues) := by
  have hp := State.perform_watchRead_keep (s := s.withHead (ReqHead.request h 0x09 [0x00])) hw
  rw [State.withHead_watchValues] at hp
  exact congrArg Host.Outcome.next (State.request_answers hi hi.2.1 hi.2.2 hp)

theorem exec_watchRead_clear (hi : s.serviceIdle) (hw : s.watch ≠ []) :
    exec (.watchRead h 0x01) s = .next (s.clearWatch.answer h 0x09 [0x01] .done false s.watchValues) := by
  have hp := State.perform_watchRead_clear (s := s.withHead (ReqHead.request h 0x09 [0x01])) hw
  rw [State.withHead_watchValues, State.withHead_clearWatch] at hp
  exact congrArg Host.Outcome.next
    (State.request_answers hi (s.clearWatch_requests.trans hi.2.1) (State.clearWatch_settled hi.2.2) hp)

end

theorem State.clearWatch_answer_requestsDone {s : State} (hd : .requestsDone ∈ s.watch) (h : ReqHead) (kind : Byte)
    (ps : List Byte) (x : Result) (limited : Bool) (v : List Byte) :
    (s.clearWatch.answer h kind ps x limited v).requestsDone = 1 := by
  rw [answer, complete_requestsDone, clearWatch_requestsDone, if_pos hd]
  rfl

/-- Settles O20: WATCH ENTER by what its bytes read as, WATCH READ by its flag and the list. -/
theorem watchListRequests : Obligations.WatchListRequests := by
  refine ⟨fun s h n hi => ⟨?taken, ?short, ?nameless⟩, fun s h clear hi => ⟨?badFlag, ?empty, ?keep, ?clear⟩⟩
  case taken =>
    intro ps more hn hle
    have hp := readPoints_bytes_append ps 0 more
    rw [Nat.add_zero, hn] at hp
    exact exec_watchEnter_some hi hle (hp.trans (by simp [readPoints]))
  case short =>
    exact fun bytes hb => exec_watchEnter_refused hi (hb.imp_right readPoints_short)
  case nameless =>
    intro ps kind index id more hn hp
    obtain ⟨m, hm⟩ := Nat.exists_eq_add_of_lt hn
    refine exec_watchEnter_refused hi (.inr ?_)
    rw [hm, Nat.add_assoc, readPoints_bytes_append, readPoints_nameless hp, Option.map_none]
  case badFlag => exact exec_watchRead_badFlag hi
  case empty => exact exec_watchRead_empty hi
  case keep =>
    rintro rfl hw
    exact exec_watchRead_keep hi hw
  case clear =>
    rintro rfl hw
    exact ⟨s.clearWatch, exec_watchRead_clear hi hw,
      s.clearWatch_linkCounter, s.clearWatch_circuitCounter, s.clearWatch_link, s.clearWatch_circuit,
      s.clearWatch_frame, fun hd => State.clearWatch_answer_requestsDone hd h _ _ _ _ _⟩

end Sys2Proof.Machine
end

section
/-! FAULT READ and ATTENTION of 10_watch_list_faults_and_notices.md (R177, R178). ATTENTION is read off the fault
summary, so what an answer does to the summary, by a reply that overflows, says what FAULT READ and COPY RESTART do to
ATTENTION. -/

namespace Sys2Proof.Machine

open Sys2Proof

/-! ### ATTENTION and the fault summary (R177) -/

theorem State.attention_iff (s : State) : s.attention = true ↔ ∃ src : Fin 26, s.faults[src] ≠ none := by
  simp only [attention, List.any_eq_true, Vector.mem_toList_iff, Option.isSome_iff_ne_none]
  constructor
  · rintro ⟨f, hf, hne⟩
    obtain ⟨n, hn, rfl⟩ := Vector.mem_iff_getElem.1 hf
    exact ⟨⟨n, hn⟩, hne⟩
  · rintro ⟨src, hne⟩
    exact ⟨_, Vector.getElem_mem src.isLt, hne⟩

theorem State.attention_congr {s t : State} (h : t.faults = s.faults) : t.attention = s.attention := by
  rw [attention, attention, h]

theorem State.setFault_attention (s : State) (src : Fin 26) (code : FaultCode) :
    (s.setFault src code).attention = true :=
  (attention_iff _).2 ⟨src, by rw [setFault_get, if_pos rfl]; exact Option.some_ne_none code⟩

/-! ### Frames dropped at a full reply queue (R159, R180) -/

theorem State.queueFrame_faults (s : State) (l : LinkId) (frame : List Byte) (src : Fin 26) :
    (s.queueFrame l frame).faults[src] =
      if 4 ≤ (s.link l).replies.length ∧ src = 25 then some .replyOverflow else s.faults[src] := by
  rcases s.queueFrame_cases l frame with ⟨hlt, he⟩ | ⟨hle, he⟩
  · have hnot : ¬4 ≤ (s.link l).replies.length := Nat.not_le.2 hlt
    rw [he, if_neg fun hf => hnot hf.1]
    rfl
  · have hfull : 4 ≤ (s.link l).replies.length := hle
    simp only [he, setFault_get, hfull, true_and]
    rfl

theorem State.queueFrame_attention {s : State} (hs : s.attention = true) (l : LinkId) (frame : List Byte) :
    (s.queueFrame l frame).attention = true := by
  rcases s.queueFrame_cases l frame with ⟨-, he⟩ | ⟨-, he⟩ <;> rw [he]
  · exact hs
  · exact setFault_attention ..

theorem State.notice_attention {s : State} (hs : s.attention = true) (kind : Byte) (fields : List Byte) :
    (s.notice kind fields).attention = true :=
  queueFrame_attention (s := { s with noticeNumber := s.noticeNumber + 1 }) hs s.settings.deskLink _

theorem State.recordFault_attention (s : State) (src : Fin 26) (code : FaultCode) :
    (s.recordFault src code).attention = true := by
  rcases s.recordFault_cases src code with ⟨-, -, he⟩ | he <;> rw [he]
  · exact notice_attention (s.setFault_attention src code) ..
  · exact s.setFault_attention src code

theorem State.answer_faults (s : State) (h : ReqHead) (kind : Byte) (ps : List Byte) (x : Result) (limited : Bool)
    (v : List Byte) (src : Fin 26) :
    (s.answer h kind ps x limited v).faults[src] =
      if 4 ≤ (s.link h.link).replies.length ∧ src = 25 then some .replyOverflow else s.faults[src] :=
  queueFrame_faults _ h.link _ src

/-! ### FAULT READ (R178) -/

theorem State.faultCodes_eq_ofFn (s : State) :
    s.faultCodes = List.ofFn fun src : Fin 26 => faultByte s.faults[src] := by
  refine List.ext_getElem (by simp [faultCodes]) fun n hn hn' => ?_
  simp only [faultCodes, List.getElem_ofFn, List.getElem_map, Vector.getElem_toList, Fin.getElem_fin]

theorem State.perform_faultRead (s : State) : s.perform 0x0A [] = .ok s.faultCodes s.clearFaults := rfl

theorem exec_faultRead {s : State} (h : ReqHead) (hi : s.serviceIdle) :
    exec (.faultRead h) s = .next (s.clearFaults.answer h 0x0A [] .done false s.faultCodes) :=
  congrArg Host.Outcome.next
    (State.request_answers (t := s.clearFaults) hi hi.2.1 hi.2.2 (State.perform_faultRead _))

theorem State.clearFaults_get (s : State) (src : Fin 26) : s.clearFaults.faults[src] = none := by
  simp [clearFaults]

theorem State.clearFaults_answer_faults (s : State) (h : ReqHead) (kind : Byte) (ps : List Byte) (x : Result)
    (limited : Bool) (v : List Byte) (src : Fin 26) :
    (s.clearFaults.answer h kind ps x limited v).faults[src] =
      if 4 ≤ (s.link h.link).replies.length ∧ src = 25 then some .replyOverflow else none := by
  rw [answer_faults, clearFaults_get]
  rfl

theorem State.clearFaults_answer_attention (s : State) (h : ReqHead) (kind : Byte) (ps : List Byte) (x : Result)
    (limited : Bool) (v : List Byte) :
    (s.clearFaults.answer h kind ps x limited v).attention = decide (4 ≤ (s.link h.link).replies.length) := by
  have hsrc (src : Fin 26) : (s.clearFaults.answer h kind ps x limited v).faults[src] ≠ none ↔
      4 ≤ (s.link h.link).replies.length ∧ src = 25 := by
    rw [clearFaults_answer_faults]
    split <;> simp [*]
  rw [Bool.eq_iff_iff, attention_iff, decide_eq_true_iff]
  simp only [hsrc, exists_and_left, exists_eq, and_true]

/-! ### Hardware reset and COPY RESTART (R170, R186) -/

theorem State.hardwareReset_attention (s : State) (straps : BitVec 6) : (s.hardwareReset straps).attention = false := by
  rw [← Bool.not_eq_true, attention_iff]
  simp [hardwareReset, reset]

theorem Link.copyRestart_fifo (k : Link) : k.copyRestart.fifo = [] := by
  unfold copyRestart refreshHold
  split_ifs <;> rfl

theorem State.copyRestart_link (s : State) (l : LinkId) :
    s.copyRestart.link l = { (s.link l).copyRestart with replies := (s.link l).copyRestart.replies.take 1 } := by
  simp [copyRestart, emptyCopy, link]

theorem State.copyRestart_settled (s : State) : s.copyRestart.settled := fun l => by
  simp [copyRestart_link, Link.copyRestart_fifo]

theorem exec_copyRestart {s : State} (h : ReqHead) (hi : s.serviceIdle) :
    exec (.copyRestart h) s = .next (s.copyRestart.answer h 0x0C [] .done false []) :=
  congrArg Host.Outcome.next (State.request_answers (t := s.copyRestart) hi hi.2.1 s.copyRestart_settled rfl)

/-- The reply to COPY RESTART finds at most one frame on its link. -/
theorem State.copyRestart_answer_faults (s : State) (h : ReqHead) (kind : Byte) (ps : List Byte) (x : Result)
    (limited : Bool) (v : List Byte) : (s.copyRestart.answer h kind ps x limited v).faults = s.faults := by
  have hroom : ¬4 ≤ (s.copyRestart.link h.link).replies.length := by
    simp only [copyRestart_link, List.length_take]
    omega
  refine Vector.ext fun n hn => ?_
  have hsrc := s.copyRestart.answer_faults h kind ps x limited v ⟨n, hn⟩
  rwa [if_neg fun hf => hroom hf.1] at hsrc

/-- Settles O19: the summary after the answer decides ATTENTION. -/
theorem faultReadAndAttention : Obligations.FaultReadAndAttention := by
  refine ⟨fun s h hi => ⟨?codes, ?summary⟩, State.attention_iff, State.recordFault_attention, ?released, ?reset,
    ?restart, fun _ _ => rfl⟩
  case codes =>
    rw [exec_faultRead h hi, State.faultCodes_eq_ofFn]
    refine congrArg (fun v => Host.Outcome.next (s.clearFaults.answer h 0x0A [] .done false (List.ofFn v))) ?_
    funext src
    cases s.faults[src] <;> rfl
  case summary =>
    exact ⟨_, exec_faultRead h hi, s.clearFaults_answer_attention .., s.clearFaults_answer_faults h _ _ _ _ _⟩
  case released =>
    intro s h hi
    refine ⟨_, exec_faultRead h hi, ?_⟩
    rw [State.clearFaults_answer_attention, decide_eq_false_iff_not, Nat.not_le]
  case reset =>
    exact fun s straps => ⟨_, rfl, s.hardwareReset_attention straps⟩
  case restart =>
    intro s h hi
    have hf := s.copyRestart_answer_faults h 0x0C [] .done false []
    exact ⟨_, exec_copyRestart h hi, hf, State.attention_congr hf⟩

end Sys2Proof.Machine
end

section
/-! The laws that steps keep, packaged once. A predicate on states that a few kinds of update keep, each stated with what
the model knows where it makes it, is kept by whatever is composed of them. `RoutingKeeps` names the kinds that the Router
is composed of; the structures after it add those of reception, of the circuits and of the whole step. -/

namespace Sys2Proof.Machine

open Sys2Proof

/-! ### The kinds of update that the Router is composed of -/

/-- A record after a change of its marks, times, references or story: the copy it holds stays (R33). -/
def Take.SameCopy (t u : Take) : Prop :=
  u = { t with
    state := u.state, adjusted := u.adjusted, truncated := u.truncated, suspect := u.suspect, unindexed := u.unindexed
    readyTime := u.readyTime, readyClock := u.readyClock, refs := u.refs, story := u.story }

/-- What becomes of the story index at once (R47 to R50): one entry changed under its key, touched, created, or created in
the place of another. -/
inductive StoriesMove (es : List Story) : List Story → Prop
  | change (k : StoryKey) (f : Story → Story) (hf : ∀ e, (f e).key = e.key) :
    StoriesMove es (es.map fun e => if e.key = k then f e else e)
  | touch (e : Story) (he : e ∈ es) : StoriesMove es (e :: es.filter fun x => x.key != e.key)
  | create (e : Story) (he : ∀ x ∈ es, x.key ≠ e.key) (hlen : es.length < Config.storyEntries) :
    StoriesMove es (e :: es)
  | supersede (e : Story) (he : ∀ x ∈ es, x.key ≠ e.key) (n : Nat) (hn : n < es.length) :
    StoriesMove es (e :: es.eraseIdx n)

/-- What the Router and the take directory do to a circuit: they count, take entries out of the queue, place or replace one,
or set orders in the context in flight (R53 to R60, R67 to R77, R111, R135). -/
inductive Circuit.QueueMove (c : Circuit) : Circuit → Prop
  | counters (n : CircuitCounters) : QueueMove c { c with counters := n }
  | drop (p : Entry → Bool) :
    QueueMove c { c with
      queue := c.queue.filter (fun e => !p e), backlog := c.backlog - queueSum (c.queue.filter p) }
  | dropBehind (n : Nat) (p : Entry → Bool) :
    QueueMove c { c with
      queue := c.queue.take (n + 1) ++ (c.queue.drop (n + 1)).filter (fun e => !p e)
      backlog := c.backlog - queueSum ((c.queue.drop (n + 1)).filter p) }
  | dropAt (n : Nat) (e : Entry) (he : c.queue[n]? = some e) :
    QueueMove c { c with queue := c.queue.eraseIdx n, backlog := c.backlog - e.estimate }
  | flush : QueueMove c { c with queue := [], backlog := 0 }
  | place (e : Entry) (hr : e.resume = none) :
    QueueMove c { c with queue := placeEntry c.queue e, backlog := c.backlog + e.estimate }
  | replace (n : Nat) (e d : Entry) (he : c.queue[n]? = some e) (hp : d.prio = e.prio) :
    QueueMove c { c with queue := c.queue.set n d, backlog := c.backlog - e.estimate + d.estimate }
  | orders (f : Flight) (hf : c.flight = some f) (breakIn cut : Bool) :
    QueueMove c { c with flight := some { f with ctx := { f.ctx with breakIn := breakIn, cut := cut } } }

/-- A predicate that is kept where a fault is recorded and where a frame joins a reply queue (R159, R176, R179). -/
structure FaultKeeps (P : State → Prop) : Prop where
  number : ∀ {s : State} (n : Byte), P s → P { s with noticeNumber := n }
  setFault : ∀ {s : State} {src : Fin 26} {code : FaultCode}, code.belongs src = true → P s → P (s.setFault src code)
  push : ∀ {s : State} {l : LinkId} (frame : List Byte), (s.link l).replies.length < Config.replyQueue → P s →
    P (s.modLink l (·.pushFrame frame))

namespace FaultKeeps

variable {P : State → Prop} (hP : FaultKeeps P) {s : State}
include hP

theorem queueFrame (l : LinkId) (frame : List Byte) (hs : P s) : P (s.queueFrame l frame) := by
  rcases s.queueFrame_cases l frame with ⟨hlt, he⟩ | ⟨-, he⟩ <;> rw [he]
  · exact hP.push frame hlt hs
  · exact hP.setFault rfl hs

theorem notice (kind : Byte) (fields : List Byte) (hs : P s) : P (s.notice kind fields) :=
  hP.queueFrame _ _ (hP.number _ hs)

theorem recordFault {src : Fin 26} {code : FaultCode} (hc : code.belongs src = true) (hs : P s) :
    P (s.recordFault src code) := by
  have hset := hP.setFault hc hs
  rcases s.recordFault_cases src code with ⟨-, -, he⟩ | he <;> rw [he]
  · exact hP.notice _ _ hset
  · exact hset

end FaultKeeps

/-- A predicate that the kinds of update keep of which the Router's handling of a take is composed. -/
structure RoutingKeeps (P : State → Prop) : Prop extends FaultKeeps P where
  linkCounters : ∀ {s : State} (l : LinkId) (n : LinkCounters), P s → P (s.modLink l fun k => { k with counters := n })
  take : ∀ {s : State} {h : Nat} {t u : Take}, s.take? h = some t → t.SameCopy u → P s → P (s.putTake h u)
  freeTake : ∀ {s : State} (h : Nat), P s → P (s.freeTake h)
  stories : ∀ {s : State} {es : List Story}, StoriesMove s.stories es → P s → P { s with stories := es }
  queue : ∀ {s : State} {i : CircuitId} {c : Circuit}, (s.circuit i).QueueMove c → P s → P (s.setCircuit i c)

namespace RoutingKeeps

variable {P : State → Prop} (hP : RoutingKeeps P) {s : State}
include hP

/-! ### Counters -/

theorem countLink (l : LinkId) (p : LinkPoint) (n : Nat) (hs : P s) : P (s.countLink l p n) :=
  hP.linkCounters l _ hs

theorem countCircuit (i : CircuitId) (p : CircuitPoint) (n : Nat) (hs : P s) : P (s.countCircuit i p n) :=
  hP.queue (.counters _) hs

/-! ### Records, stories and references -/

theorem modTake (h : Nat) {f : Take → Take} (hf : ∀ t : Take, t.SameCopy (f t)) (hs : P s) : P (s.modTake h f) := by
  rcases s.modTake_cases h f with ⟨t, ht, he⟩ | ⟨-, he⟩ <;> rw [he]
  · exact hP.take ht (hf t) hs
  · exact hs

theorem modStory (k : StoryKey) {f : Story → Story} (hf : ∀ e, (f e).key = e.key) (hs : P s) : P (s.modStory k f) :=
  hP.stories (.change k f hf) hs

theorem reportRelease (t : Take) (hs : P s) : P (s.reportRelease t) := by
  unfold State.reportRelease
  split
  · exact hP.modStory _ (fun _ => rfl) hs
  · exact hs

theorem dropRef (h : Nat) (hs : P s) : P (s.dropRef h) := by
  rcases s.dropRef_cases h with ⟨-, he⟩ | ⟨t, -, -, he⟩ | ⟨t, ht, -, he⟩ <;> rw [he]
  · exact hs
  · exact hP.freeTake h (hP.reportRelease t hs)
  · exact hP.take ht rfl hs

theorem addRef (h : Nat) (hs : P s) : P (s.addRef h) := hP.modTake h (fun _ => rfl) hs

theorem dropRefs (es : List Entry) (hs : P s) : P (s.dropRefs es) :=
  List.foldlRecOn es _ hs fun _ ht e _ => hP.dropRef e.handle ht

/-! ### Removals, insertions and orders -/

theorem removeEntries (i : CircuitId) (p : Entry → Bool) (hs : P s) : P (s.removeEntries i p) :=
  hP.dropRefs _ (hP.queue (.drop p) hs)

theorem removeBehind (i : CircuitId) (n : Nat) (p : Entry → Bool) (hs : P s) : P (s.removeBehind i n p) :=
  hP.dropRefs _ (hP.queue (.dropBehind n p) hs)

theorem removeAt (i : CircuitId) (n : Nat) (hs : P s) : P (s.removeAt i n) := by
  rcases s.removeAt_cases i n with ⟨-, he⟩ | ⟨e, hn, he⟩ <;> rw [he]
  · exact hs
  · exact hP.dropRef _ (hP.queue (.dropAt n e hn) hs)

theorem flush (i : CircuitId) (hs : P s) : P (s.flush i) := hP.dropRefs _ (hP.queue .flush hs)

theorem offerBreakIn (i : CircuitId) (p : Priority) (hs : P s) : P (s.offerBreakIn i p) := by
  unfold State.offerBreakIn
  split
  · exact hs
  · rename_i f hf
    split
    · exact hs
    · split
      · exact hP.queue (.orders f hf true f.ctx.cut) hs
      · exact hs

theorem place (i : CircuitId) (h : Nat) (t : Take) (p : Priority) (hs : P s) : P (s.place i h t p) :=
  hP.offerBreakIn i p (hP.addRef h (hP.queue (.place _ rfl) hs))

theorem insert (i : CircuitId) (h : Nat) (p : Priority) (hs : P s) : P (s.insert i h p) := by
  cases ht : s.take? h with
  | none => simpa [State.insert, ht] using hs
  | some t =>
    rcases s.insert_cases i h p ht with ⟨-, he⟩ | ⟨-, -, he⟩ | ⟨-, -, he⟩ | ⟨n, -, -, -, he⟩ <;> rw [he]
    · exact hP.countCircuit i _ _ hs
    · exact hP.place i h t p hs
    · exact hP.countCircuit i _ _ hs
    · exact hP.place i h t p (hP.countCircuit i _ _ (hP.removeAt i n hs))

theorem replaceAt (i : CircuitId) (n h : Nat) (t : Take) (hs : P s) : P (s.replaceAt i n h t) := by
  unfold State.replaceAt
  split
  · exact hs
  · rename_i e he
    exact hP.dropRef _ (hP.addRef h (hP.queue (.replace n e _ he rfl) hs))

theorem insertAll (h : Nat) (p : Priority) (is : List CircuitId) (hs : P s) : P (s.insertAll h p is) :=
  List.foldlRecOn is _ hs fun _ ht i _ => hP.insert i h p ht

theorem cutOrder (i : CircuitId) (h : Nat) (hs : P s) : P (s.cutOrder i h) := by
  unfold State.cutOrder
  split
  · rename_i f hf
    split
    · have hcut : f.ctx.cutOrder = { f.ctx with breakIn := f.ctx.breakIn, cut := f.ctx.cutOrder.cut } := by
        unfold Context.cutOrder
        split <;> rfl
      rw [hcut]
      exact hP.queue (.orders f hf _ _) hs
    · exact hs
  · exact hs

/-! ### The Router (R42 to R60) -/

theorem indexStory (h : Nat) (t : Take) (hs : P s) : P (s.indexStory h t).1 := by
  unfold State.indexStory State.story?
  split
  · rename_i e he
    exact hP.modTake h (fun _ => rfl) (hP.stories (.touch e (List.mem_of_find?_eq_some he)) hs)
  · rename_i hnone
    have hnew : ∀ x ∈ s.stories, x.key ≠ t.newStory.key := fun x hx => by
      simpa [Take.newStory] using List.find?_eq_none.1 hnone x hx
    split
    · rename_i es hes
      refine hP.modTake h (fun _ => rfl) (hP.stories ?_ hs)
      split at hes
      · cases hes
        exact .create _ hnew ‹_›
      · unfold evictStory at hes
        split at hes
        · rename_i n hn
          cases hes
          refine .supersede _ hnew _ ?_
          have := (List.findIdx?_eq_some_iff_findIdx_eq.1 hn).1
          simp only [List.length_reverse] at this
          omega
        · cases hes
    · exact hP.modTake h (fun _ => rfl) hs

theorem correctOn (h : Nat) (t : Take) (p : Priority) (i : CircuitId) (hs : P s) : P (s.correctOn h t p i) := by
  unfold State.correctOn
  split
  · exact hs
  · rename_i n _
    have hbehind := hP.removeBehind i n (s.matchesCorrection t) hs
    simp only
    split
    · exact hP.replaceAt i n h t hbehind
    · exact hP.insert i h p (hP.removeAt i n hbehind)

theorem correct (h : Nat) (t : Take) (p : Priority) (set : CircuitSet) (hs : P s) : P (s.correct h t p set) :=
  hP.insertAll h p _ (List.foldlRecOn _ _ hs fun _ ht i _ => hP.correctOn h t p i ht)

theorem purge (k : StoryKey) (hs : P s) : P (s.purge k) :=
  List.foldlRecOn _ _ hs fun _ ht i _ => hP.removeEntries i _ ht

theorem cutStory (k : StoryKey) (hs : P s) : P (s.cutStory k) := by
  refine List.foldlRecOn _ _ hs fun u hu i _ => ?_
  split
  · exact hP.modStory k (fun _ => rfl) (hP.cutOrder i _ hu)
  · exact hu

theorem handleKill (h : Nat) (t : Take) (p : Priority) (set : CircuitSet) (c : StoryCase) (hs : P s) :
    P (s.handleKill h t p set c) := by
  unfold State.handleKill
  cases c with
  | active =>
    exact hP.modStory _ (fun _ => rfl)
      (hP.insertAll h _ _ (hP.modTake h (fun _ => rfl) (hP.cutStory _ (hP.purge _ hs))))
  | killed | fresh | unindexed => exact hP.insertAll h _ _ (hP.modTake h (fun _ => rfl) hs)

theorem disposition (h : Nat) (t : Take) (p : Priority) (set : CircuitSet) (c : StoryCase) (hs : P s) :
    P (s.disposition h t p set c) := by
  unfold State.disposition
  cases t.disp with
  | normal =>
    simp only
    split
    · exact hs
    · exact hP.insertAll h p _ hs
  | correction =>
    simp only
    split
    · exact hs
    · exact hP.correct h t p set hs
  | kill => exact hP.handleKill h t p set c hs

theorem endRouting (h : Nat) (afterKill : Bool) (hs : P s) : P (s.endRouting h afterKill) := by
  unfold State.endRouting
  split
  · exact hs
  · split
    · exact hP.countLink _ _ _ (hP.freeTake h hs)
    · split
      · exact hP.modStory _ (fun _ => rfl) hs
      · exact hs

theorem route (h : Nat) (hs : P s) : P (s.route h) := by
  unfold State.route
  split
  · exact hs
  · exact hP.endRouting h _ (hP.disposition h _ _ _ _ (hP.indexStory h _ (hP.modTake h (fun _ => rfl) hs)))

/-! ### Take spikes (R60) -/

theorem spike (h : Nat) (hs : P s) : P (s.spike h) :=
  List.foldlRecOn _ _ (List.foldlRecOn _ _ hs fun _ ht i _ => hP.removeEntries i _ ht) fun _ ht i _ => hP.cutOrder i h ht

theorem spikeAll (hs' : List Nat) (hs : P s) : P (s.spikeAll hs') :=
  List.foldlRecOn hs' _ hs fun _ ht h _ => hP.spike h ht

omit hP in
theorem and {Q : State → Prop} (hP : RoutingKeeps P) (hQ : RoutingKeeps Q) : RoutingKeeps fun t => P t ∧ Q t where
  number n h := ⟨hP.number n h.1, hQ.number n h.2⟩
  setFault hc h := ⟨hP.setFault hc h.1, hQ.setFault hc h.2⟩
  push frame hlt h := ⟨hP.push frame hlt h.1, hQ.push frame hlt h.2⟩
  linkCounters l n h := ⟨hP.linkCounters l n h.1, hQ.linkCounters l n h.2⟩
  take ht hu h := ⟨hP.take ht hu h.1, hQ.take ht hu h.2⟩
  freeTake g h := ⟨hP.freeTake g h.1, hQ.freeTake g h.2⟩
  stories hm h := ⟨hP.stories hm h.1, hQ.stories hm h.2⟩
  queue hm h := ⟨hP.queue hm h.1, hQ.queue hm h.2⟩

end RoutingKeeps

end Sys2Proof.Machine
end

section
/-! Laws that do not read the store: the grant arbiter, returned segments and LOW are kept as soon as recorded faults, drained
bytes and hold lines are. -/

namespace Sys2Proof.Machine

open Sys2Proof

/-! ### What a recorded fault leaves alone (R176, R179) -/

@[simp] theorem State.recordFault_pending (s : State) (src : Fin 26) (code : FaultCode) :
    (s.recordFault src code).pending = s.pending := by
  unfold State.recordFault; split <;> simp [State.notice, State.sendBody]
@[simp] theorem State.recordFault_resetHeld (s : State) (src : Fin 26) (code : FaultCode) :
    (s.recordFault src code).resetHeld = s.resetHeld := by
  unfold State.recordFault; split <;> simp [State.notice, State.sendBody]
@[simp] theorem State.recordFault_ms (s : State) (src : Fin 26) (code : FaultCode) :
    (s.recordFault src code).ms = s.ms := by
  unfold State.recordFault; split <;> simp [State.notice, State.sendBody]
@[simp] theorem State.recordFault_tickRun (s : State) (src : Fin 26) (code : FaultCode) :
    (s.recordFault src code).tickRun = s.tickRun := by
  unfold State.recordFault; split <;> simp [State.notice, State.sendBody]
@[simp] theorem State.recordFault_clock (s : State) (src : Fin 26) (code : FaultCode) :
    (s.recordFault src code).clock = s.clock := by
  unfold State.recordFault; split <;> simp [State.notice, State.sendBody]
@[simp] theorem State.recordFault_ownCode (s : State) (src : Fin 26) (code : FaultCode) :
    (s.recordFault src code).ownCode = s.ownCode := by
  unfold State.recordFault; split <;> simp [State.notice, State.sendBody]
@[simp] theorem State.recordFault_store (s : State) (src : Fin 26) (code : FaultCode) :
    (s.recordFault src code).store = s.store := by
  unfold State.recordFault; split <;> simp [State.notice, State.sendBody]
@[simp] theorem State.recordFault_routes (s : State) (src : Fin 26) (code : FaultCode) :
    (s.recordFault src code).routes = s.routes := by
  unfold State.recordFault; split <;> simp [State.notice, State.sendBody]
@[simp] theorem State.recordFault_stories (s : State) (src : Fin 26) (code : FaultCode) :
    (s.recordFault src code).stories = s.stories := by
  unfold State.recordFault; split <;> simp [State.notice, State.sendBody]
@[simp] theorem State.recordFault_subst (s : State) (src : Fin 26) (code : FaultCode) :
    (s.recordFault src code).subst = s.subst := by
  unfold State.recordFault; split <;> simp [State.notice, State.sendBody]
@[simp] theorem State.recordFault_circuits (s : State) (src : Fin 26) (code : FaultCode) :
    (s.recordFault src code).circuits = s.circuits := by
  unfold State.recordFault; split <;> simp [State.notice, State.sendBody]
@[simp] theorem State.recordFault_requests (s : State) (src : Fin 26) (code : FaultCode) :
    (s.recordFault src code).requests = s.requests := by
  unfold State.recordFault; split <;> simp [State.notice, State.sendBody]
@[simp] theorem State.recordFault_retryTimer (s : State) (src : Fin 26) (code : FaultCode) :
    (s.recordFault src code).retryTimer = s.retryTimer := by
  unfold State.recordFault; split <;> simp [State.notice, State.sendBody]
@[simp] theorem State.recordFault_settings (s : State) (src : Fin 26) (code : FaultCode) :
    (s.recordFault src code).settings = s.settings := by
  unfold State.recordFault; split <;> simp [State.notice, State.sendBody]
@[simp] theorem State.recordFault_requestsDone (s : State) (src : Fin 26) (code : FaultCode) :
    (s.recordFault src code).requestsDone = s.requestsDone := by
  unfold State.recordFault; split <;> simp [State.notice, State.sendBody]
@[simp] theorem State.recordFault_requestsTimedOut (s : State) (src : Fin 26) (code : FaultCode) :
    (s.recordFault src code).requestsTimedOut = s.requestsTimedOut := by
  unfold State.recordFault; split <;> simp [State.notice, State.sendBody]
@[simp] theorem State.recordFault_watch (s : State) (src : Fin 26) (code : FaultCode) :
    (s.recordFault src code).watch = s.watch := by
  unfold State.recordFault; split <;> simp [State.notice, State.sendBody]
@[simp] theorem State.recordFault_watchTimer (s : State) (src : Fin 26) (code : FaultCode) :
    (s.recordFault src code).watchTimer = s.watchTimer := by
  unfold State.recordFault; split <;> simp [State.notice, State.sendBody]
@[simp] theorem State.recordFault_circuit (s : State) (src : Fin 26) (code : FaultCode) (i : CircuitId) :
    (s.recordFault src code).circuit i = s.circuit i := by simp [State.circuit]
@[simp] theorem State.recordFault_take? (s : State) (src : Fin 26) (code : FaultCode) (h : Nat) :
    (s.recordFault src code).take? h = s.take? h := by simp [State.take?]
@[simp] theorem State.recordFault_waits (s : State) (src : Fin 26) (code : FaultCode) (l : LinkId) :
    (s.recordFault src code).waits l = s.waits l := by simp [State.waits]

theorem State.recordFault_link (s : State) (src : Fin 26) (code : FaultCode) (l : LinkId) :
    ∃ rs rate, (s.recordFault src code).link l = { s.link l with replies := rs, sendRate := rate } := by
  rcases s.recordFault_cases src code with ⟨-, -, he⟩ | he <;> rw [he]
  · exact State.queueFrame_link _ _ l _
  · exact ⟨_, _, rfl⟩

/-! ### The arbiter (R29, R31) -/

/-- What each step of the arbiter keeps, the arbiter keeps. -/
theorem arbitrate_keeps {P : State → Prop}
    (serve : ∀ {s : State} {w : WaitingRequest}, s.store.nextServed = some w → P s → P (s.grantWaiting w)) (n : Nat)
    {s : State} (hs : P s) : P (arbitrate n s) := by
  induction n generalizing s with
  | zero => exact hs
  | succ n ih =>
    unfold arbitrate
    split
    · exact hs
    · exact ih (serve ‹_› hs)

/-- Everything serving a waiting request can do: its link's head byte begins a new segment, or, where the link has no byte
in TEXT, the request goes. -/
theorem State.grantWaiting_cases (s : State) (w : WaitingRequest) :
    (∃ h closed b rest, (s.link w.link).rx = .text h closed ∧ (s.link w.link).fifo = b :: rest ∧
        s.grantWaiting w = ((s.withdraw w.link).modLink w.link (·.drainHead)).grantSegment h (fold b)) ∨
      ((∀ h closed b rest, (s.link w.link).rx = .text h closed → (s.link w.link).fifo ≠ b :: rest) ∧
        s.grantWaiting w = s.withdraw w.link) := by
  unfold State.grantWaiting
  split
  · rename_i h closed b rest hx hf
    exact .inl ⟨h, closed, b, rest, hx, hf, rfl⟩
  · rename_i hno
    exact .inr ⟨hno, rfl⟩

theorem foldl_preferred_mem (w : WaitingRequest) (ws : List WaitingRequest) : ws.foldl preferred w ∈ w :: ws := by
  induction ws generalizing w with
  | nil => simp
  | cons v vs ih =>
    have hpick : preferred w v = w ∨ preferred w v = v := by
      unfold preferred
      split <;> simp
    have hmem := ih (preferred w v)
    rw [List.foldl_cons]
    rcases hpick with hp | hp <;> rw [hp] at hmem ⊢ <;> grind

theorem Store.nextServed_mem {st : Store} {w : WaitingRequest} (hw : st.nextServed = some w) :
    w ∈ st.waiting ∧ st.eligible w.prio = true := by
  unfold nextServed at hw
  split at hw
  · cases hw
  · rename_i v vs hf
    cases hw
    have hmem := foldl_preferred_mem v vs
    rw [← hf] at hmem
    exact List.mem_filter.1 hmem

theorem Store.nextServed_none {st : Store} (hw : st.nextServed = none) : ∀ w ∈ st.waiting, st.eligible w.prio = false := by
  unfold nextServed at hw
  split at hw
  · rename_i hf
    exact fun w hm => by simpa using List.filter_eq_nil_iff.1 hf w hm
  · cases hw

theorem Store.free_pos_of_eligible {st : Store} {p : Priority} (he : st.eligible p = true) : 0 < st.free := by
  unfold eligible at he
  split at he
  · exact of_decide_eq_true he
  · exact (Nat.zero_le _).trans_lt (of_decide_eq_true he)

/-! ### Laws that do not read the store -/

/-- A change of a link's hold line, its timer and its hold-spent mark alone (R20, R21). -/
def Link.HoldOnly (k k' : Link) : Prop :=
  k' = { k with hold := k'.hold, holdTicks := k'.holdTicks, holdSpent := k'.holdSpent }

theorem Link.refreshHold_holdOnly (low : Bool) (k : Link) : k.HoldOnly (k.refreshHold low) := by
  unfold refreshHold HoldOnly
  split <;> rfl

theorem Link.refreshHold_unspent_holdOnly (k : Link) :
    k.HoldOnly (({ k with holdSpent := false } : Link).refreshHold false) := by
  unfold refreshHold HoldOnly
  split <;> rfl

/-- A predicate that does not read the store and is kept by what a grant or the end of LOW does elsewhere. -/
structure GrantKeeps (P : State → Prop) : Prop extends FaultKeeps P where
  store : ∀ {s : State} (st : Store), P s → P { s with store := st }
  holds : ∀ {s : State} {f : Link → Link}, (∀ k : Link, k.HoldOnly (f k)) → P s → P { s with links := s.links.map f }

/-- A predicate that does not read the store and is kept by what the arbiter does elsewhere. -/
structure StorelessKeeps (P : State → Prop) : Prop extends GrantKeeps P where
  drainHead : ∀ {s : State} (l : LinkId), P s → P (s.modLink l (·.drainHead))

namespace GrantKeeps

variable {P : State → Prop} (hP : GrantKeeps P) {s : State}
include hP

theorem testLowEntry (hs : P s) : P s.testLowEntry := by
  unfold State.testLowEntry
  split
  · exact hP.holds (Link.refreshHold_holdOnly _) (hP.recordFault rfl (hP.store _ hs))
  · exact hs

theorem testLowExit (hs : P s) : P s.testLowExit := by
  unfold State.testLowExit
  split
  · exact hP.holds (s := { s with store := { s.store with low := false } }) Link.refreshHold_unspent_holdOnly
      (hP.store _ hs)
  · exact hs

theorem noteGrant (hs : P s) : P s.noteGrant := by
  have hfault : P (if s.store.free = s.store.reserve + 1 then
      (s.modStore fun st => { st with free := st.free - 1 }).recordFault storeSource .reserveInUse
      else s.modStore fun st => { st with free := st.free - 1 }) := by
    split
    · exact hP.recordFault rfl (hP.store _ hs)
    · exact hP.store _ hs
  unfold State.noteGrant
  simp only
  split
  · exact hP.testLowEntry (hP.store _ hfault)
  · exact hP.testLowEntry hfault

theorem grantSegment (h : Nat) (b : Byte) (hs : P s) : P (s.grantSegment h b) := by
  unfold State.grantSegment
  split
  · exact hP.noteGrant (hP.store _ hs)
  · exact hs

end GrantKeeps

namespace StorelessKeeps

variable {P : State → Prop} (hP : StorelessKeeps P) {s : State}
include hP

theorem grantWaiting (w : WaitingRequest) (hs : P s) : P (s.grantWaiting w) := by
  rcases s.grantWaiting_cases w with ⟨h, _, b, _, -, -, he⟩ | ⟨-, he⟩ <;> rw [he]
  · exact hP.grantSegment h _ (hP.drainHead _ (hP.store _ hs))
  · exact hP.store _ hs

theorem runArbiter (hs : P s) : P s.runArbiter := arbitrate_keeps (fun _ => hP.grantWaiting _) _ hs

theorem returnSegments (n : Nat) (hs : P s) : P (s.returnSegments n) := by
  unfold State.returnSegments
  split
  · exact hs
  · exact hP.runArbiter (hP.testLowExit (hP.store _ hs))

theorem freeTake (h : Nat) (hs : P s) : P (s.freeTake h) := by
  rcases s.freeTake_cases h with ⟨-, he⟩ | ⟨t, -, he⟩ <;> rw [he]
  · exact hs
  · exact hP.returnSegments _ (hP.store _ hs)

theorem storeWritten (lowered : Bool) (hs : P s) : P (s.storeWritten lowered) := by
  unfold State.storeWritten
  split
  · exact hP.runArbiter (hP.testLowEntry (hP.testLowExit hs))
  · exact hP.testLowEntry (hP.testLowExit hs)

/-- With counters, stories and queues kept too, the Router keeps the law. -/
theorem routing
    (linkCounters : ∀ {s : State} (l : LinkId) (n : LinkCounters), P s → P (s.modLink l fun k => { k with counters := n }))
    (stories : ∀ {s : State} {es : List Story}, StoriesMove s.stories es → P s → P { s with stories := es })
    (queue : ∀ {s : State} {i : CircuitId} {c : Circuit}, (s.circuit i).QueueMove c → P s → P (s.setCircuit i c)) :
    RoutingKeeps P where
  number := hP.number
  setFault := hP.setFault
  push := hP.push
  linkCounters := linkCounters
  take _ _ := hP.store _
  freeTake := hP.freeTake
  stories := stories
  queue := queue

end StorelessKeeps

/-! ### What a grant and the end of LOW do to the store (R26 to R28) -/

@[simp] theorem State.testLowEntry_store (s : State) :
    s.testLowEntry.store = { s.store with low := s.store.low || decide (s.store.free ≤ s.store.lowWater) } := by
  unfold testLowEntry
  split
  · rename_i h
    simp [refreshHolds, h.2]
  · rename_i h
    have hlow : (s.store.low || decide (s.store.free ≤ s.store.lowWater)) = s.store.low := by
      cases hl : s.store.low <;> simp_all
    rw [hlow]

@[simp] theorem State.testLowExit_store (s : State) :
    s.testLowExit.store = { s.store with low := s.store.low && decide (s.store.free < s.store.highWater) } := by
  unfold testLowExit
  split
  · rename_i h
    simp [Nat.not_lt.2 h.2]
  · rename_i h
    have hlow : (s.store.low && decide (s.store.free < s.store.highWater)) = s.store.low := by
      cases hl : s.store.low <;> simp_all
    rw [hlow]

theorem State.noteGrant_store (s : State) : s.noteGrant.store =
    { s.store with
      free := s.store.free - 1, low := s.store.low || decide (s.store.free - 1 ≤ s.store.lowWater)
      reserveGrants := if s.store.free ≤ s.store.reserve then satPlus s.store.reserveGrants 1 else s.store.reserveGrants } := by
  unfold noteGrant
  by_cases hcross : s.store.free = s.store.reserve + 1
  · have hover : ¬s.store.free ≤ s.store.reserve := by omega
    simp [hcross]
  · by_cases hover : s.store.free ≤ s.store.reserve <;> simp [hcross, hover]

/-- Everything granting a segment can do to the store. -/
theorem State.grantSegment_store (s : State) (h : Nat) (b : Byte) :
    (s.grantSegment h b).store = s.store ∨ ∃ t, s.take? h = some t ∧ (s.grantSegment h b).store =
      { s.store with
        takes := Takes.put s.store.takes h (t.appendNew b), free := s.store.free - 1
        low := s.store.low || decide (s.store.free - 1 ≤ s.store.lowWater)
        reserveGrants :=
          if s.store.free ≤ s.store.reserve then satPlus s.store.reserveGrants 1 else s.store.reserveGrants } := by
  unfold grantSegment
  split
  · exact .inr ⟨_, ‹_›, by rw [noteGrant_store]; rfl⟩
  · exact .inl rfl

@[simp] theorem State.grantSegment_waiting (s : State) (h : Nat) (b : Byte) :
    (s.grantSegment h b).store.waiting = s.store.waiting := by
  rcases s.grantSegment_store h b with he | ⟨t, -, he⟩ <;> rw [he]

/-- Serving a request takes the requests of its link from the waiting ones. -/
@[simp] theorem State.grantWaiting_waiting (s : State) (w : WaitingRequest) :
    (s.grantWaiting w).store.waiting = s.store.waiting.filter (·.link != w.link) := by
  rcases s.grantWaiting_cases w with ⟨h, _, b, _, -, -, he⟩ | ⟨-, he⟩ <;> rw [he]
  · rw [grantSegment_waiting]
    rfl
  · rfl

/-! ### A link that does not wait hears nothing of the arbiter -/

/-- A link whose reply queue and hold line alone have changed. -/
def Link.Unheard (k k' : Link) : Prop :=
  k' = { k with
    hold := k'.hold, holdTicks := k'.holdTicks, holdSpent := k'.holdSpent, replies := k'.replies
    sendRate := k'.sendRate }

theorem grantKeeps_unheard (k : Link) (l : LinkId) : GrantKeeps fun t => k.Unheard (t.link l) where
  number _ h := h
  setFault _ h := h
  push {t m} frame _ h := by
    simp only [State.modLink_link]
    split
    · rw [h]; rfl
    · exact h
  store _ h := h
  holds {t f} hf h := by
    have hmap : ({ t with links := t.links.map f } : State).link l = f (t.link l) := by simp [State.link]
    rw [hmap, hf (t.link l), h]
    rfl

/-- The link does not wait, and is as it was in `k` but for its replies and its hold line. -/
def State.LeftAlone (k : Link) (l : LinkId) (t : State) : Prop := t.waits l = false ∧ k.Unheard (t.link l)

theorem State.LeftAlone.grantWaiting {k : Link} {l : LinkId} {s : State} {w : WaitingRequest}
    (hw : s.store.nextServed = some w) (hs : s.LeftAlone k l) : (s.grantWaiting w).LeftAlone k l := by
  have hne : l ≠ w.link := by
    rintro rfl
    have hnone := hs.1
    simp only [waits, List.any_eq_false, beq_iff_eq] at hnone
    exact hnone w (Store.nextServed_mem hw).1 rfl
  constructor
  · have hnone := hs.1
    simp only [waits, List.any_eq_false, grantWaiting_waiting] at hnone ⊢
    exact fun v hv => hnone v (List.mem_filter.1 hv).1
  · rcases s.grantWaiting_cases w with ⟨h, _, b, _, -, -, he⟩ | ⟨-, he⟩ <;> rw [he]
    · refine (grantKeeps_unheard k l).grantSegment h _ ?_
      rw [modLink_link, if_neg hne]
      exact hs.2
    · exact hs.2

theorem State.LeftAlone.returnSegments {k : Link} {l : LinkId} {s : State} (n : Nat) (hs : s.LeftAlone k l) :
    (s.returnSegments n).LeftAlone k l := by
  unfold State.returnSegments
  split
  · exact hs
  · refine arbitrate_keeps (fun hw => LeftAlone.grantWaiting hw) _ ⟨?_, (grantKeeps_unheard k l).testLowExit hs.2⟩
    have hnone := hs.1
    simpa [waits] using hnone

theorem State.LeftAlone.freeTake {k : Link} {l : LinkId} {s : State} (h : Nat) (hs : s.LeftAlone k l) :
    (s.freeTake h).LeftAlone k l := by
  rcases s.freeTake_cases h with ⟨-, he⟩ | ⟨t, -, he⟩ <;> rw [he]
  · exact hs
  · exact LeftAlone.returnSegments _ hs

theorem State.withdraw_waits (s : State) (l : LinkId) : (s.withdraw l).waits l = false := by
  simp [withdraw, waits, Store.withdraw, modStore]

end Sys2Proof.Machine
end

section
/-! Laws kept by reception: what the parser, the text bytes, the ends of frames and the timers of a link are composed of. -/

namespace Sys2Proof.Machine

open Sys2Proof

/-! ### The kinds of update that reception adds -/

/-- A link after it has heard, drained or lost bytes (R2, R3, R5 to R7, R19): profile, serial tracking, hold and replies
stay, DISABLED is neither entered nor left, and the FIFO keeps within its bytes. -/
def Link.Hears (k k' : Link) : Prop :=
  k' = { k with
    rx := k'.rx, fifo := k'.fifo, crc := k'.crc, silenceTicks := k'.silenceTicks, silent := k'.silent
    counters := k'.counters } ∧
  (k'.rx = .disabled ↔ k.rx = .disabled) ∧ k'.fifo.length ≤ max k.fifo.length Config.fifoBytes

theorem Link.drainHead_hears (k : Link) : k.Hears k.drainHead := by
  unfold drainHead takeCrc
  cases hf : k.fifo with
  | nil => exact ⟨rfl, Iff.rfl, by simp⟩
  | cons b rest => simp only; split <;> exact ⟨rfl, Iff.rfl, by simp only [hf, List.length_cons]; omega⟩

@[simp] theorem Link.drainHead_rx (k : Link) : k.drainHead.rx = k.rx := by
  unfold drainHead takeCrc
  split
  · rfl
  · split <;> rfl

/-- A predicate that the kinds of update keep of which reception is composed. -/
structure ReceptionKeeps (P : State → Prop) : Prop extends RoutingKeeps P where
  hears : ∀ {s : State} {l : LinkId} {k : Link}, (s.link l).Hears k → P s → P (s.setLink l k)
  track : ∀ {s : State} (l : LinkId) (e : Option Nat) (serial : Nat), P s →
    P (s.modLink l fun k => { k with expected := e, recent := joinRecent k.recent serial })
  allocate : ∀ {s : State} {t : Take}, Takes.lowestFree s.store.takes 0 < Config.takeRecords → t.chain = [] → P s →
    P (s.putTake (Takes.lowestFree s.store.takes 0) t)
  append : ∀ {s : State} {h : Nat} {t : Take} (b : Byte), s.take? h = some t → t.hasRoom = true → P s →
    P (s.putTake h (t.append b))
  grant : ∀ {s : State} (h : Nat) (b : Byte), 0 < s.store.free → P s → P (s.grantSegment h b)
  ask : ∀ {s : State} (l : LinkId) {p : Priority}, s.store.eligible p = false → P s → P (s.askSegment l p)
  withdraw : ∀ {s : State} (l : LinkId), P s → P (s.withdraw l)

/-- A law that does not read the store is kept by reception as soon as the Router, the links' bytes and serial tracking keep
it. -/
theorem StorelessKeeps.reception {P : State → Prop} (hP : StorelessKeeps P) (hR : RoutingKeeps P)
    (hears : ∀ {s : State} {l : LinkId} {k : Link}, (s.link l).Hears k → P s → P (s.setLink l k))
    (track : ∀ {s : State} (l : LinkId) (e : Option Nat) (serial : Nat), P s →
      P (s.modLink l fun k => { k with expected := e, recent := joinRecent k.recent serial })) : ReceptionKeeps P where
  toRoutingKeeps := hR
  hears := hears
  track := track
  allocate _ _ := hP.store _
  append _ _ _ := hP.store _
  grant h b _ := hP.grantSegment h b
  ask _ _ _ := hP.store _
  withdraw _ := hP.store _

/-! ### The state of a link outside its own frame -/

/-- Every link has the state it had in `s`. -/
def State.SameRx (s t : State) : Prop := ∀ l, (t.link l).rx = (s.link l).rx

theorem State.modLink_sameRx {s t : State} {l : LinkId} {f : Link → Link} (hf : ∀ k, (f k).rx = k.rx)
    (h : s.SameRx t) : s.SameRx (t.modLink l f) := fun m => by
  rw [modLink_link]
  split
  · rw [hf, h m]
  · exact h m

theorem storelessKeeps_sameRx (s : State) : StorelessKeeps s.SameRx where
  number _ h := h
  setFault _ h := h
  push _ _ h := State.modLink_sameRx (fun _ => rfl) h
  store _ h := h
  drainHead _ h := State.modLink_sameRx Link.drainHead_rx h
  holds hf h := fun m => by
    rw [← h m]
    simp only [State.link, Fin.getElem_fin, Vector.getElem_map]
    rw [hf]

theorem routingKeeps_sameRx (s : State) : RoutingKeeps s.SameRx :=
  (storelessKeeps_sameRx s).routing (fun _ _ => State.modLink_sameRx fun _ => rfl) (fun _ h => h) (fun _ h => h)

@[simp] theorem State.recordFault_rx (s : State) (src : Fin 26) (code : FaultCode) (l : LinkId) :
    ((s.recordFault src code).link l).rx = (s.link l).rx := by
  obtain ⟨rs, rate, h⟩ := s.recordFault_link src code l
  rw [h]

@[simp] theorem State.countLink_rx (s : State) (m : LinkId) (p : LinkPoint) (n : Nat) (l : LinkId) :
    ((s.countLink m p n).link l).rx = (s.link l).rx :=
  State.modLink_sameRx (s := s) (f := fun k => k.count p n) (fun _ => rfl) (fun _ => rfl) l

@[simp] theorem State.setRx_rx (s : State) (l : LinkId) (r : Rx) : ((s.setRx l r).link l).rx = r := by
  simp [setRx]

theorem State.modTake_rx (s : State) (h : Nat) (f : Take → Take) (l : LinkId) :
    ((s.modTake h f).link l).rx = (s.link l).rx := by
  rcases s.modTake_cases h f with ⟨t, -, he⟩ | ⟨-, he⟩ <;> rw [he]
  rfl

theorem State.trackSerial_sameRx {s t : State} (l : LinkId) (n : Nat) (h : s.SameRx t) :
    s.SameRx (t.trackSerial l n) := by
  refine modLink_sameRx (fun _ => rfl) fun m => ?_
  rw [← h m]
  unfold testSerial
  split
  · rfl
  · split
    · rfl
    · split <;> simp

theorem State.accept_rx (s : State) (l : LinkId) (h : Nat) (m : LinkId) : ((s.accept l h).link m).rx = (s.link m).rx := by
  unfold accept
  split
  · rfl
  · have hstamped : s.SameRx (s.stampReady h) := s.modTake_rx h _
    refine (routingKeeps_sameRx s).route h (fun n => ?_) m
    rw [countLink_rx]
    exact trackSerial_sameRx l _ hstamped n

theorem State.discard_rx (s : State) (l : LinkId) (h : Nat) (m : LinkId) :
    ((s.discard l h).link m).rx = (s.link m).rx :=
  (storelessKeeps_sameRx s).freeTake (s := s.withdraw l) h (fun _ => rfl) m

theorem State.endCopy_rx (s : State) (l : LinkId) (h : Nat) (m : LinkId) :
    ((s.endCopy l h).link m).rx = (s.link m).rx := by
  unfold endCopy
  split
  · rw [accept_rx, modTake_rx]; rfl
  · exact s.discard_rx l h m

/-- The frame abandoned, its link is IDLE (R17). -/
theorem State.abandonFrame_rx (s : State) (l : LinkId) : ((s.abandonFrame l).link l).rx = .idle := by
  unfold abandonFrame
  simp only
  split
  case h_1 | h_2 => rw [endCopy_rx, setRx_rx]
  all_goals rw [setRx_rx]

theorem FaultCode.belongs_linkSource {code : FaultCode} (l : LinkId)
    (h : ∀ src : Fin 26, code.belongs src = decide (src.val < 8)) : code.belongs (linkSource l) = true := by
  rw [h, decide_eq_true_eq]
  exact l.isLt

theorem FaultCode.belongs_circuitSource {code : FaultCode} (i : CircuitId)
    (h : ∀ src : Fin 26, code.belongs src = decide (8 ≤ src.val ∧ src.val < 24)) :
    code.belongs (circuitSource i) = true := by
  rw [h, decide_eq_true_eq]
  have := i.isLt
  simp only [circuitSource]
  omega

/-! ### Parsing, part by part -/

theorem State.setRx_modTake (s : State) (l : LinkId) (r : Rx) (h : Nat) (f : Take → Take) :
    (s.setRx l r).modTake h f = (s.modTake h f).setRx l r := by
  unfold modTake
  have ht : (s.setRx l r).take? h = s.take? h := rfl
  rw [ht]
  split <;> rfl

/-- Truncated and suspect marks set on a record, and nothing else (R33). -/
def Take.Marks (t u : Take) : Prop := u = { t with truncated := u.truncated, suspect := u.suspect }

/-- A link after a byte parsed: its state and its check value alone change, DISABLED is neither entered nor left, and the
record of its frame, if it has one, is the one before. -/
def Link.Parses (k k' : Link) : Prop :=
  k' = { k with rx := k'.rx, crc := k'.crc } ∧ (k'.rx = .disabled ↔ k.rx = .disabled) ∧
    ∀ h ∈ k'.rx.handle?, h ∈ k.rx.handle?

/-- A record just allocated for a copy frame of a link (R10, R32). -/
def Take.Opened (l : LinkId) (t : Take) : Prop := t.state = .filling ∧ t.link = l ∧ t.chain = [] ∧ t.refs = 0

/-- A predicate that the parser of one link keeps: the ends of its frame are kinds of update of their own. -/
structure ParseKeeps (l : LinkId) (P : State → Prop) : Prop extends FaultKeeps P where
  linkCounters : ∀ {s : State} (n : LinkCounters), P s → P (s.modLink l fun k => { k with counters := n })
  parse : ∀ {s : State} {k : Link}, (s.link l).Parses k → P s → P (s.setLink l k)
  openTake : ∀ {s : State} {t : Take}, (s.link l).rx ≠ .disabled →
    Takes.lowestFree s.store.takes 0 < Config.takeRecords → t.Opened l → P s →
    P ((s.putTake (Takes.lowestFree s.store.takes 0) t).setRx l (.text (Takes.lowestFree s.store.takes 0) false))
  mark : ∀ {s : State} (h : Nat) {f : Take → Take}, (∀ t : Take, t.Marks (f t)) → P s → P (s.modTake h f)
  append : ∀ {s : State} {h : Nat} {t : Take} (b : Byte), s.take? h = some t → t.hasRoom = true → P s →
    P (s.putTake h (t.append b))
  grant : ∀ {s : State} (h : Nat) (b : Byte), 0 < s.store.free → P s → P (s.grantSegment h b)
  accept : ∀ {s : State} {h : Nat}, (s.link l).rx.handle? = some h → P s → P ((s.setRx l .idle).accept l h)
  discard : ∀ {s : State} {h : Nat}, (s.link l).rx.handle? = some h → P s → P ((s.setRx l .idle).discard l h)
  withdraw : ∀ {s : State}, P s → P (s.withdraw l)

theorem Rx.ne_disabled_of_handle {r : Rx} {h : Nat} (hr : r.handle? = some h) : r ≠ .disabled := by
  rintro rfl
  cases hr

namespace ParseKeeps

variable {l : LinkId} {P : State → Prop} (hP : ParseKeeps l P) {s : State}
include hP

theorem countLink (p : LinkPoint) (n : Nat) (hs : P s) : P (s.countLink l p n) := hP.linkCounters _ hs

theorem linkFault {code : FaultCode} (hs : P s)
    (hc : ∀ src : Fin 26, code.belongs src = decide (src.val < 8) := by intro; rfl) :
    P (s.recordFault (linkSource l) code) :=
  hP.recordFault (FaultCode.belongs_linkSource l hc) hs

/-- The link put in a state without a record. -/
theorem leave {r : Rx} (hl : (s.link l).rx ≠ .disabled) (hs : P s) (hr : r.handle? = none := by rfl)
    (hd : r ≠ .disabled := by simp) : P (s.setRx l r) :=
  hP.parse ⟨rfl, by simp [hl, hd], by simp [hr]⟩ hs

/-- The link put in a state with the record it has. -/
theorem stay {r : Rx} {h : Nat} (hx : (s.link l).rx.handle? = some h) (hs : P s) (hr : r.handle? = some h := by rfl) :
    P (s.setRx l r) :=
  hP.parse ⟨rfl, by simp [Rx.ne_disabled_of_handle hr, Rx.ne_disabled_of_handle hx], by simp [hr, hx]⟩ hs

/-! #### Takes ended and frames abandoned -/

theorem markAccept {h : Nat} {f : Take → Take} (hf : ∀ t : Take, t.Marks (f t))
    (hx : (s.link l).rx.handle? = some h) (hs : P s) : P (((s.setRx l .idle).modTake h f).accept l h) := by
  rw [State.setRx_modTake]
  exact hP.accept (by rwa [State.modTake_rx]) (hP.mark h hf hs)

theorem endCopy {h : Nat} (hx : (s.link l).rx.handle? = some h) (hs : P s) : P ((s.setRx l .idle).endCopy l h) := by
  unfold State.endCopy
  split
  · exact hP.markAccept (s := s.withdraw l) (fun _ => rfl) hx (hP.withdraw hs)
  · exact hP.discard hx hs

theorem abandonFrame (hl : (s.link l).rx ≠ .disabled) (hs : P s) : P (s.abandonFrame l) := by
  have hfault : P (s.recordFault (linkSource l) .abandoned) := hP.linkFault hs
  unfold State.abandonFrame
  dsimp only
  split
  case h_1 hx | h_2 hx => exact hP.endCopy (by rw [State.recordFault_rx, hx]; rfl) hfault
  all_goals exact hP.leave (by simpa using hl) hfault

theorem endSilentFrame (hs : P s) : P (s.endSilentFrame l) := by
  unfold State.endSilentFrame
  split
  case h_5 => exact hP.leave (by simp [*]) hs
  case h_6 | h_7 => exact hs
  all_goals exact hP.abandonFrame (by simp [*]) hs

/-! #### Frames begun and refused -/

theorem beginFrame (hl : (s.link l).rx ≠ .disabled) (hs : P s) : P (s.beginFrame l) :=
  hP.parse ⟨rfl, by simp [hl], by simp [Rx.handle?]⟩ hs

theorem misplacedBegin (hl : (s.link l).rx ≠ .disabled) (hs : P s) : P (s.misplacedBegin l) :=
  hP.beginFrame (by rw [State.abandonFrame_rx]; simp) (hP.abandonFrame hl hs)

theorem refuseFormat (hl : (s.link l).rx ≠ .disabled) (hs : P s) : P (s.refuseFormat l) :=
  hP.leave (by simpa using hl) (hP.countLink _ _ (hP.linkFault hs))

theorem endDiscarded (hl : (s.link l).rx ≠ .disabled) (hs : P s) : P (s.endDiscarded l) := by
  unfold State.endDiscarded
  split <;> exact hP.leave hl hs

/-! #### Headers -/

theorem completeHeader (h : CopyHeader) (hl : (s.link l).rx ≠ .disabled) (hs : P s) : P (s.completeHeader l h) := by
  unfold State.completeHeader State.allocate
  split
  · exact hP.leave (by simpa using hl) (hP.countLink _ _ hs)
  · split
    · rename_i n s1 ha
      split at ha
      · cases ha
        exact hP.openTake hl ‹_› ⟨rfl, rfl, rfl, rfl⟩ hs
      · cases ha
    · exact hP.leave (by simpa using hl) (hP.linkFault hs)

theorem copyHeaderByte (h : CopyHeader) (b : Byte) (hl : (s.link l).rx ≠ .disabled) (hs : P s) :
    P (s.copyHeaderByte l h b) := by
  unfold State.copyHeaderByte
  split
  · split
    · exact hP.refuseFormat hl hs
    · exact hP.completeHeader h hl hs
  · split
    · exact hP.leave hl hs
    · exact hP.refuseFormat hl hs

theorem serviceHeaderByte (h : ServiceHeader) (b : Byte) (hl : (s.link l).rx ≠ .disabled) (hs : P s) :
    P (s.serviceHeaderByte l h b) := by
  unfold State.serviceHeaderByte State.serviceDigit
  split
  · dsimp only
    split
    · exact hP.refuseFormat hl hs
    · split
      · split <;> exact hP.leave hl hs
      · exact hP.leave hl hs
  · exact hP.refuseFormat hl hs

theorem classByte (b : Byte) (hl : (s.link l).rx ≠ .disabled) (hs : P s) : P (s.classByte l b) := by
  unfold State.classByte
  split
  · exact hP.leave hl hs
  · split
    · split
      · exact hP.leave hl hs
      · exact hP.leave (by simpa using hl) (hP.countLink _ _ hs)
    · exact hP.refuseFormat hl hs

theorem refuseAtEnd (hl : (s.link l).rx ≠ .disabled) (hs : P s) : P ((s.refuseFormat l).endDiscarded l) :=
  hP.endDiscarded (by simp [State.refuseFormat]) (hP.refuseFormat hl hs)

theorem endInHeader (h : Header) (hl : (s.link l).rx ≠ .disabled) (hs : P s) : P (s.endInHeader l h) := by
  unfold State.endInHeader
  cases h with
  | service v =>
    dsimp only
    split
    · exact hP.leave hl hs
    · exact hP.refuseAtEnd hl hs
  | unclassed | copy _ => exact hP.refuseAtEnd hl hs

theorem headerByte (h : Header) (b : Byte) (hl : (s.link l).rx ≠ .disabled) (hs : P s) : P (s.headerByte l h b) := by
  unfold State.headerByte
  split
  · exact hP.misplacedBegin hl hs
  · split
    · exact hP.endInHeader h hl hs
    · cases h with
      | unclassed => exact hP.classByte b hl hs
      | copy c => exact hP.copyHeaderByte c b hl hs
      | service v => exact hP.serviceHeaderByte v b hl hs

/-! #### Text and check bytes -/

theorem endText {h : Nat} (hx : (s.link l).rx.handle? = some h) (hs : P s) : P (s.endText l h) := by
  unfold State.endText
  split
  · exact hP.stay hx hs
  · exact hP.accept hx hs

theorem closeText {h : Nat} (hx : (s.link l).rx.handle? = some h) (hs : P s) : P (s.closeText l h) :=
  hP.stay (by rwa [State.modTake_rx]) (hP.mark h (fun _ => rfl) hs)

theorem checkFailed (hs : P s) : P ((s.recordFault (linkSource l) .check).countLink l .checkFailures 1) :=
  hP.countLink _ _ (hP.linkFault hs)

theorem checkCopyByte {h : Nat} (b : Byte) (hx : (s.link l).rx.handle? = some h) (hs : P s) :
    P (s.checkCopyByte l h b) := by
  unfold State.checkCopyByte
  split
  · exact hP.accept hx hs
  · split
    · exact hP.misplacedBegin (Rx.ne_disabled_of_handle hx) hs
    · dsimp only
      split
      · exact hP.markAccept (fun _ => rfl) (by simpa using hx) (hP.checkFailed hs)
      · exact hP.discard (by simpa using hx) (hP.checkFailed hs)

theorem discardingByte (due : Bool) (b : Byte) (hl : (s.link l).rx ≠ .disabled) (hs : P s) :
    P (s.discardingByte l due b) := by
  unfold State.discardingByte
  split
  · exact hP.leave hl hs
  · split
    · exact hP.beginFrame hl hs
    · split
      · exact hP.endDiscarded hl hs
      · exact hs

theorem overrun (hs : P s) : P (s.overrun l) := by
  have hlost : P ((s.recordFault (linkSource l) .overrun).countLink l .charsLost 1) :=
    hP.countLink _ _ (hP.linkFault hs)
  unfold State.overrun
  dsimp only
  split
  case h_1 h closed hx => exact hP.closeText (by simp [State.withdraw, hx, Rx.handle?]) (hP.withdraw hlost)
  case h_2 h hx => exact hP.leave (by simp [hx]) hlost
  all_goals exact hlost

/-! #### One byte drained: `P` holds once the byte is popped, `Q` of what the link then does -/

variable {Q : State → Prop} (hQ : ∀ {u : State}, P u → Q u)
include hQ

theorem storeByte {h : Nat} {closed : Bool} (b : Byte) (hx : (s.link l).rx = .text h closed)
    (ask : ∀ h closed p, (s.link l).rx = .text h closed → s.store.eligible p = false → Q (s.askSegment l p))
    (hpop : P (s.pop l)) : Q (s.storeByte l h b) := by
  unfold State.storeByte
  split
  · exact hQ hpop
  · rename_i t ht
    split
    · exact hQ (hP.closeText (by simp [State.pop, hx, Rx.handle?]) hpop)
    · split
      · exact hQ (hP.append _ ht ‹_› hpop)
      · split
        · exact hQ (hP.grant h _ (Store.free_pos_of_eligible (st := s.store) ‹_›) hpop)
        · rename_i hno
          exact ask h closed t.prio hx (by simpa using hno)

theorem textByte {h : Nat} {closed : Bool} (b : Byte) (hx : (s.link l).rx = .text h closed)
    (ask : ∀ h closed p, (s.link l).rx = .text h closed → s.store.eligible p = false → Q (s.askSegment l p))
    (hpop : P (s.pop l)) : Q (s.textByte l h closed b) := by
  have hhandle : ((s.pop l).link l).rx.handle? = some h := by simp [State.pop, hx, Rx.handle?]
  unfold State.textByte
  split
  · exact hQ (hP.misplacedBegin (Rx.ne_disabled_of_handle hhandle) hpop)
  · split
    · exact hQ (hP.endText hhandle hpop)
    · split
      · exact hQ hpop
      · split
        · exact hP.storeByte hQ b hx ask hpop
        · exact hQ (hP.countLink _ _ hpop)

theorem checkServiceByte (hand : ∀ {u : State} (r : Request), P u → Q (u.handOver r)) (r : Request) (b : Byte)
    (hl : (s.link l).rx ≠ .disabled) (hs : P s) : Q (s.checkServiceByte l r b) := by
  unfold State.checkServiceByte
  split
  · exact hand r (hP.leave hl hs)
  · split
    · exact hQ (hP.misplacedBegin hl hs)
    · exact hQ (hP.leave (by simpa using hl) (hP.checkFailed hs))

theorem drainByte (hand : ∀ {u : State} (r : Request), P u → Q (u.handOver r)) (b : Byte)
    (ask : ∀ h closed p, (s.link l).rx = .text h closed → s.store.eligible p = false → Q (s.askSegment l p))
    (hpop : P (s.pop l)) (huncovered : P (s.popUncovered l)) : Q (s.drainByte l b) := by
  have hx1 : ((s.pop l).link l).rx = (s.link l).rx := by simp [State.pop]
  have hx2 : ((s.popUncovered l).link l).rx = (s.link l).rx := by simp [State.popUncovered]
  unfold State.drainByte
  split
  case h_1 => exact hQ huncovered
  case h_2 hx =>
    split
    · exact hQ (hP.beginFrame (by simp [hx2, hx]) huncovered)
    · exact hQ (hP.countLink _ _ huncovered)
  case h_3 h hx => exact hQ (hP.headerByte h b (by simp [hx1, hx]) hpop)
  case h_4 h closed hx => exact hP.textByte hQ b hx ask hpop
  case h_5 h hx => exact hQ (hP.checkCopyByte b (by rw [hx2, hx]; rfl) huncovered)
  case h_6 r hx => exact hP.checkServiceByte hQ hand r b (by simp [hx2, hx]) huncovered
  case h_7 due hx =>
    split
    · exact hQ (hP.discardingByte due b (by simp [hx2, hx]) huncovered)
    · exact hQ (hP.discardingByte due b (by simp [hx1, hx]) hpop)

end ParseKeeps

/-! ### Reception: draining, arrival and the timers of a link -/

/-- A predicate that reception keeps: each link's parser, what a link hears besides, and requests for segments. -/
structure HearingKeeps (P : State → Prop) : Prop where
  parse : ∀ l : LinkId, ParseKeeps l P
  hears : ∀ {s : State} {l : LinkId} {k : Link}, (s.link l).Hears k → k.rx = (s.link l).rx → P s → P (s.setLink l k)
  ask : ∀ {s : State} (l : LinkId) {p : Priority}, s.store.eligible p = false → P s → P (s.askSegment l p)
  serve : ∀ {s : State} {w : WaitingRequest}, s.store.nextServed = some w → P s → P (s.grantWaiting w)

namespace HearingKeeps

variable {P : State → Prop} (hP : HearingKeeps P) {s : State}
include hP

theorem pop (l : LinkId) (hs : P s) : P (s.pop l) := hP.hears (Link.drainHead_hears _) (Link.drainHead_rx _) hs

theorem popUncovered (l : LinkId) (hs : P s) : P (s.popUncovered l) :=
  hP.hears ⟨rfl, Iff.rfl, by simp only [List.length_tail]; omega⟩ rfl hs

theorem setSilent (l : LinkId) (hs : P s) : P (s.setSilent l) :=
  (hP.parse l).linkFault (hP.hears (l := l) (k := { s.link l with silent := true }) ⟨rfl, Iff.rfl, by simp⟩ rfl hs)

variable (hand : ∀ {s : State} (r : Request), P s → P (s.handOver r))
include hand

theorem drainByte (l : LinkId) (b : Byte) (hs : P s) : P (s.drainByte l b) :=
  (hP.parse l).drainByte id hand b (fun _ _ _ _ hp => hP.ask l hp hs) (hP.pop l hs) (hP.popUncovered l hs)

theorem drainAll (n : Nat) (hs : P s) : P (drainAll n s) := by
  induction n generalizing s with
  | zero => exact hs
  | succ n ih =>
    unfold Machine.drainAll
    split
    · exact hs
    · rename_i u hu
      unfold State.drainOne at hu
      split at hu
      · cases hu
      · split at hu
        · cases hu
        · cases hu
          exact ih (hP.drainByte hand _ _ hs)

theorem settle (hs : P s) : P s.settle := hP.drainAll hand _ hs

theorem byteArrives (l : LinkId) (b : Byte) (hs : P s) : P (s.byteArrives l b) := by
  unfold State.byteArrives
  split
  · exact hs
  · have hheard : P (s.modLink l fun k => { k with silenceTicks := 0, silent := false }) :=
      hP.hears ⟨rfl, Iff.rfl, by simp⟩ rfl hs
    dsimp only
    split
    · exact hP.settle hand ((hP.parse l).overrun hheard)
    · rename_i hroom
      refine hP.settle hand (hP.hears ⟨rfl, Iff.rfl, ?_⟩ rfl hheard)
      simp only [List.length_append, List.length_singleton]
      omega

theorem segmentGrant (hs : P s) : P s.segmentGrant := by
  unfold State.segmentGrant
  split
  · exact hP.settle hand (hP.serve ‹_› hs)
  · exact hs

theorem silenceExpiry (l : LinkId) (hs : P s) : P (s.silenceExpiry l) := by
  unfold State.silenceExpiry
  split
  · exact hP.setSilent l (hP.settle hand ((hP.parse l).endSilentFrame hs))
  · exact hs

end HearingKeeps

/-! ### A take accepted (R16, R35) -/

namespace RoutingKeeps

variable {P : State → Prop} (hP : RoutingKeeps P) {s : State}
  (track : ∀ {s : State} (l : LinkId) (e : Option Nat) (serial : Nat), P s →
    P (s.modLink l fun k => { k with expected := e, recent := joinRecent k.recent serial }))
include hP track

theorem trackSerial (l : LinkId) (serial : Nat) (hs : P s) : P (s.trackSerial l serial) := by
  have hfault {code : FaultCode} (hc : ∀ src : Fin 26, code.belongs src = decide (src.val < 8)) :
      P (s.recordFault (linkSource l) code) := hP.recordFault (FaultCode.belongs_linkSource l hc) hs
  refine track l _ serial ?_
  unfold State.testSerial
  split
  · exact hs
  · split
    · exact hs
    · split
      · exact hP.countLink _ _ _ (hfault fun _ => rfl)
      · exact hfault fun _ => rfl

theorem accept (l : LinkId) (h : Nat) (hs : P s) : P (s.accept l h) := by
  unfold State.accept
  split
  · exact hs
  · exact hP.route h (hP.countLink _ _ _ (hP.trackSerial track l _ (hP.modTake h (fun _ => rfl) hs)))

end RoutingKeeps

/-! ### A law of the Router, of what links hear and of the store is one of reception -/

namespace ReceptionKeeps

variable {P : State → Prop} (hP : ReceptionKeeps P) {s : State}
include hP

/-- A waiting request served: its link had a byte in TEXT, or the request goes. -/
theorem grantWaiting {w : WaitingRequest} (hw : s.store.nextServed = some w) (hs : P s) : P (s.grantWaiting w) := by
  have hfree := Store.free_pos_of_eligible (Store.nextServed_mem hw).2
  rcases s.grantWaiting_cases w with ⟨h, _, b, _, -, -, he⟩ | ⟨-, he⟩ <;> rw [he]
  · exact hP.grant h _ hfree (hP.hears (Link.drainHead_hears _) (hP.withdraw _ hs))
  · exact hP.withdraw _ hs

theorem setRx {l : LinkId} {r : Rx} (h : r = .disabled ↔ (s.link l).rx = .disabled) (hs : P s) : P (s.setRx l r) :=
  hP.hears ⟨rfl, h, by simp⟩ hs

theorem accept (l : LinkId) (h : Nat) (hs : P s) : P (s.accept l h) := hP.toRoutingKeeps.accept hP.track l h hs

theorem idle_of_handle {l : LinkId} {h : Nat} (hx : (s.link l).rx.handle? = some h) (hs : P s) : P (s.setRx l .idle) :=
  hP.setRx (by simp [Rx.ne_disabled_of_handle hx]) hs

theorem parse (l : LinkId) : ParseKeeps l P where
  toFaultKeeps := hP.toFaultKeeps
  linkCounters := hP.linkCounters l
  parse hk hs := hP.hears ⟨by rw [hk.1], hk.2.1, by rw [hk.1]; exact Nat.le_max_left ..⟩ hs
  openTake hl hlt ht hs := hP.setRx (by simp [State.putTake, hl]) (hP.allocate hlt ht.2.2.1 hs)
  mark h _ hf hs := hP.modTake h (fun t => by rw [hf t]; rfl) hs
  append := hP.append
  grant := hP.grant
  accept hx hs := hP.accept l _ (hP.idle_of_handle hx hs)
  discard hx hs := hP.freeTake _ (hP.withdraw l (hP.idle_of_handle hx hs))
  withdraw := hP.withdraw l

theorem hearing : HearingKeeps P where
  parse := hP.parse
  hears hk _ := hP.hears hk
  ask := hP.ask
  serve := hP.grantWaiting

end ReceptionKeeps

end Sys2Proof.Machine
end

section
/-! Laws kept by the circuits: what a character-time end, an order, the return line and the answer-back are composed of. -/

namespace Sys2Proof.Machine

open Sys2Proof

/-! ### The kinds of update that the circuits add -/

/-- What a circuit controller does to its own circuit, each kind with what is known of the circuit where it does it (R116 to
R152). The passage of the head entry into flight is one kind with the entry into SENDING that follows it. -/
inductive Circuit.LineMove (c : Circuit) : Circuit → Prop
  | applyStaged : LineMove c c.applyStaged
  | relatch : LineMove c c.relatchPacer
  | rest (h : c.state.watchesBreak = false) : LineMove c c.stopModeAtEnd
  | restBroken (h : c.state.watchesBreak = false) : LineMove c (c.levelAtEnd .mark)
  | idleOutput : LineMove c c.idleAtEnd
  | toReady (h : c.state = .ready ∨ c.state = .sending) (hf : c.flight = none) :
    LineMove c ({ c with state := .ready } : Circuit).idleAtEnd
  | launch (h : c.state = .ready ∨ c.state = .sending) (e : Entry) (rest : List Entry) (hq : c.queue = e :: rest)
      (x : Context) :
    LineMove c { c with
      queue := rest, backlog := c.backlog - e.estimate, flight := some { entry := e, ctx := x }, state := .sending }
  | sendOn (h : c.state = .ready ∨ c.state = .sending) : LineMove c { c with state := .sending }
  | char (f : Flight) (hf : c.flight = some f) (ch : FiveUnit) (x : Context) :
    LineMove c { c with slot := .char ch, flight := some { f with ctx := x } }
  | land : LineMove c { c with flight := none }
  | returned (e : Entry) :
    LineMove c { c with
      flight := none, queue := placeResumed c.queue e, backlog := c.backlog + e.estimate }
  | stoppedAtEnd : LineMove c c.enterStoppedAtEnd
  | brokenAtEnd : LineMove c c.applyStaged.enterBrokenAtEnd
  | abandoned (h : c.state = .sending) (hf : c.flight = none) : LineMove c c.endAbandoned
  | identifying (h : c.state = .identifying) : LineMove c c.identifyingEnd
  | intoService (h : c.state.watchesBreak = false) : LineMove c c.intoService
  | stop : LineMove c c.stop
  | stopAtEnd : LineMove c c.stopAtEnd
  | broken (h : c.state.watchesBreak = true) : LineMove c c.broken
  | levelChange : LineMove c c.levelChange
  | hears (receiving : Option Reception) (tracked : ShiftCase) (buffer : List RxChar) :
    LineMove c { c with receiving := receiving, tracked := tracked, buffer := buffer }

/-- How an answer-back, or the end of its window, decides (R125). -/
inductive Circuit.AnswerMove (c : Circuit) : Circuit → Prop
  | identified (h : c.window ≠ none) : AnswerMove c c.identified
  | faulted (h : c.window ≠ none) : AnswerMove c c.enterFaulted

/-- A predicate that the kinds of update keep of which the circuits' work is composed. -/
structure LineKeeps (P : State → Prop) : Prop extends RoutingKeeps P where
  line : ∀ {s : State} {i : CircuitId} {c : Circuit}, (s.circuit i).LineMove c → P s → P (s.setCircuit i c)

/-- A predicate that the decision of an answer-back keeps too. -/
structure AnswerKeeps (P : State → Prop) : Prop extends LineKeeps P where
  answer : ∀ {s : State} {i : CircuitId} {c : Circuit}, (s.circuit i).AnswerMove c → P s → P (s.setCircuit i c)

/-! ### What head selection leaves of a circuit -/

/-- Circuit `i` is in the state and holds the flight it had in `s`. -/
def State.SameFlight (s : State) (i : CircuitId) (t : State) : Prop :=
  (t.circuit i).state = (s.circuit i).state ∧ ((t.circuit i).flight = none ↔ (s.circuit i).flight = none)

theorem Circuit.QueueMove.state_eq {c d : Circuit} (h : c.QueueMove d) : d.state = c.state := by
  cases h <;> rfl

theorem Circuit.QueueMove.flight_none_iff {c d : Circuit} (h : c.QueueMove d) : d.flight = none ↔ c.flight = none := by
  cases h
  case orders f hf _ _ => simp [hf]
  all_goals exact Iff.rfl

theorem storelessKeeps_circuits (P : (CircuitId → Circuit) → Prop) : StorelessKeeps fun t => P t.circuit where
  number _ h := h
  setFault _ h := h
  push _ _ h := h
  store _ h := h
  drainHead _ h := h
  holds _ h := h

theorem routingKeeps_sameFlight (s : State) (i : CircuitId) : RoutingKeeps (s.SameFlight i) := by
  refine (storelessKeeps_circuits fun c =>
    (c i).state = (s.circuit i).state ∧ ((c i).flight = none ↔ (s.circuit i).flight = none)).routing
    (fun _ _ h => h) (fun _ h => h) ?_
  intro t j c hc h
  by_cases hj : i = j
  · subst hj
    rw [State.setCircuit_circuit, if_pos rfl, hc.state_eq, hc.flight_none_iff]
    exact h
  · rw [State.setCircuit_circuit_ne t hj]
    exact h

theorem dropStale_keeps {P : State → Prop} (hP : RoutingKeeps P) (i : CircuitId) (n : Nat) {s : State} (hs : P s) :
    P (dropStale n s i) := by
  induction n generalizing s with
  | zero => exact hs
  | succ n ih =>
    unfold dropStale
    split
    · exact hs
    · split
      · exact ih (hP.countCircuit i _ _ (hP.removeAt i 0 hs))
      · exact hs

/-- Everything the head's passage into flight can do: the head entry leaves the queue and becomes the held entry, or, with
no entry or one that names no record, nothing. -/
theorem State.intoFlight_cases (s : State) (i : CircuitId) (lead stopPending : Bool) :
    s.intoFlight i lead stopPending = s ∨
      ∃ e rest t, (s.circuit i).queue = e :: rest ∧ s.take? e.handle = some t ∧
        s.intoFlight i lead stopPending = s.modCircuit i fun c =>
          { c with
            queue := rest, backlog := c.backlog - e.estimate
            flight := some { entry := e, ctx := freshContext c.active.form e t lead stopPending } } := by
  unfold State.intoFlight
  split
  · exact .inl rfl
  · rename_i e rest hq
    split
    · exact .inl rfl
    · rename_i t ht
      exact .inr ⟨e, rest, t, hq, ht, rfl⟩

namespace LineKeeps

variable {P : State → Prop} (hP : LineKeeps P) {s : State}
include hP

/-! ### Characters and head selection (R74, R75, R131 to R133) -/

theorem putChar {i : CircuitId} {f : Flight} (hf : (s.circuit i).flight = some f) (ch : FiveUnit) (x : Context)
    (u : Nat) (start : Bool) (hs : P s) : P (s.putChar i f ch x u start) := by
  have hchar : P (((s.modCircuit i fun c =>
      { c with slot := .char ch, flight := some { f with ctx := x } }).countCircuit i .unprintable u)) :=
    hP.countCircuit _ _ _ (hP.line (.char f hf ch x) hs)
  unfold State.putChar
  simp only
  split
  · unfold State.reportHeaderStart
    split
    · exact hchar
    · split
      · exact hchar
      · exact hP.modStory _ (fun _ => rfl) hchar
  · exact hchar

theorem emitFirst (i : CircuitId) (hs : P s) : P (s.emitFirst i) := by
  unfold State.emitFirst
  split
  · exact hs
  · rename_i f hf
    split
    · exact hP.putChar hf _ _ _ _ hs
    · exact hs
    · exact hs

theorem sendOrIdle {i : CircuitId} (h : (s.circuit i).state = .ready ∨ (s.circuit i).state = .sending) (hs : P s) :
    P (s.sendOrIdle i) := by
  unfold State.sendOrIdle
  split
  · exact hP.emitFirst i (hP.line (.sendOn h) hs)
  · rename_i hf
    exact hP.line (.toReady h hf) hs

theorem headSelect_sendOrIdle {i : CircuitId} (lead stopPending : Bool)
    (h : (s.circuit i).state = .ready ∨ (s.circuit i).state = .sending) (hs : P s) :
    P ((s.headSelect i lead stopPending).sendOrIdle i) := by
  let u := dropStale (s.circuit i).queue.length s i
  have hu : P u := dropStale_keeps hP.toRoutingKeeps i _ hs
  have hstate : (u.circuit i).state = .ready ∨ (u.circuit i).state = .sending := by
    have hsame : s.SameFlight i u := dropStale_keeps (routingKeeps_sameFlight s i) i _ ⟨rfl, Iff.rfl⟩
    rwa [hsame.1]
  change P ((u.intoFlight i lead stopPending).sendOrIdle i)
  rcases u.intoFlight_cases i lead stopPending with he | ⟨e, rest, t, hq, -, he⟩ <;> rw [he]
  · exact hP.sendOrIdle hstate hu
  · have hsend := hP.emitFirst i (hP.line (.launch hstate e rest hq
      (freshContext (u.circuit i).active.form e t lead stopPending)) hu)
    simpa [State.sendOrIdle, State.modCircuit] using hsend

/-! ### Takes leaving the line (R65, R76, R133) -/

theorem endFlight (i : CircuitId) (f : Flight) (hs : P s) : P (s.endFlight i f) :=
  hP.countCircuit _ _ _ (hP.dropRef _ (hP.line .land hs))

theorem takeEnd (i : CircuitId) (f : Flight) (hs : P s) : P (s.takeEnd i f) :=
  hP.line .applyStaged (hP.countCircuit _ _ _ (hP.endFlight i f hs))

theorem returnTake (i : CircuitId) (f : Flight) (at_ : ReadPos) (hs : P s) : P (s.returnTake i f at_) := by
  unfold State.returnTake
  split
  · exact hP.line .land hs
  · exact hP.countCircuit _ _ _ (hP.line (.returned _) hs)

theorem settleTake (i : CircuitId) (f : Flight) (hs : P s) : P (s.settleTake i f) := by
  unfold State.settleTake
  split
  · exact hP.takeEnd i f hs
  · split
    · exact hP.endFlight i f hs
    · exact hP.returnTake i f _ hs

end LineKeeps

/-! ### The state of the circuit over a take's end -/

theorem State.endFlight_state (s : State) (i : CircuitId) (f : Flight) :
    ((s.endFlight i f).circuit i).state = (s.circuit i).state := by
  have hland : (s.modCircuit i fun c => { c with flight := none }).SameFlight i (s.endFlight i f) :=
    (routingKeeps_sameFlight _ i).countCircuit _ _ _ ((routingKeeps_sameFlight _ i).dropRef _ ⟨rfl, Iff.rfl⟩)
  rw [hland.1, modCircuit_circuit, if_pos rfl]

theorem State.takeEnd_state (s : State) (i : CircuitId) (f : Flight) :
    ((s.takeEnd i f).circuit i).state = (s.circuit i).state := by
  simp only [takeEnd, countCircuit, modCircuit_circuit, if_true]
  exact s.endFlight_state i f

theorem State.returnTake_state (s : State) (i : CircuitId) (f : Flight) (p : ReadPos) :
    ((s.returnTake i f p).circuit i).state = (s.circuit i).state := by
  unfold returnTake
  split <;> simp [countCircuit, Circuit.count]

namespace LineKeeps

variable {P : State → Prop} (hP : LineKeeps P) {s : State}
include hP

/-! ### A character-time end (R96, R116 to R152) -/

theorem sendingEnd {i : CircuitId} {f : Flight} (hf : (s.circuit i).flight = some f)
    (h : (s.circuit i).state = .sending) (hs : P s) : P (s.sendingEnd i f) := by
  unfold State.sendingEnd
  split
  · exact hP.line .stoppedAtEnd (hP.settleTake i f hs)
  · split
    · exact hP.line .brokenAtEnd (hP.settleTake i f hs)
    · split
      · exact hP.putChar hf _ _ _ _ hs
      · split
        · exact hP.line .stoppedAtEnd (hP.takeEnd i f hs)
        · exact hP.headSelect_sendOrIdle _ _ (.inr ((s.takeEnd_state i f).trans h)) (hP.takeEnd i f hs)
      · refine hP.headSelect_sendOrIdle _ _ (.inr ?_) (hP.countCircuit _ _ _ (hP.returnTake i f _ hs))
        simp only [State.countCircuit, Circuit.count, State.modCircuit_circuit, if_true]
        exact (s.returnTake_state i f _).trans h

theorem characterEnd (i : CircuitId) (hs : P s) : P (s.characterEnd i) := by
  unfold State.characterEnd
  split
  case h_1 h | h_2 h => exact hP.line (.rest (by rw [h]; rfl)) hs
  case h_3 h => exact hP.line (.restBroken (by rw [h]; rfl)) hs
  case h_4 h => exact hP.line (.identifying h) hs
  case h_5 h =>
    split
    · exact hP.line .idleOutput hs
    · exact hP.headSelect_sendOrIdle _ _ (.inl h) hs
  case h_6 h =>
    split
    · exact hP.sendingEnd ‹_› h hs
    · exact hP.line (.abandoned h ‹_›) hs

theorem characterTimeEnd (i : CircuitId) (hs : P s) : P (s.characterTimeEnd i) := by
  unfold State.characterTimeEnd
  split
  · exact hP.line .relatch (hP.characterEnd i hs)
  · exact hs

/-! ### Orders, return line and answer-back (R118 to R129) -/

theorem start (i : CircuitId) (hs : P s) : P (s.modCircuit i Circuit.start) := by
  have hsame : P (s.setCircuit i (s.circuit i)) := by rwa [State.setCircuit_self]
  change P (s.setCircuit i (s.circuit i).start)
  unfold Circuit.start
  split
  case h_1 h | h_2 h => exact hP.line (.intoService (by rw [h]; rfl)) hs
  all_goals exact hsame

theorem detectBreak {i : CircuitId} (h : (s.circuit i).state.watchesBreak = true) (hs : P s) : P (s.detectBreak i) := by
  have hfault := hP.countCircuit i .receiverBreaks 1
    (hP.recordFault (FaultCode.belongs_circuitSource (code := .receiverBreak) i fun _ => rfl) hs)
  refine hP.line (.broken ?_) hfault
  have hsame := (routingKeeps_sameFlight s i).countCircuit i .receiverBreaks 1
    ((routingKeeps_sameFlight s i).recordFault
      (FaultCode.belongs_circuitSource (code := .receiverBreak) i fun _ => rfl) ⟨rfl, Iff.rfl⟩)
  rwa [hsame.1]

theorem detectIfDue (i : CircuitId) (hs : P s) : P (s.detectIfDue i) := by
  unfold State.detectIfDue
  split
  · rename_i h
    exact hP.detectBreak (Bool.and_eq_true _ _ ▸ h).1 hs
  · exact hs

theorem restoreIfDue (i : CircuitId) (hs : P s) : P (s.restoreIfDue i) := by
  unfold State.restoreIfDue
  split
  · rename_i h
    have hb : (s.circuit i).state = .broken := of_decide_eq_true (Bool.and_eq_true _ _ ▸ h).1
    exact hP.line (.intoService (by rw [hb]; rfl)) hs
  · exact hs

end LineKeeps

namespace AnswerKeeps

variable {P : State → Prop} (hP : AnswerKeeps P) {s : State}
include hP

theorem faultedWith {i : CircuitId} {code : FaultCode}
    (hc : ∀ src : Fin 26, code.belongs src = decide (8 ≤ src.val ∧ src.val < 24))
    (hw : (s.circuit i).window ≠ none) (hs : P s) :
    P ((s.recordFault (circuitSource i) code).modCircuit i (·.enterFaulted)) := by
  have hfault := hP.recordFault (FaultCode.belongs_circuitSource i hc) hs
  refine hP.answer (.faulted ?_) hfault
  exact (storelessKeeps_circuits fun c => (c i).window ≠ none).recordFault
    (FaultCode.belongs_circuitSource i hc) hw

theorem answerback {i : CircuitId} {w : Window} (code : Code5) (hw : (s.circuit i).window = some w) (hs : P s) :
    P (s.answerback i w code) := by
  have h1 : P (s.modCircuit i fun c => { c with receiving := none }) := hP.line (.hears _ _ _) hs
  unfold State.answerback
  simp only
  split
  · exact hP.line (.hears _ _ _) h1
  · exact h1
  · rename_i ch _
    have h2 : P (s.setCircuit i { s.circuit i with receiving := none, buffer := (s.circuit i).buffer ++ [ch] }) :=
      hP.line (.hears _ _ _) hs
    have hu : ((s.modCircuit i fun c => { c with receiving := none }).modCircuit i fun c =>
        { c with buffer := c.buffer ++ [ch] }) = s.setCircuit i
          { s.circuit i with receiving := none, buffer := (s.circuit i).buffer ++ [ch] } := by
      simp [State.modCircuit]
    rw [hu]
    split
    · split
      · exact hP.answer (.identified (by simp [hw])) h2
      · exact hP.faultedWith (fun _ => rfl) (by simp [hw]) h2
    · exact h2

theorem answerbackCharacter (i : CircuitId) (code : Code5) (hs : P s) : P (s.answerbackCharacter i code) := by
  unfold State.answerbackCharacter
  split
  · split
    · exact hP.answerback code ‹_› hs
    · exact hs
  · exact hs

theorem noAnswerback (i : CircuitId) (hs : P s) : P (s.noAnswerback i) := by
  unfold State.noAnswerback
  split
  · rename_i h
    refine hP.faultedWith (fun _ => rfl) (fun hw => ?_) hs
    simp [Circuit.windowExpired, hw] at h
  · exact hs

end AnswerKeeps

end Sys2Proof.Machine
end

section
/-! Laws kept by the whole step: the writes of the tables, the other requests, time and reset, and the command at the front
of the queue. -/

namespace Sys2Proof.Machine

open Sys2Proof

/-! ### The kinds of update that requests, time and reset add -/

/-- What a TABLE WRITE does to a circuit (R126, R147, R148): a value is staged or becomes active, in range where those
before it were, and a stop mode written shows. -/
inductive Circuit.WriteMove (c : Circuit) : Circuit → Prop
  | stage (g : Staged) (h : c.staged.inRange → g.inRange) : WriteMove c { c with staged := g }
  | profile (p : Profile) (h : c.active.inRange → p.inRange) : WriteMove c { c with active := p }
  | showStopMode : WriteMove c c.showStopMode

/-- The fields of a link profile are in range (R1). -/
abbrev LinkProfile.inRange (p : LinkProfile) : Prop :=
  (100 ≤ p.holdLimit ∧ p.holdLimit ≤ 60000) ∧ p.silenceLimit ≤ 3600 ∧ p.tag.length = 2 ∧ p.tag.all isLetter = true

/-- A link turned by link control or hold expiry, before its hold line is put to what R20 calls for (R21 to R23). -/
def Link.Turned (k k' : Link) : Prop :=
  k' = { k with
    rx := k'.rx, fifo := k'.fifo, expected := k'.expected, recent := k'.recent, silenceTicks := k'.silenceTicks
    silent := k'.silent, holdSpent := k'.holdSpent } ∧
  k'.fifo.length ≤ k.fifo.length ∧ (k'.recent = k.recent ∨ k'.recent = [])

/-- The service settings are in range (R164). -/
abbrev Settings.inRange (g : Settings) : Prop := g.secondCode ≤ 62 ∧ g.retry ≤ 255 ∧ g.watchPeriod ≤ 3600

/-- The day clock shows a time of day (R169). -/
abbrev DayClock.inRange (c : DayClock) : Prop := c.hours < 24 ∧ c.minutes < 60 ∧ c.seconds < 60

/-- What a write of the substitution table puts in an entry (R84, R85). -/
inductive SubstMove (t : Vector SubstEntry 32) (n : Fin 32) : SubstEntry → Prop
  | clear : SubstMove t n { t[n] with source := none }
  | source (b : Byte) (hb : (isNonDirectPrintable b || isHigh b) = true)
      (hn : ∀ j : Fin 32, j ≠ n → t[j].source ≠ some b) : SubstMove t n { t[n] with source := some b }
  | replacement (cs : List Byte) (hlen : cs.length ≤ 3) (hw : cs.all isWordChar = true) :
    SubstMove t n { t[n] with replacement := cs }

/-- The store with other settings (R25). -/
def Store.withSettings (st : Store) (reserve lowWater highWater : Nat) : Store :=
  { st with reserve := reserve, lowWater := lowWater, highWater := highWater }

/-- A predicate that every kind of update keeps of which a step is composed, the decision of an answer-back apart. -/
structure UpdateKeeps (P : State → Prop) : Prop extends ReceptionKeeps P, LineKeeps P where
  pending : ∀ {s : State} (cs : List Instr), P s → P { s with pending := cs }
  reset : ∀ {s : State} (straps : BitVec 6), P s → P (s.hardwareReset straps)
  assert : ∀ {s : State}, P s → P s.assertReset
  pin : ∀ {s : State} (i : CircuitId), P s → P (s.modCircuit i fun c => { c with returnMark := !c.returnMark })
  tick : ∀ {s : State}, P s → P s.tick
  clock : ∀ {s : State} (c : DayClock), (s.clock.inRange → c.inRange) → P s → P { s with clock := c }
  service : ∀ {s : State} (rs : List Request) (x : Option RetryTimer) (m n : Counter),
    rs.length ≤ max s.requests.length Config.requestQueue → P s →
    P { s with requests := rs, retryTimer := x, requestsDone := m, requestsTimedOut := n }
  watchList : ∀ {s : State} (ps : List WatchPoint), ps.length ≤ Config.watchPoints → P s → P { s with watch := ps }
  watchTimer : ∀ {s : State} (x : Option Nat), P s → P { s with watchTimer := x }
  clearFaults : ∀ {s : State}, P s → P s.clearFaults
  frameSent : ∀ {s : State} (l : LinkId), P s → P (s.modLink l Link.frameSent)
  reserveGrants : ∀ {s : State} (n : Counter), P s → P (s.modStore fun st => { st with reserveGrants := n })
  restart : ∀ {s : State}, P s → P s.copyRestart
  settings : ∀ {s : State} (g : Settings), (s.settings.inRange → g.inRange) → P s → P { s with settings := g }
  route : ∀ {s : State} (n : Nat) (f : RouteEntry → RouteEntry),
    (∀ e : RouteEntry, -2 ≤ e.adjust ∧ e.adjust ≤ 2 → -2 ≤ (f e).adjust ∧ (f e).adjust ≤ 2) → P s → P (s.modRoute n f)
  subst : ∀ {s : State} (n : Fin 32) {e : SubstEntry}, SubstMove s.subst n e → P s →
    P { s with subst := s.subst.set n e }
  setting : ∀ {s : State} (reserve lowWater highWater : Nat),
    (s.store.withSettings reserve lowWater highWater).ordered = true → P s →
    P (({ s with store := s.store.withSettings reserve lowWater highWater } : State).storeWritten
      (decide (reserve < s.store.reserve)))
  turn : ∀ {s : State} {l : LinkId} {k : Link}, (s.link l).Turned k → P s →
    P (s.setLink l (k.refreshHold s.store.low))
  linkProfile : ∀ {s : State} (l : LinkId) (p : LinkProfile),
    ((s.link l).profile.inRange → p.inRange) → p.holdCapable = (s.link l).profile.holdCapable → P s →
    P (s.modLink l fun k => { k with profile := p })
  holdCapable : ∀ {s : State} (l : LinkId) (b : Bool), P s →
    P ((s.modLinkProfile l fun p => { p with holdCapable := b }).refreshHold l)
  write : ∀ {s : State} {i : CircuitId} {c : Circuit}, (s.circuit i).WriteMove c → P s → P (s.setCircuit i c)

/-- A predicate that every kind of update keeps of which a step is composed. -/
structure StepKeeps (P : State → Prop) : Prop extends UpdateKeeps P where
  answer : ∀ {s : State} {i : CircuitId} {c : Circuit}, (s.circuit i).AnswerMove c → P s → P (s.setCircuit i c)

/-- A link turned between frames or under its hold (R21, R22): it keeps state and FIFO, or it has neither bytes nor a
frame. -/
def Link.Switched (k k' : Link) : Prop :=
  k' = { k with
    rx := k'.rx, fifo := k'.fifo, silenceTicks := k'.silenceTicks, silent := k'.silent, holdSpent := k'.holdSpent } ∧
  ((k'.rx = k.rx ∧ k'.fifo = k.fifo) ∨ (k'.fifo = [] ∧ k'.rx.handle? = none))

theorem Link.Switched.turned {k k' : Link} (h : k.Switched k') : k.Turned k' := by
  obtain ⟨he, hfifo⟩ := h
  refine ⟨by rw [he], ?_, .inl (by rw [he])⟩
  rcases hfifo with ⟨-, hf⟩ | ⟨hf, -⟩ <;> rw [hf]
  exact Nat.zero_le _

/-- A predicate that the requests keep, LINK RESET apart: the orders to a circuit, FLUSH and TAKE SPIKE are kinds of update
of their own. -/
structure RequestKeeps (P : State → Prop) : Prop extends FaultKeeps P where
  linkCounters : ∀ {s : State} (l : LinkId) (n : LinkCounters), P s → P (s.modLink l fun k => { k with counters := n })
  counters : ∀ {s : State} (i : CircuitId) (n : CircuitCounters), P s →
    P (s.modCircuit i fun c => { c with counters := n })
  start : ∀ {s : State} (i : CircuitId), P s → P (s.modCircuit i Circuit.start)
  stop : ∀ {s : State} (i : CircuitId), P s → P (s.modCircuit i Circuit.stop)
  stopAtEnd : ∀ {s : State} (i : CircuitId), P s → P (s.modCircuit i Circuit.stopAtEnd)
  detectIfDue : ∀ {s : State} (i : CircuitId), P s → P (s.detectIfDue i)
  restoreIfDue : ∀ {s : State} (i : CircuitId), P s → P (s.restoreIfDue i)
  flush : ∀ {s : State} (i : CircuitId), P s → P (s.flush i)
  spikeAll : ∀ {s : State} (hs : List Nat), P s → P (s.spikeAll hs)
  clock : ∀ {s : State} (c : DayClock), (s.clock.inRange → c.inRange) → P s → P { s with clock := c }
  service : ∀ {s : State} (rs : List Request) (x : Option RetryTimer) (m n : Counter),
    rs.length ≤ max s.requests.length Config.requestQueue → P s →
    P { s with requests := rs, retryTimer := x, requestsDone := m, requestsTimedOut := n }
  watchList : ∀ {s : State} (ps : List WatchPoint), ps.length ≤ Config.watchPoints → P s → P { s with watch := ps }
  watchTimer : ∀ {s : State} (x : Option Nat), P s → P { s with watchTimer := x }
  clearFaults : ∀ {s : State}, P s → P s.clearFaults
  reserveGrants : ∀ {s : State} (n : Counter), P s → P (s.modStore fun st => { st with reserveGrants := n })
  restart : ∀ {s : State}, P s → P s.copyRestart
  settings : ∀ {s : State} (g : Settings), (s.settings.inRange → g.inRange) → P s → P { s with settings := g }
  route : ∀ {s : State} (n : Nat) (f : RouteEntry → RouteEntry),
    (∀ e : RouteEntry, -2 ≤ e.adjust ∧ e.adjust ≤ 2 → -2 ≤ (f e).adjust ∧ (f e).adjust ≤ 2) → P s → P (s.modRoute n f)
  subst : ∀ {s : State} (n : Fin 32) {e : SubstEntry}, SubstMove s.subst n e → P s →
    P { s with subst := s.subst.set n e }
  setting : ∀ {s : State} (reserve lowWater highWater : Nat),
    (s.store.withSettings reserve lowWater highWater).ordered = true → P s →
    P (({ s with store := s.store.withSettings reserve lowWater highWater } : State).storeWritten
      (decide (reserve < s.store.reserve)))
  switch : ∀ {s : State} {l : LinkId} {k : Link}, (s.link l).Switched k → P s →
    P (s.setLink l (k.refreshHold s.store.low))
  linkProfile : ∀ {s : State} (l : LinkId) (p : LinkProfile),
    ((s.link l).profile.inRange → p.inRange) → p.holdCapable = (s.link l).profile.holdCapable → P s →
    P (s.modLink l fun k => { k with profile := p })
  holdCapable : ∀ {s : State} (l : LinkId) (b : Bool), P s →
    P ((s.modLinkProfile l fun p => { p with holdCapable := b }).refreshHold l)
  silence : ∀ {s : State} (l : LinkId), P s → P (s.modLink l (·.silenceWritten))
  write : ∀ {s : State} {i : CircuitId} {c : Circuit}, (s.circuit i).WriteMove c → P s → P (s.setCircuit i c)

/-! ### What a request leaves when it is answered, and a write when it is taken -/

/-- Where the request is answered, the state after its effect satisfies a predicate. -/
def Performed.Keeps (P : State → Prop) : Performed → Prop
  | .waits => True
  | .answered _ _ _ u => P u

/-- Where the write is taken, the state after it satisfies a predicate. -/
def Written.Keeps (P : State → Prop) : Written → Prop
  | .refused => True
  | .taken _ _ _ u => P u

theorem Performed.Keeps.mono {P Q : State → Prop} (h : ∀ {u : State}, P u → Q u) {x : Performed} (hx : x.Keeps P) :
    x.Keeps Q := by
  cases x with
  | waits => trivial
  | answered _ _ _ u => exact h hx

theorem Performed.ite_keeps {P : State → Prop} {c : Prop} [Decidable c] {a b : Performed} (ha : a.Keeps P)
    (hb : b.Keeps P) : (if c then a else b).Keeps P := by
  split <;> assumption

theorem Written.exact_keeps {P : State → Prop} {α : Type} {v : Option α} {form : α → List Byte} {act : α → State}
    (h : ∀ x, v = some x → P (act x)) : (Written.exact v form act).Keeps P := by
  unfold Written.exact
  split
  · exact h _ rfl
  · trivial

theorem Written.number_keeps {P : State → Prop} {v : Option Nat} {lo hi : Nat} {form : Nat → List Byte}
    {act : Nat → State} (hle : lo ≤ hi) (h : ∀ n, lo ≤ n → n ≤ hi → P (act n)) :
    (Written.number v lo hi form act).Keeps P := by
  unfold Written.number
  split
  · exact h _ (Nat.le_max_left ..) (Nat.max_le.2 ⟨hle, Nat.min_le_left ..⟩)
  · trivial

theorem Written.ite_keeps {P : State → Prop} {c : Prop} [Decidable c] {w : Written} {o : Option Written}
    (hw : w.Keeps P) (ho : ∀ x ∈ o, x.Keeps P) : ∀ x ∈ (if c then some w else o), x.Keeps P := by
  split
  · rintro x ⟨⟩
    exact hw
  · exact ho

theorem staged_inRange {lo hi n : Nat} (hlo : lo ≤ n) (hhi : n ≤ hi) : ∀ m ∈ some n, lo ≤ m ∧ m ≤ hi := by
  rintro m ⟨⟩
  exact ⟨hlo, hhi⟩

theorem readString_length {most : Nat} {v cs : List Byte} (h : readString most v = some cs) : cs.length ≤ most := by
  unfold readString at h
  split at h
  · split at h
    · cases h
      exact (List.length_take_le ..).trans (by omega)
    · cases h
  · cases h

theorem readPoints_length {n : Nat} {bytes : List Byte} {ps : List WatchPoint} (h : readPoints n bytes = some ps) :
    ps.length = n := by
  induction n generalizing bytes ps with
  | zero => cases bytes <;> cases h <;> rfl
  | succ n ih =>
    match bytes, h with
    | kind :: index :: id :: rest, h =>
      simp only [readPoints] at h
      split at h
      · rename_i hrest
        cases h
        rw [List.length_cons, ih hrest]
      · cases h

theorem DayClock.nextSecond_inRange (c : DayClock) {n : Nat} (h : c.inRange) :
    ({ c.nextSecond with ticks := n } : DayClock).inRange := by
  obtain ⟨hh, hm, hs⟩ := h
  unfold nextSecond
  split_ifs <;> refine ⟨?_, ?_, ?_⟩ <;> dsimp only <;> omega

theorem State.modLink_refreshHold (s : State) (l : LinkId) (f : Link → Link) :
    (s.modLink l f).refreshHold l = s.setLink l ((f (s.link l)).refreshHold s.store.low) := by
  simp [refreshHold, modLink]

theorem PerClass.get_set {α : Type} (v : PerClass α) (p q : Priority) (x : α) :
    (v.set p x).get q = if q = p then x else v.get q := by
  cases p <;> cases q <;> rfl

theorem PerClass.forall_get_set {α : Type} {v : PerClass α} {p : Priority} {x : α} {Q : α → Prop} {qs : List Priority}
    (hx : Q x) (hv : ∀ q ∈ qs, Q (v.get q)) : ∀ q ∈ qs, Q ((v.set p x).get q) := by
  intro q hq
  rw [get_set]
  split
  · exact hx
  · exact hv q hq

namespace RequestKeeps

variable {P : State → Prop} (hP : RequestKeeps P) {s : State}
include hP

/-! ### Table writes (R163) -/

theorem modProfile (i : CircuitId) {f : Profile → Profile}
    (hf : (s.circuit i).active.inRange → (f (s.circuit i).active).inRange) (hs : P s) : P (s.modProfile i f) :=
  hP.write (.profile _ hf) hs

theorem setAccepting (i : CircuitId) (b : Bool) (hs : P s) : P (s.modCircuit i (·.setAccepting b)) :=
  hP.modProfile i (f := fun p => { p with accepting := b }) id hs

theorem writeForm (i : CircuitId) (limited : Bool) (held : List Byte) {stage : Staged → Staged} {act : Form → Form}
    (hg : ∀ g : Staged, g.inRange → (stage g).inRange) (hf : ∀ f : Form, f.inRange → (act f).inRange) (hs : P s) :
    (s.writeForm i limited held stage act).Keeps P := by
  unfold State.writeForm
  split
  · exact hP.write (.stage _ (hg _)) hs
  · exact hP.write (.profile _ fun h => ⟨hf _ h.1, h.2⟩) hs

theorem writeFormNum (i : CircuitId) (v : Option Nat) {lo hi : Nat} (form : Nat → List Byte)
    {stage : Nat → Staged → Staged} {act : Nat → Form → Form} (hle : lo ≤ hi)
    (hg : ∀ n, lo ≤ n → n ≤ hi → ∀ g : Staged, g.inRange → (stage n g).inRange)
    (hf : ∀ n, lo ≤ n → n ≤ hi → ∀ f : Form, f.inRange → (act n f).inRange) (hs : P s) :
    (s.writeFormNum i v lo hi form stage act).Keeps P := by
  unfold State.writeFormNum
  split
  · rename_i n
    have hlo : lo ≤ (limit lo hi n).1 := Nat.le_max_left ..
    have hhi : (limit lo hi n).1 ≤ hi := Nat.max_le.2 ⟨hle, Nat.min_le_left ..⟩
    exact hP.writeForm i _ _ (hg _ hlo hhi) (hf _ hlo hhi) hs
  · trivial

theorem writeFormExact {α : Type} (i : CircuitId) (v : Option α) (form : α → List Byte)
    {stage : α → Staged → Staged} {act : α → Form → Form} (hg : ∀ x (g : Staged), g.inRange → (stage x g).inRange)
    (hf : ∀ x (f : Form), f.inRange → (act x f).inRange) (hs : P s) :
    (s.writeFormExact i v form stage act).Keeps P := by
  unfold State.writeFormExact
  split
  · exact hP.writeForm i _ _ (hg _) (hf _) hs
  · trivial

theorem writeStagedField (i : CircuitId) (f : Byte) (v : List Byte) (hs : P s) :
    ∀ w ∈ s.writeStagedField i f v, w.Keeps P := by
  unfold State.writeStagedField
  refine Written.ite_keeps ?period <| Written.ite_keeps ?stop <| Written.ite_keeps ?width <| Written.ite_keeps ?nCR <|
    Written.ite_keeps ?nLF <| Written.ite_keeps ?reassert <| Written.ite_keeps ?unshift <|
    Written.ite_keeps ?spacing ?bells
  case stop | reassert | unshift | spacing => exact hP.writeFormExact i _ _ (fun _ _ h => h) (fun _ _ h => h) hs
  case period =>
    exact hP.writeFormNum i _ _ (by decide) (fun n hlo hhi g h => ⟨staged_inRange hlo hhi, h.2⟩)
      (fun n hlo hhi g h => ⟨⟨hlo, hhi⟩, h.2⟩) hs
  case width =>
    exact hP.writeFormNum i _ _ (by decide) (fun n hlo hhi g h => ⟨h.1, staged_inRange hlo hhi, h.2.2⟩)
      (fun n hlo hhi g h => ⟨h.1, ⟨hlo, hhi⟩, h.2.2⟩) hs
  case nCR =>
    exact hP.writeFormNum i _ _ (by decide) (fun n hlo hhi g ⟨hp, hw, _, h⟩ => ⟨hp, hw, staged_inRange hlo hhi, h⟩)
      (fun n hlo hhi g ⟨hp, hw, _, h⟩ => ⟨hp, hw, ⟨hlo, hhi⟩, h⟩) hs
  case nLF =>
    exact hP.writeFormNum i _ _ (by decide)
      (fun n hlo hhi g ⟨hp, hw, hc, _, h⟩ => ⟨hp, hw, hc, staged_inRange hlo hhi, h⟩)
      (fun n hlo hhi g ⟨hp, hw, hc, _, h⟩ => ⟨hp, hw, hc, ⟨hlo, hhi⟩, h⟩) hs
  case bells =>
    intro w hw
    obtain ⟨p, -, rfl⟩ := Option.map_eq_some_iff.1 hw
    exact hP.writeFormNum i _ _ (by decide)
      (fun n _ hhi g ⟨hp, hw, hc, hl, h⟩ => ⟨hp, hw, hc, hl, PerClass.forall_get_set (Q := fun o => ∀ m ∈ o, m ≤ 15) (by rintro m ⟨⟩; exact hhi) h⟩)
      (fun n _ hhi g ⟨hp, hw, hc, hl, h⟩ => ⟨hp, hw, hc, hl, PerClass.forall_get_set (Q := (· ≤ 15)) hhi h⟩) hs

theorem writePlainField (i : CircuitId) (f : Byte) (v : List Byte) (hs : P s) :
    ∀ w ∈ s.writePlainField i f v, w.Keeps P := by
  unfold State.writePlainField
  refine Written.ite_keeps ?stopMode <| Written.ite_keeps ?idleMode <| Written.ite_keeps ?accepting <|
    Written.ite_keeps ?abCheck <| Written.ite_keeps ?abExpected <| Written.ite_keeps ?abWindow <|
    Written.ite_keeps ?breakDetect <| Written.ite_keeps ?restoreTime <| Written.ite_keeps ?breakInLevel <|
    Written.ite_keeps ?breakInWait <| Written.ite_keeps ?depth <| Written.ite_keeps ?shed ?stale
  case idleMode | breakInLevel => exact Written.exact_keeps fun _ _ => hP.modProfile i id hs
  case accepting => exact Written.exact_keeps fun b _ => hP.setAccepting i b hs
  case stopMode => exact Written.exact_keeps fun _ _ => hP.write .showStopMode (hP.modProfile i id hs)
  case abCheck =>
    unfold State.writeAbCheck
    split
    · rename_i b _
      split
      · trivial
      · rename_i hno
        refine hP.modProfile i (fun ⟨hf, ⟨hlen, _⟩, h⟩ => ⟨hf, ⟨hlen, fun hb hnil => hno ⟨hb, hnil⟩⟩, h⟩) hs
    · trivial
  case abExpected =>
    unfold State.writeAbExpected
    split
    · rename_i cs hcs
      split
      · trivial
      · rename_i hno
        refine hP.modProfile i (fun ⟨hf, _, h⟩ => ⟨hf, ⟨readString_length hcs, fun hb hnil => ?_⟩, h⟩) hs
        exact hno (.inr ⟨hnil, hb⟩)
    · trivial
  case abWindow =>
    exact Written.number_keeps (by decide) fun n hlo hhi =>
      hP.modProfile i (fun ⟨hf, ha, _, h⟩ => ⟨hf, ha, ⟨hlo, hhi⟩, h⟩) hs
  case breakDetect =>
    exact Written.number_keeps (by decide) fun n hlo hhi => hP.detectIfDue i
      (hP.modProfile i (fun ⟨hf, ha, hw, _, h⟩ => ⟨hf, ha, hw, ⟨hlo, hhi⟩, h⟩) hs)
  case restoreTime =>
    exact Written.number_keeps (by decide) fun n hlo hhi => hP.restoreIfDue i
      (hP.modProfile i (fun ⟨hf, ha, hw, hb, _, h⟩ => ⟨hf, ha, hw, hb, ⟨hlo, hhi⟩, h⟩) hs)
  case breakInWait =>
    exact Written.number_keeps (by decide) fun n _ hhi =>
      hP.modProfile i (fun ⟨hf, ha, hw, hb, hr, _, h⟩ => ⟨hf, ha, hw, hb, hr, hhi, h⟩) hs
  case depth =>
    exact Written.number_keeps (by decide) fun n hlo hhi =>
      hP.modProfile i (fun ⟨hf, ha, hw, hb, hr, hi, _, h⟩ => ⟨hf, ha, hw, hb, hr, hi, ⟨hlo, hhi⟩, h⟩) hs
  case shed =>
    exact Written.number_keeps (by decide) fun n _ hhi =>
      hP.modProfile i (fun ⟨hf, ha, hw, hb, hr, hi, hd, _, h⟩ => ⟨hf, ha, hw, hb, hr, hi, hd, hhi, h⟩) hs
  case stale =>
    intro w hw
    obtain ⟨p, -, rfl⟩ := Option.map_eq_some_iff.1 hw
    exact Written.number_keeps (by decide) fun n _ hhi =>
      hP.modProfile i (fun ⟨hf, ha, hw, hb, hr, hi, hd, hsh, h⟩ =>
        ⟨hf, ha, hw, hb, hr, hi, hd, hsh, PerClass.forall_get_set (Q := (· ≤ 1440)) hhi h⟩) hs

theorem writeCircuit (n : Nat) (f : Byte) (v : List Byte) (hs : P s) : ∀ w ∈ s.writeCircuit n f v, w.Keeps P := by
  intro w hw
  unfold State.writeCircuit at hw
  split at hw
  · cases hw
    exact hP.writeStagedField _ f v hs _ ‹_›
  · exact hP.writePlainField _ f v hs w hw

theorem writeRoute (n : Nat) (f : Byte) (v : List Byte) (hs : P s) : ∀ w ∈ s.writeRoute n f v, w.Keeps P := by
  unfold State.writeRoute
  refine Written.ite_keeps ?enabled <| Written.ite_keeps ?circuits <| Written.ite_keeps ?adjust (by simp)
  case enabled | circuits => exact Written.exact_keeps fun _ _ => hP.route n _ (fun _ h => h) hs
  case adjust =>
    split
    · rename_i a _
      have hlo : -2 ≤ (limitInt (-2) 2 a).1 := Int.le_max_left ..
      have hhi : (limitInt (-2) 2 a).1 ≤ 2 := Int.max_le.2 ⟨by decide, Int.min_le_left ..⟩
      exact hP.route n _ (fun _ _ => ⟨hlo, hhi⟩) hs
    · trivial

theorem switched {l : LinkId} {f : Link → Link} (hf : (s.link l).Switched (f (s.link l))) (hs : P s) :
    P ((s.modLink l f).refreshHold l) := by
  rw [State.modLink_refreshHold]
  exact hP.switch hf hs

theorem expireHold (l : LinkId) (hs : P s) : P (s.expireHold l) := by
  have hspent : P ((s.modLink l fun k => { k with holdSpent := true }).refreshHold l) :=
    hP.switched ⟨rfl, .inl ⟨rfl, rfl⟩⟩ hs
  exact hP.linkCounters l _ (hP.recordFault (FaultCode.belongs_linkSource (code := .holdExpired) l fun _ => rfl) hspent)

theorem expireHoldIfDue (l : LinkId) (hs : P s) : P (s.expireHoldIfDue l) := by
  unfold State.expireHoldIfDue
  split
  · exact hP.expireHold l hs
  · exact hs

theorem enableLink (l : LinkId) (hs : P s) : P (s.enableLink l) := by
  unfold State.enableLink
  split
  · exact hP.switched ⟨rfl, .inr ⟨rfl, rfl⟩⟩ hs
  · exact hs

theorem disableLink (l : LinkId) (hs : P s) : P (s.disableLink l) := by
  unfold State.disableLink
  split
  · exact hs
  · exact hP.switched ⟨rfl, .inr ⟨rfl, rfl⟩⟩ hs

theorem modLinkProfile (l : LinkId) {f : LinkProfile → LinkProfile}
    (hf : (s.link l).profile.inRange → (f (s.link l).profile).inRange)
    (hh : (f (s.link l).profile).holdCapable = (s.link l).profile.holdCapable) (hs : P s) : P (s.modLinkProfile l f) :=
  hP.linkProfile l _ hf hh hs

theorem writeLink (n : Nat) (f : Byte) (v : List Byte) (hs : P s) : ∀ w ∈ s.writeLink n f v, w.Keeps P := by
  unfold State.writeLink
  refine Written.ite_keeps ?enabled <| Written.ite_keeps ?rate <| Written.ite_keeps ?check <| Written.ite_keeps ?poly <|
    Written.ite_keeps ?init <| Written.ite_keeps ?policy <| Written.ite_keeps ?holdCapable <|
    Written.ite_keeps ?holdLimit <| Written.ite_keeps ?permitted <| Written.ite_keeps ?tag <|
    Written.ite_keeps ?silenceLimit <| Written.ite_keeps ?dupSuppress (by simp)
  case rate | check | poly | init | policy | permitted | dupSuppress =>
    exact Written.exact_keeps fun _ _ => hP.modLinkProfile _ id rfl hs
  case enabled =>
    refine Written.exact_keeps fun b _ => ?_
    split
    · exact hP.enableLink _ hs
    · exact hP.disableLink _ hs
  case holdCapable => exact Written.exact_keeps fun b _ => hP.holdCapable _ b hs
  case holdLimit =>
    exact Written.number_keeps (by decide) fun m hlo hhi =>
      hP.expireHoldIfDue _ (hP.modLinkProfile _ (fun ⟨_, h⟩ => ⟨⟨hlo, hhi⟩, h⟩) rfl hs)
  case tag =>
    refine Written.exact_keeps fun cs hcs => ?_
    have htag : cs.length = 2 ∧ cs.all isLetter = true := by
      unfold readTag at hcs
      split at hcs
      · split at hcs
        · cases hcs
          assumption
        · cases hcs
      · cases hcs
    exact hP.modLinkProfile _ (fun ⟨hl, hsil, _⟩ => ⟨hl, hsil, htag⟩) rfl hs
  case silenceLimit =>
    exact Written.number_keeps (by decide) fun m _ hhi => hP.silence _
      (hP.modLinkProfile _ (fun ⟨hl, _, h⟩ => ⟨hl, hhi, h⟩) rfl hs)

theorem writeSubst (n : Nat) (f : Byte) (v : List Byte) (hs : P s) : ∀ w ∈ s.writeSubst n f v, w.Keeps P := by
  unfold State.writeSubst
  refine Written.ite_keeps ?source <| Written.ite_keeps ?replacement (by simp)
  case source =>
    unfold State.writeSource
    split
    · trivial
    · split
      · exact hP.subst _ .clear hs
      · split
        · rename_i b _ _ hb
          rw [Bool.and_eq_true] at hb
          refine hP.subst _ (.source b hb.1 fun j hj => ?_) hs
          have helse := hb.2
          simp only [sourceElsewhere, Bool.not_eq_true', List.any_eq_false, List.mem_finRange, forall_const,
            Bool.and_eq_true, decide_eq_true_eq, not_and] at helse
          exact helse j hj
        · trivial
  case replacement =>
    split
    · rename_i cs hcs
      split
      · exact hP.subst _ (.replacement cs (readString_length hcs) ‹_›) hs
      · trivial
    · trivial

theorem writeSetting (v : Option Nat) (lo hi : Nat) {set : Nat → Store → Store}
    (hset : ∀ n st, ∃ r l h, set n st = st.withSettings r l h) (hs : P s) : (s.writeSetting v lo hi set).Keeps P := by
  unfold State.writeSetting
  split
  · rename_i n
    obtain ⟨r, l, h, he⟩ := hset (limit lo hi n).1 s.store
    split
    · rename_i hord
      have hkept := hP.setting r l h (by rwa [← he]) hs
      unfold State.modStore
      rwa [he]
    · trivial
  · trivial

theorem writeStore (f : Byte) (v : List Byte) (hs : P s) : ∀ w ∈ s.writeStore f v, w.Keeps P := by
  unfold State.writeStore
  refine Written.ite_keeps ?reserve <| Written.ite_keeps ?low <| Written.ite_keeps ?high (by simp)
  all_goals exact hP.writeSetting _ _ _ (fun _ _ => ⟨_, _, _, rfl⟩) hs

theorem writeService (f : Byte) (v : List Byte) (hs : P s) : ∀ w ∈ s.writeService f v, w.Keeps P := by
  unfold State.writeService
  refine Written.ite_keeps ?secondCode <| Written.ite_keeps ?secondOn <| Written.ite_keeps ?generalOn <|
    Written.ite_keeps ?retry <| Written.ite_keeps ?desk <| Written.ite_keeps ?notices <| Written.ite_keeps ?period (by simp)
  case secondOn | generalOn | notices => exact Written.exact_keeps fun _ _ => hP.settings _ id hs
  case desk => exact Written.number_keeps (by decide) fun _ _ _ => hP.settings _ id hs
  case secondCode =>
    exact Written.number_keeps (by decide) fun n _ hhi => hP.settings _ (fun ⟨_, h⟩ => ⟨hhi, h⟩) hs
  case retry =>
    exact Written.number_keeps (by decide) fun n _ hhi => hP.settings _ (fun ⟨hc, _, h⟩ => ⟨hc, hhi, h⟩) hs
  case period =>
    exact Written.number_keeps (by decide) fun n _ hhi =>
      hP.watchTimer _ (hP.settings _ (fun ⟨hc, hr, _⟩ => ⟨hc, hr, hhi⟩) hs)

theorem writeField (tb : Table) (n : Nat) (f : Byte) (v : List Byte) (hs : P s) :
    ∀ w ∈ s.writeField tb n f v, w.Keeps P := by
  cases tb with
  | route => exact hP.writeRoute n f v hs
  | circuit => exact hP.writeCircuit n f v hs
  | link => exact hP.writeLink n f v hs
  | subst => exact hP.writeSubst n f v hs
  | store => exact hP.writeStore f v hs
  | service => exact hP.writeService f v hs

/-! ### Requests (R156) -/

theorem tableWrite (tb index field : Byte) (v : List Byte) (hs : P s) : (s.tableWrite tb index field v).Keeps P := by
  unfold State.tableWrite State.withTable
  split
  · exact hs
  · dsimp only
    split
    · split
      · exact hs
      · exact hs
      · rename_i hw
        split
        · trivial
        · exact hP.writeField _ _ _ _ hs _ hw
    · exact hs

theorem circuitControl (index action : Byte) (hs : P s) : (s.circuitControl index action).Keeps P := by
  unfold State.circuitControl
  simp only
  repeat' split
  case isTrue => exact hs
  case isFalse.isTrue => exact hP.start _ hs
  case isFalse.isFalse.isTrue => exact hP.stop _ hs
  case isFalse.isFalse.isFalse.isTrue => exact hP.stopAtEnd _ hs
  case isFalse.isFalse.isFalse.isFalse.isTrue | isFalse.isFalse.isFalse.isFalse.isFalse.isTrue =>
    exact hP.setAccepting _ _ hs
  case isFalse.isFalse.isFalse.isFalse.isFalse.isFalse.isTrue => exact hP.flush _ hs
  case isFalse.isFalse.isFalse.isFalse.isFalse.isFalse.isFalse => exact hs

theorem clearPoint (p : WatchPoint) (hs : P s) : P (s.clearPoint p) := by
  cases p with
  | link l p => exact hP.linkCounters l _ hs
  | circuit i p => exact hP.counters i _ hs
  | reserveGrants => exact hP.reserveGrants 0 hs
  | requestsDone => exact hP.service s.requests s.retryTimer 0 s.requestsTimedOut (Nat.le_max_left ..) hs
  | requestsTimedOut => exact hP.service s.requests s.retryTimer s.requestsDone 0 (Nat.le_max_left ..) hs
  | queueDepth _ | backlog _ | freeSegments | freeRecords | storiesInUse => exact hs

theorem clearWatch (hs : P s) : P s.clearWatch := List.foldlRecOn _ _ hs fun _ ht p _ => hP.clearPoint p ht

/-- LINK CONTROL, where LINK RESET leads from `P` to `Q` (R166). -/
theorem linkControl {Q : State → Prop} (hQ : ∀ {u : State}, P u → Q u) (reset : ∀ l, P s → Q (s.resetLink l))
    (index action : Byte) (hs : P s) : (s.linkControl index action).Keeps Q := by
  unfold State.linkControl
  dsimp only
  split
  · exact hQ hs
  · split
    · exact hQ (hP.enableLink _ hs)
    · split
      · split
        · exact hQ (hP.disableLink _ hs)
        · trivial
      · split
        · exact reset _ hs
        · exact hQ hs

/-! ### The requests by kind (R156) -/

theorem takeSpike (index : Byte) (serial : Nat) (hs : P s) : (s.takeSpike index serial).Keeps P := by
  unfold State.takeSpike
  split
  · exact hs
  · split
    · exact hs
    · split
      · trivial
      · split
        · exact hs
        · exact hP.spikeAll _ hs

theorem watchEnter (n : Nat) (ps : List Byte) (hs : P s) : (s.watchEnter n ps).Keeps P := by
  unfold State.watchEnter
  split
  · exact hs
  · split
    · rename_i hle _ points hps
      exact hP.watchList points (readPoints_length hps ▸ Nat.le_of_not_lt hle) hs
    · exact hs

theorem watchRead (clear : Byte) (hs : P s) : (s.watchRead clear).Keeps P := by
  unfold State.watchRead
  split
  · exact hs
  · split
    · exact hs
    · change P (if clear = 0x01 then s.clearWatch else s)
      split
      · exact hP.clearWatch hs
      · exact hs

theorem clockSet (h m sec : Nat) (hs : P s) : (s.clockSet h m sec).Keeps P := by
  refine hP.clock _ (fun _ => ⟨?_, ?_, ?_⟩) hs <;> simp only [limit] <;> omega

omit hP in
theorem tableRead (tb index field : Byte) (hs : P s) : (s.tableRead tb index field).Keeps P := by
  unfold State.tableRead State.withTable
  split
  · exact hs
  · dsimp only
    split
    · split <;> exact hs
    · exact hs

omit hP in
theorem queueRead (index position : Byte) (hs : P s) : (s.queueRead index position).Keeps P := by
  unfold State.queueRead
  split
  · exact hs
  · split <;> exact hs

theorem perform {Q : State → Prop} (hQ : ∀ {u : State}, P u → Q u) (reset : ∀ l, P s → Q (s.resetLink l))
    (kind : Byte) (ps : List Byte) (hs : P s) : (s.perform kind ps).Keeps Q := by
  have hsame : Q s := hQ hs
  unfold State.perform
  refine Performed.ite_keeps hsame <| Performed.ite_keeps ?read <| Performed.ite_keeps ?write <|
    Performed.ite_keeps ?circuit <| Performed.ite_keeps ?link <| Performed.ite_keeps ?spike <|
    Performed.ite_keeps ?queue <| Performed.ite_keeps ?enter <| Performed.ite_keeps ?watch <|
    Performed.ite_keeps (hQ (hP.clearFaults hs)) <| Performed.ite_keeps ?clock <|
    Performed.ite_keeps (hQ (hP.restart hs)) hsame
  case read => split <;> [exact (tableRead _ _ _ hs).mono hQ; exact hsame]
  case write => split <;> [exact (hP.tableWrite _ _ _ _ hs).mono hQ; exact hsame]
  case circuit => split <;> [exact (hP.circuitControl _ _ hs).mono hQ; exact hsame]
  case link => split <;> [exact hP.linkControl hQ reset _ _ hs; exact hsame]
  case spike => split <;> [exact (hP.takeSpike _ _ hs).mono hQ; exact hsame]
  case queue => split <;> [exact (queueRead _ _ hs).mono hQ; exact hsame]
  case enter => split <;> [exact (hP.watchEnter _ _ hs).mono hQ; exact hsame]
  case watch => split <;> [exact (hP.watchRead _ hs).mono hQ; exact hsame]
  case clock => split <;> [exact (hP.clockSet _ _ _ hs).mono hQ; exact hsame]

/-! ### The request queue (R154 to R157) -/

theorem reply (r : Request) (x : Result) (b : Bool) (v : List Byte) (hs : P s) : P (s.reply r x b v) :=
  hP.queueFrame _ _ hs

theorem complete (r : Request) (x : Result) (b : Bool) (v : List Byte) (hs : P s) : P (s.complete r x b v) := by
  refine hP.reply r x b v (hP.service _ none _ s.requestsTimedOut ?_ hs)
  simp only [List.length_tail]
  omega

theorem startRetry (hs : P s) : P s.startRetry :=
  hP.service s.requests _ s.requestsDone s.requestsTimedOut (Nat.le_max_left ..) hs

variable (reset : ∀ {s : State} (l : LinkId), P s → P (s.resetLink l))
include reset

theorem runRequests (n : Nat) (hs : P s) : P (runRequests n s) := by
  induction n generalizing s with
  | zero => exact hs
  | succ n ih =>
    unfold Machine.runRequests
    split
    · exact hs
    · rename_i r _ _
      have hkept := hP.perform id (fun l => reset l) r.kind r.params hs
      split
      · exact hP.startRetry hs
      · rename_i u hu
        rw [hu] at hkept
        exact ih (hP.complete r _ _ _ hkept)

theorem runQueue (hs : P s) : P s.runQueue := hP.runRequests reset _ hs

theorem handOver (r : Request) (hs : P s) : P (s.handOver r) := by
  unfold State.handOver
  split
  · exact hP.recordFault rfl hs
  · split
    · exact hP.runQueue reset
        (hP.service [r] s.retryTimer s.requestsDone s.requestsTimedOut (by simp) hs)
    · refine hP.service (s.requests ++ [r]) s.retryTimer s.requestsDone s.requestsTimedOut ?_ hs
      simp only [List.length_append, List.length_singleton]
      omega

theorem timeOut (n : Nat) (hs : P s) : P (s.timeOut n) := by
  unfold State.timeOut
  split
  · exact hs
  · rename_i r _
    have hlen : (s.requests.eraseIdx n).length ≤ max s.requests.length Config.requestQueue :=
      (List.length_eraseIdx_le ..).trans (Nat.le_max_left ..)
    dsimp only
    split
    · exact hP.runQueue reset (hP.reply r _ _ _ (hP.service _ none s.requestsDone _ hlen hs))
    · exact hP.reply r _ _ _ (hP.service _ s.retryTimer s.requestsDone _ hlen hs)

omit reset

theorem watchReport (hs : P s) : P s.watchReport := by
  unfold State.watchReport
  split
  · exact hP.watchTimer _ hs
  · exact hP.notice _ _ (hP.watchTimer _ hs)

theorem daySecond (hs : P s) : P s.daySecond := by
  unfold State.daySecond
  split
  · exact hP.clock _ (DayClock.nextSecond_inRange _) hs
  · exact hs

end RequestKeeps

/-! ### The step -/

/-- A predicate that the commands keep, those apart that end a character time or an answer-back. -/
structure CommandKeeps (P : State → Prop) : Prop extends RequestKeeps P where
  hearing : HearingKeeps P
  resetLink : ∀ {s : State} (l : LinkId), P s → P (s.resetLink l)
  pending : ∀ {s : State} (cs : List Instr), P s → P { s with pending := cs }
  reset : ∀ {s : State} (straps : BitVec 6), P s → P (s.hardwareReset straps)
  assert : ∀ {s : State}, P s → P s.assertReset
  pin : ∀ {s : State} (i : CircuitId), P s → P (s.modCircuit i fun c => { c with returnMark := !c.returnMark })
  levelChange : ∀ {s : State} (i : CircuitId), P s → P (s.modCircuit i Circuit.levelChange)
  tick : ∀ {s : State}, P s → P s.tick
  frameSent : ∀ {s : State} (l : LinkId), P s → P (s.modLink l Link.frameSent)

namespace CommandKeeps

variable {P : State → Prop} (hP : CommandKeeps P) {s : State}
include hP

theorem handOver (r : Request) (hs : P s) : P (s.handOver r) := hP.toRequestKeeps.handOver hP.resetLink r hs

theorem settle (hs : P s) : P s.settle := hP.hearing.settle hP.handOver hs

theorem request (h : ReqHead) (kind : Byte) (ps : List Byte) (hs : P s) : P (s.request h kind ps) := by
  unfold State.request State.live
  split
  · exact hs
  · exact hP.settle (hP.handOver _ hs)

theorem requestTimedOut (n : Nat) (hs : P s) : P (s.requestTimedOut n) := by
  unfold State.requestTimedOut
  split
  · exact hP.settle (hP.timeOut hP.resetLink n hs)
  · exact hs

theorem retry (hs : P s) : P s.retry := by
  unfold State.retry
  split
  · exact hP.settle (hP.runQueue hP.resetLink hs)
  · exact hs

omit hP in
theorem live {f : State → State} (hf : P (f s)) (hs : P s) : P (s.live f) := by
  unfold State.live
  split
  · exact hs
  · exact hf

theorem returnLevelChange (i : CircuitId) (hs : P s) : P (s.returnLevelChange i) := by
  unfold State.returnLevelChange
  split
  · exact hP.pin i hs
  · exact hP.levelChange i hs

/-- The state that a command answers satisfies what the state before it did. -/
theorem exec {c : Instr} {t : State} (he : exec c s = .next t)
    (characterEnd : ∀ i, c = .characterTimeEnd i → P s → P (s.characterTimeEnd i))
    (answer : ∀ i code, c = .answerbackCharacter i code → P s → P (s.answerbackCharacter i code))
    (noAnswer : ∀ i, c = .noAnswerback i → P s → P (s.noAnswerback i)) (hs : P s) : P t := by
  cases c <;> cases he
  case hardwareReset straps => exact hP.reset straps hs
  case millisecondTick => exact live (hP.tick hs) hs
  case dayClockSecond => exact live (hP.daySecond hs) hs
  case byteArrives l b => exact live (hP.hearing.byteArrives hP.handOver l b hs) hs
  case segmentGrant => exact live (hP.hearing.segmentGrant hP.handOver hs) hs
  case silenceExpiry l => exact live (hP.hearing.silenceExpiry hP.handOver l hs) hs
  case holdExpiry l => exact live (hP.expireHoldIfDue l hs) hs
  case characterTimeEnd i => exact live (hP.settle (characterEnd i rfl hs)) hs
  case answerbackCharacter i code => exact live (answer i code rfl hs) hs
  case noAnswerback i => exact live (noAnswer i rfl hs) hs
  case receiverBreak i => exact live (hP.detectIfDue i hs) hs
  case restore i => exact live (hP.restoreIfDue i hs) hs
  case requestTimedOut n => exact live (hP.requestTimedOut n.val hs) hs
  case retry => exact live (hP.retry hs) hs
  case replyFrameSent l => exact live (hP.frameSent l hs) hs
  case watchReport =>
    refine live ?_ hs
    split
    · exact hP.watchReport hs
    · exact hs
  case resetInputAsserted => exact live (hP.assert hs) hs
  case returnLineLevelChange i => exact hP.returnLevelChange i hs
  all_goals exact hP.request _ _ _ hs

end CommandKeeps

/-! ### The kinds of update of the whole step -/

/-- The frame in progress dropped, its link has what it had but for its replies and its hold line. -/
theorem State.dropFrame_link (s : State) (l : LinkId) : (s.link l).Unheard ((s.dropFrame l).link l) := by
  have hleft : (s.withdraw l).LeftAlone (s.link l) l := ⟨s.withdraw_waits l, rfl⟩
  unfold dropFrame
  split
  case h_1 | h_2 => exact (hleft.freeTake _).2
  all_goals exact hleft.2

theorem State.resetFifo_length (s : State) (l : LinkId) : (s.resetFifo l).length ≤ (s.link l).fifo.length := by
  rcases s.resetFifo_cases l with ⟨-, -, he⟩ | he <;> rw [he]
  exact Nat.zero_le _

namespace UpdateKeeps

variable {P : State → Prop} (hP : UpdateKeeps P) {s : State}
include hP

theorem dropFrame (l : LinkId) (hs : P s) : P (s.dropFrame l) := by
  unfold State.dropFrame
  split
  case h_1 | h_2 => exact hP.freeTake _ (hP.withdraw l hs)
  all_goals exact hP.withdraw l hs

theorem resetLink (l : LinkId) (hs : P s) : P (s.resetLink l) := by
  unfold State.resetLink
  dsimp only
  rw [State.modLink_refreshHold]
  refine hP.turn ⟨rfl, ?_, .inr rfl⟩ (hP.dropFrame l hs)
  rw [s.dropFrame_link l]
  exact s.resetFifo_length l

theorem requests : RequestKeeps P where
  toFaultKeeps := hP.toFaultKeeps
  linkCounters := hP.linkCounters
  counters _ _ hs := hP.queue (.counters _) hs
  start := hP.start
  stop _ hs := hP.line .stop hs
  stopAtEnd _ hs := hP.line .stopAtEnd hs
  detectIfDue := hP.detectIfDue
  restoreIfDue := hP.restoreIfDue
  flush := hP.flush
  spikeAll := hP.spikeAll
  clock := hP.clock
  service := hP.service
  watchList := hP.watchList
  watchTimer := hP.watchTimer
  clearFaults := hP.clearFaults
  reserveGrants := hP.reserveGrants
  restart := hP.restart
  settings := hP.settings
  route := hP.route
  subst := hP.subst
  setting := hP.setting
  switch hk hs := hP.turn hk.turned hs
  linkProfile := hP.linkProfile
  holdCapable := hP.holdCapable
  silence _ hs := hP.hears ⟨rfl, Iff.rfl, Nat.le_max_left ..⟩ hs
  write := hP.write

theorem commands : CommandKeeps P where
  toRequestKeeps := hP.requests
  hearing := hP.hearing
  resetLink := hP.resetLink
  pending := hP.pending
  reset := hP.reset
  assert := hP.assert
  pin := hP.pin
  levelChange _ hs := hP.line .levelChange hs
  tick := hP.tick
  frameSent := hP.frameSent

end UpdateKeeps

namespace StepKeeps

variable {P : State → Prop} (hP : StepKeeps P) {s : State}
include hP

theorem answers : AnswerKeeps P := ⟨hP.toLineKeeps, hP.answer⟩

/-- A predicate kept by every kind of update is kept by every step. -/
theorem step {t : State} (he : step s = .next t) (hs : P s) : P t := by
  unfold Machine.step at he
  split at he
  · cases he
    exact hs
  · exact hP.commands.exec he (fun i _ => hP.characterTimeEnd i) (fun i code _ => hP.answers.answerbackCharacter i code)
      (fun i _ => hP.answers.noAnswerback i) (hP.pending _ hs)

end StepKeeps

end Sys2Proof.Machine
end

section
/-! Laws of the circuits. A law that reads one circuit at a time is kept by every step as soon as each kind of update of a
circuit keeps it: so class order and backlogs (R64, R72), and what each state holds (R116, R123, R125, R144). -/

namespace Sys2Proof.Machine

open Sys2Proof

/-! ### Laws that read the circuits one at a time -/

/-- Every circuit satisfies `Q`, which may ask whether the reset input is held. -/
def State.EachCircuit (Q : Bool → Circuit → Prop) (t : State) : Prop := ∀ i : CircuitId, Q t.resetHeld (t.circuit i)

theorem State.EachCircuit.setCircuit {Q : Bool → Circuit → Prop} {s : State} {i : CircuitId} {c : Circuit}
    (hc : Q s.resetHeld (s.circuit i) → Q s.resetHeld c) (h : s.EachCircuit Q) : (s.setCircuit i c).EachCircuit Q := by
  intro j
  by_cases hj : j = i
  · subst hj
    rw [setCircuit_circuit_self]
    exact hc (h j)
  · rw [setCircuit_circuit_ne s hj]
    exact h j

theorem State.circuit_map (s : State) (f : Circuit → Circuit) (i : CircuitId) :
    ({ s with circuits := s.circuits.map f } : State).circuit i = f (s.circuit i) := by
  simp [circuit]

theorem State.copyRestart_circuit (s : State) (i : CircuitId) :
    s.copyRestart.circuit i = (s.circuit i).copyRestart := by
  simp [copyRestart, emptyCopy, circuit]

/-- A law of single circuits is kept by every update of a state as soon as the updates of a circuit keep it. -/
theorem updateKeeps_eachCircuit {Q : Bool → Circuit → Prop}
    (queue : ∀ {b : Bool} {c d : Circuit}, c.QueueMove d → Q b c → Q b d)
    (line : ∀ {b : Bool} {c d : Circuit}, c.LineMove d → Q b c → Q b d)
    (write : ∀ {b : Bool} {c d : Circuit}, c.WriteMove d → Q b c → Q b d)
    (tick : ∀ {b : Bool} {c : Circuit}, Q b c → Q b c.tick)
    (pin : ∀ {b : Bool} {c : Circuit} (mark : Bool), Q b c → Q b { c with returnMark := mark })
    (cut : ∀ {b : Bool} {c : Circuit}, Q b c → Q true c.cutLine)
    (reset : ∀ mark : Bool, Q false (.reset mark))
    (restart : ∀ {b : Bool} {c : Circuit}, Q b c → Q b c.copyRestart) : UpdateKeeps (State.EachCircuit Q) := by
  have hstoreless : StorelessKeeps (State.EachCircuit Q) :=
    { number _ h := h, setFault _ h := h, push _ _ h := h, store _ h := h, drainHead _ h := h, holds _ h := h }
  have hreception : ReceptionKeeps (State.EachCircuit Q) :=
    hstoreless.reception
      (hstoreless.routing (fun _ _ h => h) (fun _ h => h) fun hc h => State.EachCircuit.setCircuit (queue hc) h)
      (fun _ h => h) (fun _ _ _ h => h)
  exact
    { toReceptionKeeps := hreception
      line hc h := State.EachCircuit.setCircuit (line hc) h
      pending _ h := h
      reset {s} straps h i := by
        have hi : (s.hardwareReset straps).circuit i = Circuit.reset (s.circuit i).returnMark := by
          simp [State.hardwareReset, State.circuit]
        rw [hi]
        exact reset _
      assert {s} h i := by
        have hi : s.assertReset.circuit i = (s.circuit i).cutLine := by simp [State.assertReset, State.circuit]
        rw [hi]
        exact cut (h i)
      pin i h := State.EachCircuit.setCircuit (pin _) h
      tick {s} h i := by
        have hi : s.tick.circuit i = (s.circuit i).tick := by simp [State.tick, State.circuit]
        rw [hi]
        exact tick (h i)
      clock _ _ h := h
      service _ _ _ _ _ h := h
      watchList _ _ h := h
      watchTimer _ h := h
      clearFaults h := h
      frameSent _ h := h
      reserveGrants _ h := h
      restart {s} h i := by
        rw [s.copyRestart_circuit]
        exact restart (h i)
      settings _ _ h := h
      route _ _ _ h := h
      subst _ _ _ h := h
      setting _ _ _ _ h := hstoreless.storeWritten _ h
      turn _ h := h
      linkProfile _ _ _ _ h := h
      holdCapable _ _ h := h
      write hc h := State.EachCircuit.setCircuit (write hc) h }

/-- A law of single circuits is kept by every step as soon as the updates of a circuit keep it. -/
theorem stepKeeps_eachCircuit {Q : Bool → Circuit → Prop} (hQ : UpdateKeeps (State.EachCircuit Q))
    (answer : ∀ {b : Bool} {c d : Circuit}, c.AnswerMove d → Q b c → Q b d) : StepKeeps (State.EachCircuit Q) where
  toUpdateKeeps := hQ
  answer hc h := State.EachCircuit.setCircuit (answer hc) h

/-! ### Moves that leave the queue alone -/

/-- The queue and its backlog figure. -/
def Circuit.SameQueue (c d : Circuit) : Prop := d.queue = c.queue ∧ d.backlog = c.backlog

theorem Circuit.SameQueue.trans {c d e : Circuit} (h : c.SameQueue d) (h' : d.SameQueue e) : c.SameQueue e :=
  ⟨h'.1.trans h.1, h'.2.trans h.2⟩

section
variable (c : Circuit)

theorem Circuit.startPacer_sameQueue : c.SameQueue c.startPacer := by
  unfold startPacer
  split <;> exact ⟨rfl, rfl⟩

theorem Circuit.levelBetween_sameQueue (v : Slot) : c.SameQueue (c.levelBetween v) := by
  unfold levelBetween
  split <;> exact ⟨rfl, rfl⟩

theorem Circuit.stopModeAtEnd_sameQueue : c.SameQueue c.stopModeAtEnd := by
  unfold stopModeAtEnd
  split
  · exact ⟨rfl, rfl⟩
  · exact c.startPacer_sameQueue.trans ⟨rfl, rfl⟩

theorem Circuit.stopModeBetween_sameQueue : c.SameQueue c.stopModeBetween := by
  unfold stopModeBetween
  split
  · exact c.levelBetween_sameQueue _
  · exact c.startPacer_sameQueue

theorem Circuit.clearForStop_sameQueue : c.SameQueue c.clearForStop.applyStaged := ⟨rfl, rfl⟩

theorem Circuit.enterBroken_sameQueue : c.SameQueue c.enterBroken :=
  Circuit.SameQueue.trans (d := c.toBroken) ⟨rfl, rfl⟩ (c.toBroken.levelBetween_sameQueue _)

theorem Circuit.enterStoppedAtEnd_sameQueue : c.SameQueue c.enterStoppedAtEnd :=
  c.clearForStop_sameQueue.trans (stopModeAtEnd_sameQueue _)

theorem Circuit.endAbandoned_sameQueue : c.SameQueue c.endAbandoned := by
  unfold endAbandoned
  split
  · exact c.enterStoppedAtEnd_sameQueue
  · split <;> exact ⟨rfl, rfl⟩

theorem Circuit.stop_sameQueue : c.SameQueue c.stop := by
  unfold stop
  split
  case h_1 | h_2 => exact ⟨rfl, rfl⟩
  all_goals exact c.clearForStop_sameQueue.trans (stopModeBetween_sameQueue _)

/-- Of the controller's own moves the passage into flight and the return of a take alone touch the queue. -/
theorem Circuit.LineMove.queue_cases {c d : Circuit} (h : c.LineMove d) :
    c.SameQueue d ∨ (∃ e, c.queue = e :: d.queue ∧ d.backlog = c.backlog - e.estimate) ∨
      ∃ e, d.queue = placeResumed c.queue e ∧ d.backlog = c.backlog + e.estimate := by
  cases h
  case launch e rest hq x => exact .inr (.inl ⟨e, hq, rfl⟩)
  case returned e => exact .inr (.inr ⟨e, rfl, rfl⟩)
  all_goals refine .inl ?_
  case relatch => unfold relatchPacer; split <;> exact ⟨rfl, rfl⟩
  case rest => exact c.stopModeAtEnd_sameQueue
  case stoppedAtEnd => exact c.enterStoppedAtEnd_sameQueue
  case abandoned => exact c.endAbandoned_sameQueue
  case identifying => unfold identifyingEnd; split <;> exact ⟨rfl, rfl⟩
  case intoService => exact Circuit.SameQueue.trans ⟨rfl, rfl⟩ (startPacer_sameQueue _)
  case stop => exact c.stop_sameQueue
  case stopAtEnd =>
    unfold Circuit.stopAtEnd
    split
    · exact ⟨rfl, rfl⟩
    all_goals exact c.stop_sameQueue
  case broken =>
    unfold Circuit.broken
    split
    · exact ⟨rfl, rfl⟩
    all_goals exact c.enterBroken_sameQueue
  all_goals exact ⟨rfl, rfl⟩

theorem Circuit.AnswerMove.sameQueue {c d : Circuit} (h : c.AnswerMove d) : c.SameQueue d := by
  cases h with
  | identified => exact ⟨rfl, rfl⟩
  | faulted => exact Circuit.SameQueue.trans ⟨rfl, rfl⟩ (stopModeBetween_sameQueue _)

theorem Circuit.WriteMove.sameQueue {c d : Circuit} (h : c.WriteMove d) : c.SameQueue d := by
  cases h
  case showStopMode =>
    unfold Circuit.showStopMode
    split
    · split
      · split <;> exact ⟨rfl, rfl⟩
      · exact c.startPacer_sameQueue
    · exact ⟨rfl, rfl⟩
  all_goals exact ⟨rfl, rfl⟩

theorem Circuit.copyRestart_queue : c.copyRestart.queue = [] ∧ c.copyRestart.backlog = 0 := ⟨rfl, rfl⟩

end

/-! ### Class order (R64) -/

theorem takeWhile_append_dropWhile_pairwise {q : List Entry} {e : Entry} {p : Entry → Bool} (hq : inClassOrder q)
    (hlow : ∀ x, p x = true → x.prio.num ≤ e.prio.num) (hhigh : ∀ x, p x = false → e.prio.num ≤ x.prio.num) :
    inClassOrder (q.takeWhile p ++ e :: q.dropWhile p) := by
  have hsplit : q.takeWhile p ++ q.dropWhile p = q := List.takeWhile_append_dropWhile
  have hfront : ∀ x ∈ q.takeWhile p, x.prio.num ≤ e.prio.num := fun x hx => hlow x (List.mem_takeWhile_imp hx)
  have hback : ∀ x ∈ q.dropWhile p, e.prio.num ≤ x.prio.num := by
    cases hd : q.dropWhile p with
    | nil => simp
    | cons y ys =>
      have hy : e.prio.num ≤ y.prio.num := hhigh y (by
        have hhead := List.head_dropWhile_not p (show q.dropWhile p ≠ [] by simp [hd])
        simpa [hd] using hhead)
      have horder : inClassOrder (y :: ys) := hd ▸ hq.sublist (List.dropWhile_sublist p)
      intro x hx
      rcases List.mem_cons.1 hx with rfl | hx
      · exact hy
      · exact hy.trans ((List.pairwise_cons.1 horder).1 x hx)
  rw [← hsplit] at hq
  obtain ⟨htake, hdrop, hcross⟩ := List.pairwise_append.1 hq
  refine List.pairwise_append.2 ⟨htake, List.pairwise_cons.2 ⟨hback, hdrop⟩, fun a ha b hb => ?_⟩
  rcases List.mem_cons.1 hb with rfl | hb
  · exact hfront a ha
  · exact hcross a ha b hb

theorem placeEntry_inClassOrder {q : List Entry} (e : Entry) (hq : inClassOrder q) : inClassOrder (placeEntry q e) :=
  takeWhile_append_dropWhile_pairwise hq (fun _ => of_decide_eq_true)
    fun _ h => (Nat.lt_of_not_le (of_decide_eq_false h)).le

theorem placeResumed_inClassOrder {q : List Entry} (e : Entry) (hq : inClassOrder q) : inClassOrder (placeResumed q e) :=
  takeWhile_append_dropWhile_pairwise hq (fun _ h => (of_decide_eq_true h).le)
    fun _ h => Nat.le_of_not_lt (of_decide_eq_false h)

/-- An entry replaced by one of its own priority leaves the order as it is. -/
theorem set_inClassOrder {q : List Entry} {n : Nat} {e d : Entry} (he : q[n]? = some e) (hp : d.prio = e.prio)
    (hq : inClassOrder q) : inClassOrder (q.set n d) := by
  have hmap : (q.set n d).map Entry.prio = q.map Entry.prio := by
    obtain ⟨hn, hget⟩ := List.getElem?_eq_some_iff.1 he
    rw [List.map_set, hp, ← hget, ← List.getElem_map (f := Entry.prio) (h := by simpa using hn), List.set_getElem_self]
  have horder : (q.map Entry.prio).Pairwise fun a b => a.num ≤ b.num := List.pairwise_map.2 hq
  rwa [← hmap, List.pairwise_map] at horder

theorem Circuit.QueueMove.inClassOrder {c d : Circuit} (h : c.QueueMove d) (hq : inClassOrder c.queue) :
    inClassOrder d.queue := by
  cases h with
  | counters | orders => exact hq
  | drop p => exact hq.filter _
  | dropBehind n p =>
    have hsub : (c.queue.take (n + 1) ++ (c.queue.drop (n + 1)).filter fun e => !p e).Sublist c.queue := by
      conv_rhs => rw [← List.take_append_drop (n + 1) c.queue]
      exact (List.Sublist.refl _).append List.filter_sublist
    exact hq.sublist hsub
  | dropAt n e _ => exact hq.sublist (List.eraseIdx_sublist ..)
  | flush => exact List.Pairwise.nil
  | place e _ => exact placeEntry_inClassOrder e hq
  | replace n e d he hp => exact set_inClassOrder he hp hq

theorem stepKeeps_queuesOrdered : StepKeeps (State.EachCircuit fun _ c => inClassOrder c.queue) := by
  refine stepKeeps_eachCircuit (updateKeeps_eachCircuit (fun h => h.inClassOrder) (fun h hq => ?line)
    (fun h hq => ?write) (fun h => h) (fun _ h => h) (fun h => h) (fun _ => .nil) (fun _ => .nil)) fun h hq => ?answer
  case write | answer => rwa [h.sameQueue.1]
  case line =>
    rcases h.queue_cases with hsame | ⟨e, he, -⟩ | ⟨e, he, -⟩
    · rwa [hsame.1]
    · exact (List.pairwise_cons.1 (he ▸ hq)).2
    · rw [he]
      exact placeResumed_inClassOrder e hq

/-! ### Backlog figures (R72) -/

theorem queueSum_cons (e : Entry) (q : List Entry) : queueSum (e :: q) = e.estimate + queueSum q := rfl

theorem queueSum_append (q r : List Entry) : queueSum (q ++ r) = queueSum q + queueSum r := by
  simp [queueSum]

theorem queueSum_filter (q : List Entry) (p : Entry → Bool) :
    queueSum (q.filter fun e => !p e) + queueSum (q.filter p) = queueSum q := by
  induction q with
  | nil => rfl
  | cons e q ih => cases hp : p e <;> simp only [List.filter_cons, hp, queueSum_cons] <;> simp [queueSum_cons] <;> omega

theorem queueSum_eraseIdx {q : List Entry} {n : Nat} {e : Entry} (he : q[n]? = some e) :
    queueSum (q.eraseIdx n) + e.estimate = queueSum q := by
  induction q generalizing n with
  | nil => simp at he
  | cons x q ih =>
    cases n with
    | zero =>
      cases he
      exact Nat.add_comm ..
    | succ n =>
      have hrest := ih (n := n) (by simpa using he)
      rw [List.eraseIdx_cons_succ, queueSum_cons, queueSum_cons]
      omega

theorem queueSum_set {q : List Entry} {n : Nat} {e : Entry} (d : Entry) (he : q[n]? = some e) :
    queueSum (q.set n d) + e.estimate = queueSum q + d.estimate := by
  induction q generalizing n with
  | nil => simp at he
  | cons x q ih =>
    cases n with
    | zero =>
      cases he
      simp only [List.set_cons_zero, queueSum_cons]
      omega
    | succ n =>
      have hrest := ih (n := n) (by simpa using he)
      rw [List.set_cons_succ, queueSum_cons, queueSum_cons]
      omega

theorem Circuit.QueueMove.backlogExact {c d : Circuit} (h : c.QueueMove d) (hb : c.backlog = queueSum c.queue) :
    d.backlog = queueSum d.queue := by
  cases h with
  | counters | orders => exact hb
  | drop p =>
    have hsum := queueSum_filter c.queue p
    simp only
    omega
  | dropBehind n p =>
    have hsum := queueSum_filter (c.queue.drop (n + 1)) p
    have hall := queueSum_append (c.queue.take (n + 1)) (c.queue.drop (n + 1))
    rw [List.take_append_drop] at hall
    simp only [queueSum_append]
    omega
  | dropAt n e he =>
    have hsum := queueSum_eraseIdx he
    simp only
    omega
  | flush => rfl
  | place e _ =>
    rw [queueSum_placeEntry, hb]
  | replace n e d he _ =>
    have hsum := queueSum_set d he
    have hle := queueSum_eraseIdx he
    simp only
    omega

theorem stepKeeps_backlogsExact : StepKeeps (State.EachCircuit fun _ c => c.backlog = queueSum c.queue) := by
  refine stepKeeps_eachCircuit (updateKeeps_eachCircuit (fun h => h.backlogExact) (fun h hb => ?line)
    (fun h hb => ?write) (fun h => h) (fun _ h => h) (fun h => h) (fun _ => rfl) (fun _ => rfl)) fun h hb => ?answer
  case write | answer => rwa [h.sameQueue.1, h.sameQueue.2]
  case line =>
    rcases h.queue_cases with hsame | ⟨e, he, hd⟩ | ⟨e, he, hd⟩
    · rwa [hsame.1, hsame.2]
    · rw [hd, hb, he, queueSum_cons, Nat.add_sub_cancel_left]
    · rw [hd, he, queueSum_placeResumed, hb]

/-- Settles O53: class order and backlog figures are laws of single circuits. -/
theorem stepsKeepQueues : Obligations.StepsKeepQueues :=
  fun _ _ he => ⟨stepKeeps_queuesOrdered.step he, stepKeeps_backlogsExact.step he⟩

end Sys2Proof.Machine
end

section
/-! What each circuit state holds (R116, R123, R125, R144): a take in flight in SENDING alone, an answer-back window in
IDENTIFYING alone, and a running pacer in service. -/

namespace Sys2Proof.Machine

open Sys2Proof

/-- No take in flight outside SENDING, no window outside IDENTIFYING, and, but for the time the reset input is held, a
running pacer in service. -/
structure Circuit.Sound (held : Bool) (c : Circuit) : Prop where
  flight : c.state ≠ .sending → c.flight = none
  window : c.window ≠ none → c.state = .identifying
  pacer : held = false → c.state.watchesBreak = true → c.pacer.running = true

/-! ### Output and pacer leave state, flight and window -/

/-- State, flight and window as they were. -/
def Circuit.SameState (c d : Circuit) : Prop := d.state = c.state ∧ d.flight = c.flight ∧ d.window = c.window

theorem Circuit.SameState.trans {c d e : Circuit} (h : c.SameState d) (h' : d.SameState e) : c.SameState e :=
  ⟨h'.1.trans h.1, h'.2.1.trans h.2.1, h'.2.2.trans h.2.2⟩

section
variable (c : Circuit)

theorem Circuit.startPacer_sameState : c.SameState c.startPacer := by
  unfold startPacer
  split <;> exact ⟨rfl, rfl, rfl⟩

theorem Circuit.startPacer_running : c.startPacer.pacer.running = true := by
  unfold startPacer
  split
  · assumption
  · rfl

theorem Circuit.levelBetween_sameState (v : Slot) : c.SameState (c.levelBetween v) := by
  unfold levelBetween
  split <;> exact ⟨rfl, rfl, rfl⟩

theorem Circuit.stopModeAtEnd_sameState : c.SameState c.stopModeAtEnd := by
  unfold stopModeAtEnd
  split
  · exact ⟨rfl, rfl, rfl⟩
  · exact c.startPacer_sameState.trans ⟨rfl, rfl, rfl⟩

theorem Circuit.stopModeBetween_sameState : c.SameState c.stopModeBetween := by
  unfold stopModeBetween
  split
  · exact c.levelBetween_sameState _
  · exact c.startPacer_sameState

end

namespace Circuit.Sound

variable {held : Bool} {c d : Circuit}

/-- Out of service with no take in flight and no window open a circuit owes nothing more. -/
theorem of_rest (hs : d.state.watchesBreak = false) (hf : d.flight = none) (hw : d.window = none) : d.Sound held where
  flight _ := hf
  window h := absurd hw h
  pacer _ h := absurd h (by simp [hs])

theorem of_sameState (h : c.Sound held) (hsame : c.SameState d)
    (hp : c.pacer.running = true → c.state.watchesBreak = true → d.pacer.running = true) : d.Sound held where
  flight hne := hsame.2.1.trans (h.flight (hsame.1 ▸ hne))
  window hw := hsame.1.trans (h.window (hsame.2.2 ▸ hw))
  pacer hb hs := by
    rw [hsame.1] at hs
    exact hp (h.pacer hb hs) hs

theorem state_of_window (h : c.Sound held) (hw : c.window ≠ none) : c.state = .identifying ∧ c.flight = none := by
  have hs := h.window hw
  exact ⟨hs, h.flight (by rw [hs]; decide)⟩

theorem window_none (h : c.Sound held) (hs : c.state ≠ .identifying) : c.window = none := by
  by_contra hw
  exact hs (h.window hw)

theorem rest_sameState (hs : c.state.watchesBreak = false) (hf : c.flight = none) (hw : c.window = none)
    (hsame : c.SameState d) : d.Sound held :=
  of_rest (hsame.1 ▸ hs) (hsame.2.1.trans hf) (hsame.2.2.trans hw)

theorem enterStoppedAtEnd (c : Circuit) : c.enterStoppedAtEnd.Sound held :=
  rest_sameState (c := c.clearForStop.applyStaged) rfl rfl rfl (Circuit.stopModeAtEnd_sameState _)

theorem enterStopped (c : Circuit) : c.enterStopped.Sound held :=
  rest_sameState (c := c.clearForStop.applyStaged) rfl rfl rfl (Circuit.stopModeBetween_sameState _)

theorem enterBroken (c : Circuit) : c.enterBroken.Sound held :=
  rest_sameState (c := c.toBroken) rfl rfl rfl (Circuit.levelBetween_sameState _ _)

theorem stop (h : c.Sound held) : c.stop.Sound held := by
  unfold Circuit.stop
  split
  case h_1 | h_2 => exact h.of_sameState ⟨rfl, rfl, rfl⟩ fun hp _ => hp
  all_goals exact enterStopped c

theorem queueMove (hm : c.QueueMove d) (h : c.Sound held) : d.Sound held := by
  have hsame : d.state = c.state ∧ d.window = c.window ∧ d.pacer = c.pacer := by cases hm <;> exact ⟨rfl, rfl, rfl⟩
  obtain ⟨hs, hw, hp⟩ := hsame
  exact ⟨fun hne => hm.flight_none_iff.2 (h.flight (hs ▸ hne)), fun hne => hs.trans (h.window (hw ▸ hne)),
    fun hb hr => by rw [hp]; exact h.pacer hb (hs ▸ hr)⟩

theorem identifyingEnd (hs : c.state = .identifying) (h : c.Sound held) : c.identifyingEnd.Sound held := by
  have hf : c.flight = none := h.flight (by rw [hs]; decide)
  have hp : held = false → c.pacer.running = true := fun hb => h.pacer hb (by rw [hs]; rfl)
  unfold Circuit.identifyingEnd
  split <;> exact ⟨fun _ => hf, fun _ => hs, fun hb _ => hp hb⟩

theorem intoService (hs : c.state.watchesBreak = false) (h : c.Sound held) : c.intoService.Sound held := by
  have hf : c.flight = none := h.flight fun he => by simp [he, CircuitState.watchesBreak] at hs
  obtain ⟨-, hflight, hwindow⟩ := Circuit.startPacer_sameState
    ({ c with
      state := if c.active.abCheck then .identifying else .ready
      requestStep := 0, window := none, receiving := none } : Circuit).measureSpacing
  exact ⟨fun _ => hflight.trans hf, fun hw => absurd hwindow hw, fun _ _ => Circuit.startPacer_running _⟩

theorem endAbandoned (hs : c.state = .sending) (hf : c.flight = none) (h : c.Sound held) : c.endAbandoned.Sound held := by
  unfold Circuit.endAbandoned
  split
  · exact enterStoppedAtEnd c
  · split
    · exact of_rest rfl rfl rfl
    · exact ⟨fun _ => hf, fun hw => absurd (h.window_none (by rw [hs]; decide)) hw,
        fun hb _ => h.pacer hb (by rw [hs]; rfl)⟩

theorem lineMove (hm : c.LineMove d) (h : c.Sound held) : d.Sound held := by
  have hserving : ∀ {x y : CircuitState}, x ≠ .identifying → y ≠ .identifying → c.state = x ∨ c.state = y →
      c.window = none := fun hx hy hs => h.window_none (by rcases hs with hs | hs <;> rw [hs] <;> assumption)
  have hrunning (hs : c.state = .ready ∨ c.state = .sending) (hb : held = false) : c.pacer.running = true :=
    h.pacer hb (by rcases hs with hs | hs <;> rw [hs] <;> rfl)
  cases hm with
  | applyStaged | idleOutput | levelChange | hears => exact h.of_sameState ⟨rfl, rfl, rfl⟩ fun hp _ => hp
  | relatch =>
    unfold relatchPacer
    split
    · exact h.of_sameState ⟨rfl, rfl, rfl⟩ fun _ _ => rfl
    · exact h
  | rest hs => exact h.of_sameState c.stopModeAtEnd_sameState fun _ hr => absurd hr (by simp [hs])
  | restBroken hs => exact h.of_sameState ⟨rfl, rfl, rfl⟩ fun _ hr => absurd hr (by simp [hs])
  | toReady hs hf =>
    exact ⟨fun _ => hf, fun hw => absurd (hserving (by decide) (by decide) hs) hw, fun hb _ => hrunning hs hb⟩
  | launch hs | sendOn hs =>
    exact ⟨fun hne => absurd rfl hne, fun hw => absurd (hserving (by decide) (by decide) hs) hw,
      fun hb _ => hrunning hs hb⟩
  | char f hf ch x =>
    have hs : c.state = .sending := by
      by_contra hne
      simp [h.flight hne] at hf
    exact ⟨fun hne => absurd hs hne, h.window, h.pacer⟩
  | land | returned => exact ⟨fun _ => rfl, h.window, h.pacer⟩
  | stoppedAtEnd => exact enterStoppedAtEnd c
  | brokenAtEnd => exact of_rest rfl rfl rfl
  | abandoned hs hf => exact h.endAbandoned hs hf
  | identifying hs => exact h.identifyingEnd hs
  | intoService hs => exact h.intoService hs
  | stop => exact h.stop
  | stopAtEnd =>
    unfold Circuit.stopAtEnd
    split
    · rename_i hs
      exact ⟨fun hne => absurd hs hne, h.window, h.pacer⟩
    all_goals exact h.stop
  | broken =>
    unfold Circuit.broken
    split
    · exact h.of_sameState ⟨rfl, rfl, rfl⟩ fun hp _ => hp
    all_goals exact enterBroken c

theorem answerMove (hm : c.AnswerMove d) (h : c.Sound held) : d.Sound held := by
  cases hm with
  | identified hw =>
    obtain ⟨hs, hf⟩ := h.state_of_window hw
    exact ⟨fun _ => hf, fun hne => absurd rfl hne, fun hb _ => h.pacer hb (by rw [hs]; rfl)⟩
  | faulted hw =>
    exact rest_sameState (c := { c with state := .faulted, window := none, receiving := none, spacing := none }) rfl
      (h.state_of_window hw).2 rfl (Circuit.stopModeBetween_sameState _)

theorem writeMove (hm : c.WriteMove d) (h : c.Sound held) : d.Sound held := by
  cases hm with
  | stage | profile => exact h.of_sameState ⟨rfl, rfl, rfl⟩ fun hp _ => hp
  | showStopMode =>
    unfold Circuit.showStopMode
    split
    · split
      · split
        · exact h
        · exact h.of_sameState ⟨rfl, rfl, rfl⟩ fun hp _ => hp
      · exact h.of_sameState c.startPacer_sameState fun _ _ => c.startPacer_running
    · exact h

theorem tick (h : c.Sound held) : c.tick.Sound held :=
  ⟨h.flight, fun hw => h.window fun hn => hw (by simp [Circuit.tick, hn]), h.pacer⟩

theorem copyRestart (h : c.Sound held) : c.copyRestart.Sound held := by
  unfold Circuit.copyRestart
  refine ⟨fun _ => rfl, ?_, ?_⟩ <;> dsimp only <;> split
  exacts [h.window, h.window, h.pacer, h.pacer]

end Circuit.Sound

theorem stepKeeps_sound : StepKeeps (State.EachCircuit Circuit.Sound) :=
  stepKeeps_eachCircuit
    (updateKeeps_eachCircuit Circuit.Sound.queueMove Circuit.Sound.lineMove Circuit.Sound.writeMove Circuit.Sound.tick
      (fun _ h => h.of_sameState ⟨rfl, rfl, rfl⟩ fun hp _ => hp)
      (fun h => ⟨h.flight, h.window, fun hb => absurd hb (by decide)⟩) (fun _ => .of_rest rfl rfl rfl)
      Circuit.Sound.copyRestart)
    Circuit.Sound.answerMove

/-- Settles O54: the three laws together are one law of single circuits. -/
theorem stepsKeepCircuitStates : Obligations.StepsKeepCircuitStates := by
  intro s t he hflight hwindow hpacer
  have h := stepKeeps_sound.step he fun i => ⟨hflight i, hwindow i, fun hb => hpacer hb i⟩
  exact ⟨fun i => (h i).flight, fun i => (h i).window, fun hb i => (h i).pacer hb⟩

end Sys2Proof.Machine
end

section
/-! Laws of the links. A law that reads one link at a time is kept by every step as soon as each kind of update of a link
keeps it: so the recent-serial sets (R10, R16), the ranges of the profiles (R1) and the bounds of FIFOs and reply queues
(R3, R153). -/

namespace Sys2Proof.Machine

open Sys2Proof

/-- Every link satisfies `Q`. -/
def State.EachLink (Q : Link → Prop) (t : State) : Prop := ∀ l : LinkId, Q (t.link l)

theorem State.EachLink.setLink {Q : Link → Prop} {s : State} {l : LinkId} {k : Link} (hk : Q (s.link l) → Q k)
    (h : s.EachLink Q) : (s.setLink l k).EachLink Q := by
  intro m
  by_cases hm : m = l
  · subst hm
    rw [setLink_link_self]
    exact hk (h m)
  · rw [setLink_link_ne s hm]
    exact h m

theorem State.link_map (s : State) (f : Link → Link) (l : LinkId) :
    ({ s with links := s.links.map f } : State).link l = f (s.link l) := by
  simp [link]

theorem State.link_reset (l : LinkId) : State.reset.link l = Link.reset l := by
  revert l
  decide

theorem Link.copyRestart_turned (k : Link) :
    ∃ k', k.Turned k' ∧ k'.HoldOnly k.copyRestart :=
  ⟨_, ⟨rfl, Nat.zero_le _, .inr rfl⟩, refreshHold_holdOnly false _⟩

/-- A law of single links is kept by every step as soon as the updates of a link keep it. -/
theorem stepKeeps_eachLink {Q : Link → Prop}
    (push : ∀ {k : Link} (frame : List Byte), k.replies.length < Config.replyQueue → Q k → Q (k.pushFrame frame))
    (hold : ∀ {k k' : Link}, k.HoldOnly k' → Q k → Q k')
    (hears : ∀ {k k' : Link}, k.Hears k' → Q k → Q k')
    (track : ∀ {k : Link} (e : Option Nat) (serial : Nat), Q k →
      Q { k with expected := e, recent := joinRecent k.recent serial })
    (turned : ∀ {k k' : Link}, k.Turned k' → Q k → Q k')
    (profile : ∀ {k : Link} (p : LinkProfile), (k.profile.inRange → p.inRange) → Q k → Q { k with profile := p })
    (sent : ∀ {k : Link} (rs : List (List Byte)) (rate : Option Rate), rs.length ≤ k.replies.length → Q k →
      Q { k with replies := rs, sendRate := rate })
    (tick : ∀ {k : Link}, Q k → Q k.tick)
    (reset : ∀ l : LinkId, Q (.reset l)) : StepKeeps (State.EachLink Q) := by
  have hstoreless : StorelessKeeps (State.EachLink Q) :=
    { number _ h := h
      setFault _ h := h
      push frame hlt h := State.EachLink.setLink (push frame hlt) h
      store _ h := h
      drainHead _ h := State.EachLink.setLink (hears (Link.drainHead_hears _)) h
      holds {s f} hf h l := by
        rw [s.link_map]
        exact hold (hf _) (h l) }
  have hcounters {s : State} (l : LinkId) (n : LinkCounters) (h : s.EachLink Q) :
      (s.modLink l fun k => { k with counters := n }).EachLink Q :=
    State.EachLink.setLink (hears ⟨rfl, Iff.rfl, Nat.le_max_left ..⟩) h
  have hreception : ReceptionKeeps (State.EachLink Q) :=
    hstoreless.reception (hstoreless.routing hcounters (fun _ h => h) (fun _ h => h))
      (fun hk h => State.EachLink.setLink (hears hk) h) (fun _ e n h => State.EachLink.setLink (track e n) h)
  exact
    { toReceptionKeeps := hreception
      line _ h := h
      answer _ h := h
      pending _ h := h
      reset _ _ l := by
        change Q (State.reset.link l)
        rw [State.link_reset]
        exact reset l
      assert {s} h l := by
        have hl : s.assertReset.link l = { s.link l with sendRate := none } := by simp [State.assertReset, State.link]
        rw [hl]
        exact sent _ none le_rfl (h l)
      pin _ h := h
      tick {s} h l := by
        have hl : s.tick.link l = (s.link l).tick := by simp [State.tick, State.link]
        rw [hl]
        exact tick (h l)
      clock _ _ h := h
      service _ _ _ _ _ h := h
      watchList _ _ h := h
      watchTimer _ h := h
      clearFaults h := h
      frameSent l h := by
        refine State.EachLink.setLink (fun hk => ?_) h
        unfold Link.frameSent
        split
        · exact hk
        · exact sent _ _ (Nat.zero_le _) hk
        · rename_i hrs
          exact sent _ _ (by simp [hrs]) hk
      reserveGrants _ h := h
      restart {s} h l := by
        rw [s.copyRestart_link]
        obtain ⟨k', ht, hh⟩ := (s.link l).copyRestart_turned
        exact sent _ _ (List.length_take_le' ..) (hold hh (turned ht (h l)))
      settings _ _ h := h
      route _ _ _ h := h
      subst _ _ _ h := h
      setting _ _ _ _ h := hstoreless.storeWritten _ h
      turn hk h := State.EachLink.setLink (fun hl => hold (Link.refreshHold_holdOnly ..) (turned hk hl)) h
      linkProfile _ p hp _ h := State.EachLink.setLink (profile p hp) h
      holdCapable _ _ h := by
        rw [State.modLinkProfile, State.modLink_refreshHold]
        exact State.EachLink.setLink (fun hl => hold (Link.refreshHold_holdOnly ..) (profile _ id hl)) h
      write _ h := h }

/-! ### Link profiles (R1) -/

theorem LinkProfile.reset_inRange (l : LinkId) : (LinkProfile.reset l).inRange := by
  revert l
  decide

theorem stepKeeps_linkProfilesInRange : StepKeeps (State.EachLink fun k => k.profile.inRange) :=
  stepKeeps_eachLink (fun _ _ h => h) (fun hk h => by rw [hk]; exact h) (fun hk h => by rw [hk.1]; exact h)
    (fun _ _ h => h) (fun hk h => by rw [hk.1]; exact h) (fun _ hp h => hp h) (fun _ _ _ h => h) (fun h => h)
    LinkProfile.reset_inRange

/-! ### Recent serials (R10, R16) -/

/-- At most sixteen serials, none twice. -/
def Link.RecentBounded (k : Link) : Prop := k.recent.length ≤ Config.recentSerials ∧ k.recent.Nodup

theorem joinRecent_length (recent : List Nat) (serial : Nat) :
    (joinRecent recent serial).length ≤ Config.recentSerials := by
  simp only [joinRecent, List.length_drop]
  omega

theorem joinRecent_nodup {recent : List Nat} (serial : Nat) (h : recent.Nodup) : (joinRecent recent serial).Nodup := by
  refine List.Nodup.sublist (List.drop_sublist ..) (List.nodup_append.2 ⟨h.filter _, List.nodup_singleton _, ?_⟩)
  intro a ha b hb
  rw [List.mem_singleton] at hb
  subst hb
  simpa using (List.mem_filter.1 ha).2

theorem stepKeeps_recentsBounded : StepKeeps (State.EachLink Link.RecentBounded) :=
  stepKeeps_eachLink (fun _ _ h => h) (fun hk h => by rw [hk]; exact h) (fun hk h => by rw [hk.1]; exact h)
    (fun _ serial h => ⟨joinRecent_length _ serial, joinRecent_nodup serial h.2⟩)
    (fun hk h => by
      unfold Link.RecentBounded
      rcases hk.2.2 with he | he <;> rw [he]
      · exact h
      · exact ⟨Nat.zero_le _, List.nodup_nil⟩)
    (fun _ _ h => h) (fun _ _ _ h => h) (fun h => h) (fun _ => ⟨Nat.zero_le _, List.nodup_nil⟩)

/-! ### Buffers of a link (R3, R153) -/

/-- Reply queue and FIFO keep within what they can hold. -/
def Link.WithinCapacity (k : Link) : Prop :=
  k.replies.length ≤ Config.replyQueue ∧ k.fifo.length ≤ Config.fifoBytes

theorem stepKeeps_linksWithinCapacity : StepKeeps (State.EachLink Link.WithinCapacity) :=
  stepKeeps_eachLink
    (fun frame hlt h => ⟨by simpa [Link.pushFrame] using hlt, h.2⟩)
    (fun hk h => by rw [hk]; exact h)
    (fun hk h => ⟨by rw [hk.1]; exact h.1, hk.2.2.trans (max_le h.2 le_rfl)⟩)
    (fun _ _ h => h)
    (fun hk h => ⟨by rw [hk.1]; exact h.1, hk.2.1.trans h.2⟩)
    (fun _ _ h => h) (fun _ _ hlen h => ⟨hlen.trans h.1, h.2⟩) (fun h => h)
    (fun _ => ⟨Nat.zero_le _, Nat.zero_le _⟩)

end Sys2Proof.Machine
end

section
/-! The ranges of the tables (R1, R43, R83 to R85, R126, R147, R164, R169): circuit profiles are a law of single circuits,
link profiles one of single links, and the other tables change by writes, the day clock and reset alone. -/

namespace Sys2Proof.Machine

open Sys2Proof

/-! ### Circuit profiles (R126, R147 to R149) -/

/-- Active profile and staged values as they were. -/
def Circuit.SameProfile (c d : Circuit) : Prop := d.active = c.active ∧ d.staged = c.staged

theorem Circuit.SameProfile.trans {c d e : Circuit} (h : c.SameProfile d) (h' : d.SameProfile e) : c.SameProfile e :=
  ⟨h'.1.trans h.1, h'.2.trans h.2⟩

section
variable (c : Circuit)

theorem Circuit.startPacer_sameProfile : c.SameProfile c.startPacer := by
  unfold startPacer
  split <;> exact ⟨rfl, rfl⟩

theorem Circuit.levelBetween_sameProfile (v : Slot) : c.SameProfile (c.levelBetween v) := by
  unfold levelBetween
  split <;> exact ⟨rfl, rfl⟩

theorem Circuit.stopModeAtEnd_sameProfile : c.SameProfile c.stopModeAtEnd := by
  unfold stopModeAtEnd
  split
  · exact ⟨rfl, rfl⟩
  · exact c.startPacer_sameProfile.trans ⟨rfl, rfl⟩

theorem Circuit.stopModeBetween_sameProfile : c.SameProfile c.stopModeBetween := by
  unfold stopModeBetween
  split
  · exact c.levelBetween_sameProfile _
  · exact c.startPacer_sameProfile

theorem Circuit.enterBroken_sameProfile : c.SameProfile c.enterBroken :=
  Circuit.SameProfile.trans (d := c.toBroken) ⟨rfl, rfl⟩ (c.toBroken.levelBetween_sameProfile _)

/-- Entry into STOPPED applies the staged values (R121, R149). -/
theorem Circuit.enterStoppedAtEnd_sameProfile : c.applyStaged.SameProfile c.enterStoppedAtEnd :=
  Circuit.SameProfile.trans (d := c.clearForStop.applyStaged) ⟨rfl, rfl⟩ (stopModeAtEnd_sameProfile _)

theorem Circuit.stop_sameProfile : c.SameProfile c.stop ∨ c.applyStaged.SameProfile c.stop := by
  unfold stop
  split
  case h_1 | h_2 => exact .inl ⟨rfl, rfl⟩
  all_goals exact .inr (Circuit.SameProfile.trans (d := c.clearForStop.applyStaged) ⟨rfl, rfl⟩
    (stopModeBetween_sameProfile _))

/-- The controller's own moves leave the profile, or apply the staged values (R149). -/
theorem Circuit.LineMove.profile_cases {c d : Circuit} (h : c.LineMove d) :
    c.SameProfile d ∨ c.applyStaged.SameProfile d := by
  cases h
  case applyStaged | brokenAtEnd => exact .inr ⟨rfl, rfl⟩
  case stoppedAtEnd => exact .inr c.enterStoppedAtEnd_sameProfile
  case abandoned =>
    unfold endAbandoned
    split
    · exact .inr c.enterStoppedAtEnd_sameProfile
    · split <;> exact .inr ⟨rfl, rfl⟩
  case stop => exact c.stop_sameProfile
  case stopAtEnd =>
    unfold Circuit.stopAtEnd
    split
    · exact .inl ⟨rfl, rfl⟩
    all_goals exact c.stop_sameProfile
  all_goals refine .inl ?_
  case relatch => unfold relatchPacer; split <;> exact ⟨rfl, rfl⟩
  case rest => exact c.stopModeAtEnd_sameProfile
  case identifying => unfold identifyingEnd; split <;> exact ⟨rfl, rfl⟩
  case intoService => exact Circuit.SameProfile.trans ⟨rfl, rfl⟩ (startPacer_sameProfile _)
  case broken =>
    unfold Circuit.broken
    split
    · exact ⟨rfl, rfl⟩
    all_goals exact c.enterBroken_sameProfile
  all_goals exact ⟨rfl, rfl⟩

theorem Circuit.AnswerMove.sameProfile {c d : Circuit} (h : c.AnswerMove d) : c.SameProfile d := by
  cases h with
  | identified => exact ⟨rfl, rfl⟩
  | faulted => exact Circuit.SameProfile.trans ⟨rfl, rfl⟩ (stopModeBetween_sameProfile _)

theorem Circuit.showStopMode_sameProfile : c.SameProfile c.showStopMode := by
  unfold showStopMode
  split
  · split
    · split <;> exact ⟨rfl, rfl⟩
    · exact c.startPacer_sameProfile
  · exact ⟨rfl, rfl⟩

end

theorem Option.getD_inRange {p : Nat → Prop} {o : Option Nat} {n : Nat} (ho : ∀ m ∈ o, p m) (hn : p n) : p (o.getD n) := by
  cases o with
  | none => exact hn
  | some m => exact ho m rfl

theorem Form.withStaged_inRange {f : Form} {g : Staged} (hf : f.inRange) (hg : g.inRange) : (f.withStaged g).inRange := by
  obtain ⟨hp, hw, hc, hl, hb⟩ := hf
  obtain ⟨gp, gw, gc, gl, gb⟩ := hg
  refine ⟨Option.getD_inRange (p := fun n => 4607 ≤ n ∧ n ≤ 65535) gp hp,
    Option.getD_inRange (p := fun n => 20 ≤ n ∧ n ≤ 80) gw hw, Option.getD_inRange (p := fun n => 1 ≤ n ∧ n ≤ 2) gc hc,
    Option.getD_inRange (p := fun n => 1 ≤ n ∧ n ≤ 2) gl hl, fun q hq => ?_⟩
  have hget : (f.withStaged g).bells.get q = (g.bells.get q).getD (f.bells.get q) := by cases q <;> rfl
  rw [hget]
  exact Option.getD_inRange (p := (· ≤ 15)) (gb q hq) (hb q hq)

/-- The active profile and the staged values of a circuit are in range (R147). -/
def Circuit.ProfileInRange (c : Circuit) : Prop := c.active.inRange ∧ c.staged.inRange

theorem Circuit.ProfileInRange.of_same {c d : Circuit} (h : c.ProfileInRange) (hs : c.SameProfile d) :
    d.ProfileInRange := by
  unfold ProfileInRange
  rw [hs.1, hs.2]
  exact h

theorem Staged.absent_inRange : Staged.absent.inRange := by
  refine ⟨by simp [absent], by simp [absent], by simp [absent], by simp [absent], fun p _ => ?_⟩
  cases p <;> simp [absent, PerClass.get]

theorem Circuit.ProfileInRange.applyStaged {c : Circuit} (h : c.ProfileInRange) : c.applyStaged.ProfileInRange :=
  ⟨⟨Form.withStaged_inRange h.1.1 h.2, h.1.2⟩, Staged.absent_inRange⟩

theorem Profile.reset_inRange : Profile.reset.inRange := by decide

theorem Settings.reset_inRange : Settings.reset.inRange := by decide

theorem DayClock.reset_inRange : State.reset.clock.inRange := by decide

theorem stepKeeps_profilesInRange : StepKeeps (State.EachCircuit fun _ c => c.ProfileInRange) := by
  refine stepKeeps_eachCircuit (updateKeeps_eachCircuit (fun hm h => ?queue) (fun hm h => ?line) (fun hm h => ?write)
    (fun h => h) (fun _ h => h) (fun h => h) (fun _ => ⟨Profile.reset_inRange, Staged.absent_inRange⟩)
    (fun h => ?restart)) fun hm h => h.of_same hm.sameProfile
  case queue => exact h.of_same (by cases hm <;> exact ⟨rfl, rfl⟩)
  case line =>
    rcases hm.profile_cases with hs | hs
    · exact h.of_same hs
    · exact h.applyStaged.of_same hs
  case write =>
    cases hm with
    | stage g hg => exact ⟨h.1, hg h.2⟩
    | profile p hp => exact ⟨hp h.1, h.2⟩
    | showStopMode => exact h.of_same (Circuit.showStopMode_sameProfile _)
  case restart =>
    unfold Circuit.copyRestart
    dsimp only
    split <;> exact h

/-! ### Laws that read neither links, store nor circuits -/

/-- Routes, substitutions, service settings, own code and day clock. -/
structure Tables where
  routes : Vector RouteEntry 216
  subst : Vector SubstEntry 32
  settings : Settings
  ownCode : Nat
  clock : DayClock

/-- The tables that neither links, store nor circuits hold. -/
def State.tables (s : State) : Tables :=
  { routes := s.routes, subst := s.subst, settings := s.settings, ownCode := s.ownCode, clock := s.clock }

/-- A law of these tables is kept by every step as soon as writes, the day clock and reset keep it. -/
theorem stepKeeps_tables {Q : Tables → Prop} (reset : ∀ straps, Q { State.reset.tables with ownCode := ownCodeOf straps })
    (ticks : ∀ {x : Tables} (n : Nat), Q x → Q { x with clock := { x.clock with ticks := n } })
    (clock : ∀ {x : Tables} (c : DayClock), (x.clock.inRange → c.inRange) → Q x → Q { x with clock := c })
    (settings : ∀ {x : Tables} (g : Settings), (x.settings.inRange → g.inRange) → Q x → Q { x with settings := g })
    (route : ∀ {x : Tables} (n : Fin 216) (e : RouteEntry),
      (-2 ≤ x.routes[n].adjust ∧ x.routes[n].adjust ≤ 2 → -2 ≤ e.adjust ∧ e.adjust ≤ 2) → Q x →
      Q { x with routes := x.routes.set n e })
    (subst : ∀ {x : Tables} (n : Fin 32) {e : SubstEntry}, SubstMove x.subst n e → Q x →
      Q { x with subst := x.subst.set n e }) : StepKeeps fun t => Q t.tables := by
  have hstoreless : StorelessKeeps fun t => Q t.tables :=
    { number _ h := h, setFault _ h := h, push _ _ h := h, store _ h := h, drainHead _ h := h, holds _ h := h }
  exact
    { toReceptionKeeps :=
        hstoreless.reception (hstoreless.routing (fun _ _ h => h) (fun _ h => h) (fun _ h => h)) (fun _ h => h)
          (fun _ _ _ h => h)
      line _ h := h
      answer _ h := h
      pending _ h := h
      reset straps _ := reset straps
      assert h := h
      pin _ h := h
      tick h := ticks _ h
      clock c hc h := clock c hc h
      service _ _ _ _ _ h := h
      watchList _ _ h := h
      watchTimer _ h := h
      clearFaults h := h
      frameSent _ h := h
      reserveGrants _ h := h
      restart h := h
      settings g hg h := settings g hg h
      route n f hf h := route _ _ (hf _) h
      subst n _ he h := subst n he h
      setting _ _ _ _ h := hstoreless.storeWritten _ h
      turn _ h := h
      linkProfile _ _ _ _ h := h
      holdCapable _ _ h := h
      write _ h := h }

/-- Adjustments, service settings, own code and day clock are in range (R15, R43, R164, R169). -/
def Tables.SettingsInRange (x : Tables) : Prop :=
  (∀ n : Fin 216, -2 ≤ x.routes[n].adjust ∧ x.routes[n].adjust ≤ 2) ∧ x.settings.inRange ∧ x.ownCode ≤ 62 ∧
    x.clock.inRange

theorem Vector.forall_set {α : Type} {m : Nat} {v : Vector α m} {n : Fin m} {x : α} {p : α → Prop}
    (hx : p v[n] → p x) (hv : ∀ j : Fin m, p v[j]) : ∀ j : Fin m, p (v.set n x)[j] := by
  intro j
  rw [Fin.getElem_fin, Vector.getElem_set]
  split
  · exact hx (hv n)
  · exact hv j

theorem stepKeeps_settingsInRange : StepKeeps fun t => t.tables.SettingsInRange := by
  refine stepKeeps_tables (fun straps => ⟨fun n => ?_, Settings.reset_inRange, Nat.min_le_left .., DayClock.reset_inRange⟩)
    (fun _ h => h) (fun c hc ⟨hr, hg, ho, h⟩ => ⟨hr, hg, ho, hc h⟩) (fun g hg ⟨hr, h, hrest⟩ => ⟨hr, hg h, hrest⟩)
    (fun n e he ⟨hr, h⟩ => ⟨Vector.forall_set (p := fun e : RouteEntry => -2 ≤ e.adjust ∧ e.adjust ≤ 2) he hr, h⟩)
    (fun _ _ _ h => h)
  simp [State.tables, State.reset, RouteEntry.reset]

/-- Lawful sources, none twice, and replacements of up to three word characters (R83 to R85). -/
def Tables.SubstLawful (x : Tables) : Prop :=
  (∀ n : Fin 32, (∀ b ∈ x.subst[n].source, (isNonDirectPrintable b || isHigh b) = true) ∧
      x.subst[n].replacement.length ≤ 3 ∧ x.subst[n].replacement.all isWordChar = true) ∧
    ∀ m n : Fin 32, m ≠ n → x.subst[m].source ≠ none → x.subst[m].source ≠ x.subst[n].source

theorem Vector.getElem_set_fin {α : Type} {m : Nat} (v : Vector α m) (n j : Fin m) (x : α) :
    (v.set n x)[j] = if j = n then x else v[j] := by
  rw [Fin.getElem_fin, Vector.getElem_set]
  simp only [Fin.ext_iff, eq_comm, Fin.getElem_fin]

theorem Tables.SubstLawful.write {x : Tables} {n : Fin 32} {e : SubstEntry} (he : SubstMove x.subst n e)
    (h : x.SubstLawful) : ({ x with subst := x.subst.set n e } : Tables).SubstLawful := by
  obtain ⟨hentry, hdistinct⟩ := h
  have hnew : (∀ b ∈ e.source, (isNonDirectPrintable b || isHigh b) = true) ∧ e.replacement.length ≤ 3 ∧
      e.replacement.all isWordChar = true := by
    cases he with
    | clear => exact ⟨by simp, (hentry n).2⟩
    | source b hb _ => exact ⟨by rintro c ⟨⟩; exact hb, (hentry n).2⟩
    | replacement cs hlen hw => exact ⟨(hentry n).1, hlen, hw⟩
  have hother : ∀ j : Fin 32, j ≠ n → e.source ≠ none → e.source ≠ x.subst[j].source := by
    intro j hj hne
    cases he with
    | clear => exact absurd rfl hne
    | source b _ hn => exact (hn j hj).symm
    | replacement cs _ _ => exact hdistinct n j (Ne.symm hj) hne
  refine ⟨fun j => ?_, fun m j hmj hne => ?_⟩
  · simp only [Vector.getElem_set_fin]
    split
    · exact hnew
    · exact hentry j
  · simp only [Vector.getElem_set_fin] at hne ⊢
    split at hne
    · rename_i hm
      rw [if_pos hm, if_neg (fun hj => hmj (hm.trans hj.symm))]
      exact hother j (fun hj => hmj (hm.trans hj.symm)) hne
    · rename_i hm
      rw [if_neg hm]
      split
      · intro heq
        exact hother m hm (heq ▸ hne) heq.symm
      · exact hdistinct m j hmj hne

theorem stepKeeps_substLawful : StepKeeps fun t => t.tables.SubstLawful := by
  refine stepKeeps_tables (fun straps => ⟨fun n => ?_, fun m n _ hne => absurd ?_ hne⟩) (fun _ h => h) (fun _ _ h => h)
    (fun _ _ h => h) (fun _ _ _ h => h) (fun _ _ he h => h.write he)
  · simp [State.tables, State.reset, SubstEntry.reset]
  · simp [State.tables, State.reset, SubstEntry.reset]

/-- Settles O60. -/
theorem stepsKeepTablesInRange : Obligations.StepsKeepTablesInRange := by
  intro s t he
  refine ⟨stepKeeps_profilesInRange.step he, stepKeeps_linkProfilesInRange.step he, fun h => ?_,
    stepKeeps_substLawful.step he⟩
  obtain ⟨hr, hc, hy, hw, ho, hclock⟩ := h
  obtain ⟨hr', ⟨hc', hy', hw'⟩, ho', hclock'⟩ := stepKeeps_settingsInRange.step he ⟨hr, ⟨hc, hy, hw⟩, ho, hclock⟩
  exact ⟨hr', hc', hy', hw', ho', hclock'⟩

end Sys2Proof.Machine
end

section
/-! Laws of the Service Unit's lists and of the story index: what they read is changed by recorded faults, by requests, by the
Router's story entries, by COPY RESTART and by reset, and by nothing else. -/

namespace Sys2Proof.Machine

open Sys2Proof

/-- Request queue, watch list, fault summary and story index. -/
structure Rolls where
  requests : List Request
  watch : List WatchPoint
  faults : Vector (Option FaultCode) 26
  stories : List Story

/-- The lists that neither links, store nor circuits hold. -/
def State.rolls (s : State) : Rolls :=
  { requests := s.requests, watch := s.watch, faults := s.faults, stories := s.stories }

/-- A law of these lists is kept by every step as soon as the updates of each keep it. -/
theorem stepKeeps_rolls {Q : Rolls → Prop} (reset : Q State.reset.rolls)
    (fault : ∀ {x : Rolls} {src : Fin 26} {code : FaultCode}, code.belongs src = true → Q x →
      Q { x with faults := x.faults.set src (some code) })
    (clear : ∀ {x : Rolls}, Q x → Q { x with faults := Vector.replicate 26 none })
    (stories : ∀ {x : Rolls} {es : List Story}, StoriesMove x.stories es → Q x → Q { x with stories := es })
    (noStories : ∀ {x : Rolls}, Q x → Q { x with stories := [] })
    (requests : ∀ {x : Rolls} (rs : List Request), rs.length ≤ max x.requests.length Config.requestQueue → Q x →
      Q { x with requests := rs })
    (watch : ∀ {x : Rolls} (ps : List WatchPoint), ps.length ≤ Config.watchPoints → Q x → Q { x with watch := ps }) :
    StepKeeps fun t => Q t.rolls := by
  have hstoreless : StorelessKeeps fun t => Q t.rolls :=
    { number _ h := h, setFault hc h := fault hc h, push _ _ h := h, store _ h := h, drainHead _ h := h, holds _ h := h }
  exact
    { toReceptionKeeps :=
        hstoreless.reception (hstoreless.routing (fun _ _ h => h) (fun hm h => stories hm h) (fun _ h => h))
          (fun _ h => h) (fun _ _ _ h => h)
      line _ h := h
      answer _ h := h
      pending _ h := h
      reset _ _ := reset
      assert h := h
      pin _ h := h
      tick h := requests _ ((List.length_map _).le.trans (Nat.le_max_left ..)) h
      clock _ _ h := h
      service rs _ _ _ hrs h := requests rs hrs h
      watchList ps hps h := watch ps hps h
      watchTimer _ h := h
      clearFaults h := clear h
      frameSent _ h := h
      reserveGrants _ h := h
      restart h := noStories h
      settings _ _ h := h
      route _ _ _ h := h
      subst _ _ _ h := h
      setting _ _ _ _ h := hstoreless.storeWritten _ h
      turn _ h := h
      linkProfile _ _ _ _ h := h
      holdCapable _ _ h := h
      write _ h := h }

/-! ### Fault summary, request queue and watch list (R153, R173, R176) -/

/-- Every entry of the fault summary holds NONE or a code of its own source (R176). -/
def Rolls.FaultsOwn (x : Rolls) : Prop := ∀ src : Fin 26, ∀ code ∈ x.faults[src], code.belongs src = true

theorem Rolls.FaultsOwn.cleared (x : Rolls) : ({ x with faults := Vector.replicate 26 none } : Rolls).FaultsOwn := by
  intro src code hcode
  simp at hcode

theorem Rolls.FaultsOwn.set {x : Rolls} {src : Fin 26} {code : FaultCode} (hc : code.belongs src = true)
    (h : x.FaultsOwn) : ({ x with faults := x.faults.set src (some code) } : Rolls).FaultsOwn := by
  intro j d hd
  simp only [Vector.getElem_set_fin] at hd
  split at hd
  · rename_i hj
    cases hd
    rw [hj]
    exact hc
  · exact h j d hd

theorem stepKeeps_faultsOwn : StepKeeps fun t => t.rolls.FaultsOwn :=
  stepKeeps_rolls (.cleared State.reset.rolls) (fun hc h => h.set hc) (fun {x} _ => .cleared x) (fun _ h => h) (fun h => h)
    (fun _ _ h => h) (fun _ _ h => h)

/-- Request queue and watch list keep within what they can hold (R153, R173). -/
def Rolls.WithinCapacity (x : Rolls) : Prop :=
  x.requests.length ≤ Config.requestQueue ∧ x.watch.length ≤ Config.watchPoints

theorem stepKeeps_rollsWithinCapacity : StepKeeps fun t => t.rolls.WithinCapacity :=
  stepKeeps_rolls ⟨Nat.zero_le _, Nat.zero_le _⟩ (fun _ h => h) (fun h => h) (fun _ h => h) (fun h => h)
    (fun _ hrs h => ⟨hrs.trans (max_le h.1 le_rfl), h.2⟩) (fun _ hps h => ⟨h.1, hps⟩)

/-- Settles O57. -/
theorem stepsKeepFaultsAndBuffers : Obligations.StepsKeepFaultsAndBuffers := by
  intro s t he
  refine ⟨stepKeeps_faultsOwn.step he, fun ⟨hrequests, hwatch, hlinks⟩ => ?_⟩
  obtain ⟨hrequests', hwatch'⟩ := stepKeeps_rollsWithinCapacity.step he ⟨hrequests, hwatch⟩
  exact ⟨hrequests', hwatch', stepKeeps_linksWithinCapacity.step he hlinks⟩

/-! ### The story index (R47 to R50) -/

/-- At most 256 entries, no two of one key (R47). -/
def Rolls.StoriesDistinct (x : Rolls) : Prop :=
  x.stories.length ≤ Config.storyEntries ∧ x.stories.Pairwise fun a b => a.key ≠ b.key

theorem StoriesMove.length_le {es fs : List Story} (hm : StoriesMove es fs) (h : es.length ≤ Config.storyEntries) :
    fs.length ≤ Config.storyEntries := by
  cases hm with
  | change k f _ => simpa using h
  | touch e he =>
    have hlt : (es.filter fun x => x.key != e.key).length < es.length :=
      List.length_filter_lt_length_iff_exists.2 ⟨e, he, by simp⟩
    exact Nat.lt_of_lt_of_le (by simpa using hlt) h
  | create e _ hlen => exact hlen
  | supersede e _ n hn =>
    simp only [List.length_cons, List.length_eraseIdx_of_lt hn]
    omega

theorem StoriesMove.pairwise {es fs : List Story} (hm : StoriesMove es fs)
    (h : es.Pairwise fun a b => a.key ≠ b.key) : fs.Pairwise fun a b => a.key ≠ b.key := by
  cases hm with
  | change k f hf =>
    refine h.map _ fun a b hab => ?_
    have hkey : ∀ e : Story, (if e.key = k then f e else e).key = e.key := fun e => by
      split
      · exact hf e
      · rfl
    rwa [hkey, hkey]
  | touch e _ =>
    refine List.Pairwise.cons (fun x hx => ?_) (h.filter _)
    have hne : x.key ≠ e.key := by simpa using (List.mem_filter.1 hx).2
    exact hne.symm
  | create e he _ => exact h.cons fun x hx => (he x hx).symm
  | supersede e he n _ =>
    exact (h.sublist (List.eraseIdx_sublist ..)).cons fun x hx => (he x (List.mem_of_mem_eraseIdx hx)).symm

theorem stepKeeps_storiesDistinct : StepKeeps fun t => t.rolls.StoriesDistinct :=
  stepKeeps_rolls ⟨Nat.zero_le _, .nil⟩ (fun _ h => h) (fun h => h) (fun hm h => ⟨hm.length_le h.1, hm.pairwise h.2⟩)
    (fun _ => ⟨Nat.zero_le _, .nil⟩) (fun _ _ h => h) (fun _ _ h => h)

/-- Settles O58. -/
theorem stepsKeepStoriesAndSerials : Obligations.StepsKeepStoriesAndSerials := by
  intro s t he
  exact ⟨stepKeeps_storiesDistinct.step he, stepKeeps_recentsBounded.step he⟩

end Sys2Proof.Machine
end

section
/-! Laws of the store (R20, R24 to R26): the pool's segments, the LOW condition and the hold lines. -/

namespace Sys2Proof.Machine

open Sys2Proof

/-! ### The kinds of update of the store -/

/-- The store with a segment granted to a record with its first byte (R27, R28). -/
def Store.granted (st : Store) (h : Nat) (t : Take) (b : Byte) : Store :=
  { st with
    takes := Takes.put st.takes h (t.appendNew b), free := st.free - 1
    low := st.low || decide (st.free - 1 ≤ st.lowWater)
    reserveGrants := if st.free ≤ st.reserve then satPlus st.reserveGrants 1 else st.reserveGrants }

/-- The store with a record freed and its segments back in the pool, before the arbiter runs (R31, R36). -/
def Store.released (st : Store) (h n : Nat) : Store :=
  { st with
    takes := Takes.erase st.takes h, free := st.free + n, low := st.low && decide (st.free + n < st.highWater) }

/-- The store just written with other settings, LOW tested and the arbiter not yet run (R25, R26). -/
def Store.tested (st : Store) : Store :=
  { st with low := st.low && decide (st.free < st.highWater) || decide (st.free ≤ st.lowWater) }

theorem State.storeWritten_tested_store (s : State) : s.testLowExit.testLowEntry.store = s.store.tested := by
  simp [Store.tested]

/-- Serving a waiting request grants its link's take a segment, or withdraws it alone. -/
theorem State.grantWaiting_store (s : State) (w : WaitingRequest) :
    (s.grantWaiting w).store = s.store.withdraw w.link ∨
      ∃ h t b, Takes.get s.store.takes h = some t ∧
        (s.grantWaiting w).store = (s.store.withdraw w.link).granted h t b := by
  rcases s.grantWaiting_cases w with ⟨h, _, b, _, -, -, he⟩ | ⟨-, he⟩ <;> rw [he]
  · rcases State.grantSegment_store ((s.withdraw w.link).modLink w.link (·.drainHead)) h (fold b) with
      hstore | ⟨t, ht, hstore⟩
    · exact .inl hstore
    · exact .inr ⟨h, t, _, ht, hstore⟩
  · exact .inl rfl

/-- A law of the store that grants and withdrawals keep is kept by the arbiter. -/
theorem runArbiter_store_keeps {Q : Store → Prop}
    (grant : ∀ {st : Store} {h : Nat} {t : Take} (b : Byte), 0 < st.free → Takes.get st.takes h = some t → Q st →
      Q (st.granted h t b))
    (withdraw : ∀ {st : Store} (l : LinkId), Q st → Q (st.withdraw l)) {s : State} (hs : Q s.store) :
    Q s.runArbiter.store := by
  refine arbitrate_keeps (P := fun t => Q t.store) (fun {t w} hw ht => ?_) _ hs
  rcases t.grantWaiting_store w with he | ⟨h, u, b, hu, he⟩ <;> rw [he]
  · exact withdraw _ ht
  · exact grant b (Store.free_pos_of_eligible (Store.nextServed_mem hw).2) hu (withdraw _ ht)

/-- A law of the store that grants, withdrawals and the release itself keep is kept where a record is freed. -/
theorem freeTake_store_keeps {Q : Store → Prop}
    (grant : ∀ {st : Store} {h : Nat} {t : Take} (b : Byte), 0 < st.free → Takes.get st.takes h = some t → Q st →
      Q (st.granted h t b))
    (withdraw : ∀ {st : Store} (l : LinkId), Q st → Q (st.withdraw l))
    (erase : ∀ {st : Store} {h : Nat} {t : Take}, Takes.get st.takes h = some t → t.chain.length = 0 → Q st →
      Q { st with takes := Takes.erase st.takes h })
    (release : ∀ {st : Store} {h : Nat} {t : Take}, Takes.get st.takes h = some t → Q st →
      Q (st.released h t.chain.length))
    {s : State} (h : Nat) (hs : Q s.store) : Q (s.freeTake h).store := by
  rcases s.freeTake_cases h with ⟨-, he⟩ | ⟨t, ht, he⟩ <;> rw [he]
  · exact hs
  · unfold State.returnSegments
    split
    · exact erase ht ‹_› hs
    · refine runArbiter_store_keeps grant withdraw ?_
      rw [State.testLowExit_store]
      exact release ht hs

/-- A law of the store is kept by every step as soon as the updates of the store keep it. -/
theorem stepKeeps_store {Q : Store → Prop} (reset : Q .reset)
    (restart : ∀ {st : Store}, Q st → Q st.copyRestart)
    (take : ∀ {st : Store} {h : Nat} {t u : Take}, Takes.get st.takes h = some t → t.SameCopy u → Q st →
      Q { st with takes := Takes.put st.takes h u })
    (allocate : ∀ {st : Store} {t : Take}, Takes.lowestFree st.takes 0 < Config.takeRecords → t.chain = [] → Q st →
      Q { st with takes := Takes.put st.takes (Takes.lowestFree st.takes 0) t })
    (append : ∀ {st : Store} {h : Nat} {t : Take} (b : Byte), Takes.get st.takes h = some t → t.hasRoom = true → Q st →
      Q { st with takes := Takes.put st.takes h (t.append b) })
    (grant : ∀ {st : Store} {h : Nat} {t : Take} (b : Byte), 0 < st.free → Takes.get st.takes h = some t → Q st →
      Q (st.granted h t b))
    (ask : ∀ {st : Store} (w : WaitingRequest), st.eligible w.prio = false → Q st →
      Q { st with waiting := st.waiting ++ [w] })
    (withdraw : ∀ {st : Store} (l : LinkId), Q st → Q (st.withdraw l))
    (reserveGrants : ∀ {st : Store} (n : Counter), Q st → Q { st with reserveGrants := n })
    (freeTake : ∀ {s : State} (h : Nat), Q s.store → Q (s.freeTake h).store)
    (setting : ∀ {s : State} (reserve lowWater highWater : Nat),
      (s.store.withSettings reserve lowWater highWater).ordered = true → Q s.store →
      Q (({ s with store := s.store.withSettings reserve lowWater highWater } : State).storeWritten
        (decide (reserve < s.store.reserve))).store) : StepKeeps fun t => Q t.store where
  number _ h := h
  setFault _ h := h
  push _ _ h := h
  linkCounters _ _ h := h
  take ht hu h := take ht hu h
  freeTake h hs := freeTake h hs
  stories _ h := h
  queue _ h := h
  hears _ h := h
  track _ _ _ h := h
  allocate hlt hc h := allocate hlt hc h
  append b ht hr h := append b ht hr h
  grant {s} h b hf hs := by
    rcases s.grantSegment_store h b with he | ⟨t, ht, he⟩ <;> rw [he]
    · exact hs
    · exact grant b hf ht hs
  ask l p hp hs := ask ⟨l, p⟩ hp hs
  withdraw l hs := withdraw l hs
  line _ h := h
  answer _ h := h
  pending _ h := h
  reset _ _ := reset
  assert h := h
  pin _ h := h
  tick h := h
  clock _ _ h := h
  service _ _ _ _ _ h := h
  watchList _ _ h := h
  watchTimer _ h := h
  clearFaults h := h
  frameSent _ h := h
  reserveGrants n h := reserveGrants n h
  restart h := restart h
  settings _ _ h := h
  route _ _ _ h := h
  subst _ _ _ h := h
  setting r lo hi hord h := setting r lo hi hord h
  turn _ h := h
  linkProfile _ _ _ _ h := h
  holdCapable _ _ h := h
  write _ h := h

/-! ### Segments in the chains (R24) -/

theorem Takes.get_mem {ts : List (Nat × Take)} {h : Nat} {t : Take} (hg : Takes.get ts h = some t) : (h, t) ∈ ts := by
  induction ts with
  | nil => cases hg
  | cons e rest ih =>
    obtain ⟨k, u⟩ := e
    unfold Takes.get at hg
    split at hg
    · rename_i hk
      cases hg
      rw [hk]
      exact List.mem_cons_self
    · exact List.mem_cons_of_mem _ (ih hg)

theorem Takes.wf_sorted {ts : List (Nat × Take)} (hw : Takes.wf ts = true) : ts.Pairwise fun a b => a.1 < b.1 := by
  simp only [Takes.wf, Bool.and_eq_true, decide_eq_true_eq] at hw
  exact hw.1

theorem Takes.lt_of_get {ts : List (Nat × Take)} {h : Nat} {t : Take} (hw : Takes.wf ts = true)
    (hg : Takes.get ts h = some t) : h < Config.takeRecords := by
  simp only [Takes.wf, Bool.and_eq_true, List.all_eq_true, decide_eq_true_eq] at hw
  exact hw.2 _ (Takes.get_mem hg)

theorem Takes.get_lowestFree_wf {ts : List (Nat × Take)} (hw : Takes.wf ts = true) :
    Takes.get ts (Takes.lowestFree ts 0) = none :=
  Takes.get_lowestFree 0 (Takes.wf_sorted hw) fun _ _ => Nat.zero_le _

/-- Segments held by the record of a handle. -/
def Takes.held (ts : List (Nat × Take)) (h : Nat) : Nat := ((Takes.get ts h).map (·.chain.length)).getD 0

theorem Takes.held_of_get {ts : List (Nat × Take)} {h : Nat} {t : Take} (hg : Takes.get ts h = some t) :
    Takes.held ts h = t.chain.length := by
  simp [held, hg]

theorem Takes.segments_put {ts : List (Nat × Take)} (h : Nat) (t : Take) (hs : ts.Pairwise fun a b => a.1 < b.1) :
    Takes.segments (Takes.put ts h t) + Takes.held ts h = Takes.segments ts + t.chain.length := by
  induction ts with
  | nil => simp [Takes.put, Takes.segments, Takes.held, Takes.get]
  | cons e rest ih =>
    obtain ⟨k, u⟩ := e
    obtain ⟨hk, hr⟩ := List.pairwise_cons.1 hs
    have ih := ih hr
    unfold Takes.put
    by_cases hlt : h < k
    · have hnone : Takes.get ((k, u) :: rest) h = none :=
        Takes.get_none_of_lt fun e he => by
          rcases List.mem_cons.1 he with rfl | hm
          · exact hlt
          · exact hlt.trans (hk e hm)
      simp only [if_pos hlt, Takes.held, hnone, Takes.segments, List.map_cons, List.sum_cons]
      simp only [Option.map_none, Option.getD_none]
      omega
    · by_cases heq : h = k
      · subst heq
        simp only [Nat.lt_irrefl, if_false, if_true, Takes.held, Takes.get, Takes.segments, List.map_cons, List.sum_cons,
          Option.map_some, Option.getD_some]
        omega
      · have hne : k ≠ h := Ne.symm heq
        simp only [Takes.held, Takes.segments] at ih
        simp only [if_neg hlt, if_neg heq, Takes.held, Takes.get, if_neg hne, Takes.segments, List.map_cons, List.sum_cons]
        omega

theorem Takes.segments_erase {ts : List (Nat × Take)} (h : Nat) (hs : ts.Pairwise fun a b => a.1 < b.1) :
    Takes.segments (Takes.erase ts h) + Takes.held ts h = Takes.segments ts := by
  induction ts with
  | nil => simp [Takes.erase, Takes.segments, Takes.held, Takes.get]
  | cons e rest ih =>
    obtain ⟨k, u⟩ := e
    obtain ⟨hk, hr⟩ := List.pairwise_cons.1 hs
    have ih := ih hr
    simp only [Takes.held, Takes.segments, Takes.erase] at ih
    by_cases heq : k = h
    · subst heq
      have hnone : Takes.get rest k = none := Takes.get_none_of_lt hk
      simp only [hnone, Option.map_none, Option.getD_none] at ih
      simp only [Takes.erase, Takes.held, Takes.get, Takes.segments, bne_self_eq_false, if_true, List.filter_cons_of_neg,
        Option.map_some, Option.getD_some, Bool.false_eq_true, not_false_eq_true, List.map_cons, List.sum_cons]
      omega
    · have hkeep : ((k, u) :: rest).filter (fun e => e.1 != h) = (k, u) :: rest.filter fun e => e.1 != h :=
        List.filter_cons_of_pos (by simpa using heq)
      simp only [Takes.erase, Takes.held, Takes.get, if_neg heq, Takes.segments, hkeep, List.map_cons, List.sum_cons]
      omega

/-- The directory is in canonical form, and free segments and held ones make 1024 (R24, R32). -/
def Store.Conserved (st : Store) : Prop :=
  Takes.wf st.takes = true ∧ st.free + Takes.segments st.takes = Config.segments

theorem Store.Conserved.put {st : Store} {h : Nat} (u : Take) (hh : h < Config.takeRecords)
    (hlen : u.chain.length = Takes.held st.takes h) (hc : st.Conserved) :
    ({ st with takes := Takes.put st.takes h u } : Store).Conserved := by
  refine ⟨Takes.wf_put u hc.1 hh, ?_⟩
  have hput := Takes.segments_put h u (Takes.wf_sorted hc.1)
  have hsum := hc.2
  dsimp only
  omega

theorem Take.append_length {t : Take} (b : Byte) (h : t.hasRoom = true) :
    (t.append b).chain.length = t.chain.length := by
  simp only [hasRoom, decide_eq_true_eq] at h
  have hpos : 0 < t.chain.length := Nat.pos_of_ne_zero fun h0 => by simp [h0] at h
  simp only [append, List.length_append, List.length_dropLast, List.length_singleton]
  omega

theorem Store.Conserved.granted {st : Store} {h : Nat} {t : Take} (b : Byte) (hfree : 0 < st.free)
    (ht : Takes.get st.takes h = some t) (hc : st.Conserved) : (st.granted h t b).Conserved := by
  refine ⟨Takes.wf_put _ hc.1 (Takes.lt_of_get hc.1 ht), ?_⟩
  have hput := Takes.segments_put h (t.appendNew b) (Takes.wf_sorted hc.1)
  have hsum := hc.2
  rw [Takes.held_of_get ht] at hput
  simp only [Take.appendNew, List.length_append, List.length_singleton] at hput
  simp only [Store.granted, Take.appendNew]
  omega

theorem Store.Conserved.released {st : Store} {h : Nat} {t : Take} (ht : Takes.get st.takes h = some t)
    (hc : st.Conserved) : (st.released h t.chain.length).Conserved := by
  refine ⟨Takes.wf_erase h hc.1, ?_⟩
  have herase := Takes.segments_erase h (Takes.wf_sorted hc.1)
  have hsum := hc.2
  rw [Takes.held_of_get ht] at herase
  simp only [Store.released]
  omega

theorem Store.Conserved.erase {st : Store} {h : Nat} {t : Take} (ht : Takes.get st.takes h = some t)
    (hlen : t.chain.length = 0) (hc : st.Conserved) :
    ({ st with takes := Takes.erase st.takes h } : Store).Conserved := by
  obtain ⟨hwf, hsum⟩ := hc.released ht
  exact ⟨hwf, by simpa [Store.released, hlen] using hsum⟩

theorem stepKeeps_segmentsConserved : StepKeeps fun t => t.store.Conserved :=
  stepKeeps_store ⟨rfl, rfl⟩ (fun _ => ⟨rfl, rfl⟩)
    (fun ht hu h => h.put _ (Takes.lt_of_get h.1 ht) (by rw [Takes.held_of_get ht, hu]))
    (fun hlt hc h => h.put _ hlt (by simp [Takes.held, Takes.get_lowestFree_wf h.1, hc]))
    (fun b ht hr h => h.put _ (Takes.lt_of_get h.1 ht) (by rw [Takes.held_of_get ht, Take.append_length b hr]))
    (fun b => Store.Conserved.granted b) (fun _ _ h => h) (fun _ h => h) (fun _ h => h)
    (fun h => freeTake_store_keeps (fun b => Store.Conserved.granted b) (fun _ h => h) (fun ht => Store.Conserved.erase ht)
      (fun ht => Store.Conserved.released ht) h)
    (fun {s} r lo hi _ h => by
      unfold State.storeWritten
      split
      · refine runArbiter_store_keeps (fun b => Store.Conserved.granted b) (fun _ h => h) ?_
        rw [State.storeWritten_tested_store]
        exact h
      · rw [State.storeWritten_tested_store]
        exact h)

/-! ### The LOW condition (R25, R26) -/

/-- The settings are in order; outside LOW the free count is above low water, in LOW below high water (R25, R26). -/
def Store.LowConsistent (st : Store) : Prop :=
  st.ordered = true ∧ (st.low = false → st.lowWater < st.free) ∧ (st.low = true → st.free < st.highWater)

theorem Store.lowWater_lt {st : Store} (h : st.ordered = true) : st.lowWater < st.highWater := by
  simp only [ordered, decide_eq_true_eq] at h
  omega

theorem Store.LowConsistent.granted {st : Store} {h : Nat} {t : Take} (b : Byte) (hc : st.LowConsistent) :
    (st.granted h t b).LowConsistent := by
  obtain ⟨hord, hout, hin⟩ := hc
  have hmarks := Store.lowWater_lt hord
  refine ⟨hord, ?_, ?_⟩
  · simp only [Store.granted, Bool.or_eq_false_iff, decide_eq_false_iff_not]
    exact fun h => Nat.lt_of_not_le h.2
  · simp only [Store.granted, Bool.or_eq_true, decide_eq_true_eq]
    rintro (hlow | hle)
    · exact (Nat.sub_le ..).trans_lt (hin hlow)
    · omega

theorem Store.LowConsistent.released {st : Store} (h n : Nat) (hc : st.LowConsistent) :
    (st.released h n).LowConsistent := by
  obtain ⟨hord, hout, hin⟩ := hc
  have hmarks := Store.lowWater_lt hord
  refine ⟨hord, ?_, ?_⟩
  · simp only [Store.released, Bool.and_eq_false_iff, decide_eq_false_iff_not]
    rintro (hlow | hge)
    · exact Nat.lt_add_right n (hout hlow)
    · omega
  · simp only [Store.released, Bool.and_eq_true, decide_eq_true_eq]
    exact fun h => h.2

theorem Store.lowConsistent_tested {st : Store} (hord : st.ordered = true) : st.tested.LowConsistent := by
  have hmarks := Store.lowWater_lt hord
  refine ⟨hord, ?_, ?_⟩
  · simp [tested]
  · simp only [tested, Bool.or_eq_true, Bool.and_eq_true, decide_eq_true_eq]
    omega

theorem stepKeeps_lowConsistent : StepKeeps fun t => t.store.LowConsistent :=
  stepKeeps_store ⟨rfl, by decide, by decide⟩
    (fun {st} h => by
      refine ⟨h.1, fun _ => ?_, fun hlow => by cases hlow⟩
      have hord := h.1
      simp only [Store.ordered, decide_eq_true_eq] at hord
      exact hord.2.1.trans_le hord.2.2)
    (fun _ _ h => h) (fun _ _ h => h) (fun _ _ _ h => h) (fun b _ _ => Store.LowConsistent.granted b) (fun _ _ h => h)
    (fun _ h => h) (fun _ h => h)
    (fun h => freeTake_store_keeps (fun b _ _ => Store.LowConsistent.granted b) (fun _ h => h) (fun _ _ h => h)
      (fun _ => Store.LowConsistent.released _ _) h)
    (fun {s} r lo hi hord _ => by
      unfold State.storeWritten
      split
      · refine runArbiter_store_keeps (fun b _ _ => Store.LowConsistent.granted b) (fun _ h => h) ?_
        rw [State.storeWritten_tested_store]
        exact Store.lowConsistent_tested hord
      · rw [State.storeWritten_tested_store]
        exact Store.lowConsistent_tested hord)

end Sys2Proof.Machine
end

section
/-! Hold lines follow LOW (R20), and with the laws of the store before, O55. -/

namespace Sys2Proof.Machine

open Sys2Proof

/-- The hold line stands as R20 calls for, the store being in LOW or not. -/
def Link.HoldFollows (low : Bool) (k : Link) : Prop := k.hold = k.holdWanted low

/-- What R20 reads of two links is the same. -/
def Link.SameHold (k k' : Link) : Prop :=
  k'.hold = k.hold ∧ k'.holdSpent = k.holdSpent ∧ k'.profile.holdCapable = k.profile.holdCapable ∧
    (k'.rx = .disabled ↔ k.rx = .disabled)

theorem Link.HoldFollows.of_same {low : Bool} {k k' : Link} (h : k.HoldFollows low) (hs : k.SameHold k') :
    k'.HoldFollows low := by
  obtain ⟨hhold, hspent, hcap, hrx⟩ := hs
  unfold HoldFollows holdWanted at h ⊢
  rw [hhold, hspent, hcap, h]
  simp only [ne_eq, hrx]

theorem Link.SameHold.of_eq {k k' : Link} (hhold : k'.hold = k.hold) (hspent : k'.holdSpent = k.holdSpent)
    (hp : k'.profile = k.profile) (hrx : k'.rx = k.rx) : k.SameHold k' :=
  ⟨hhold, hspent, by rw [hp], by rw [hrx]⟩

theorem Link.Hears.sameHold {k k' : Link} (h : k.Hears k') : k.SameHold k' :=
  ⟨by rw [h.1], by rw [h.1], by rw [h.1], h.2.1⟩

/-- A refreshed hold line stands as R20 calls for. -/
theorem Link.refreshHold_follows (low : Bool) (k : Link) : (k.refreshHold low).HoldFollows low := by
  unfold refreshHold HoldFollows
  split
  · exact (by assumption : k.holdWanted low = k.hold).symm
  · rfl

/-- Every hold line stands as R20 calls for. -/
def State.HoldsFollow (s : State) : Prop := ∀ l : LinkId, (s.link l).HoldFollows s.store.low

namespace State.HoldsFollow

variable {s : State} (h : s.HoldsFollow)
include h

theorem of_links {t : State} (hlow : t.store.low = s.store.low) (hl : ∀ l, (s.link l).SameHold (t.link l)) :
    t.HoldsFollow := fun l => by
  rw [hlow]
  exact (h l).of_same (hl l)

theorem setLink {l : LinkId} {k : Link} (hk : (s.link l).HoldFollows s.store.low → k.HoldFollows s.store.low) :
    (s.setLink l k).HoldsFollow := by
  intro m
  by_cases hm : m = l
  · subst hm
    rw [setLink_link_self]
    exact hk (h m)
  · rw [setLink_link_ne s hm]
    exact h m

theorem setLink_same {l : LinkId} {k : Link} (hk : (s.link l).SameHold k) : (s.setLink l k).HoldsFollow :=
  h.setLink fun hl => hl.of_same hk

theorem recordFault (src : Fin 26) (code : FaultCode) : (s.recordFault src code).HoldsFollow :=
  h.of_links (by simp) fun l => by
    obtain ⟨rs, rate, he⟩ := s.recordFault_link src code l
    rw [he]
    exact .of_eq rfl rfl rfl rfl

theorem testLowEntry : s.testLowEntry.HoldsFollow := by
  unfold State.testLowEntry
  split
  · intro l
    simp only [refreshHolds, State.link_map]
    exact Link.refreshHold_follows _ _
  · exact h

theorem testLowExit : s.testLowExit.HoldsFollow := by
  unfold State.testLowExit
  split
  · intro l
    have hl : ({ s with
        store := { s.store with low := false }
        links := s.links.map fun k => ({ k with holdSpent := false } : Link).refreshHold false } : State).link l =
        ({ s.link l with holdSpent := false } : Link).refreshHold false := s.link_map _ l
    rw [hl]
    exact Link.refreshHold_follows _ _
  · exact h

theorem noteGrant : s.noteGrant.HoldsFollow := by
  have hcount : (s.modStore fun st => { st with free := st.free - 1 }).HoldsFollow := h
  unfold State.noteGrant
  refine testLowEntry ?_
  have hfault : (if s.store.free = s.store.reserve + 1 then
      (s.modStore fun st => { st with free := st.free - 1 }).recordFault storeSource .reserveInUse
      else s.modStore fun st => { st with free := st.free - 1 }).HoldsFollow := by
    split
    · exact hcount.recordFault _ _
    · exact hcount
  split <;> exact hfault

theorem grantSegment (g : Nat) (b : Byte) : (s.grantSegment g b).HoldsFollow := by
  unfold State.grantSegment
  split
  · rename_i t _
    exact noteGrant (s := s.putTake g (t.appendNew b)) h
  · exact h

theorem grantWaiting (w : WaitingRequest) : (s.grantWaiting w).HoldsFollow := by
  have hw : (s.withdraw w.link).HoldsFollow := h
  rcases s.grantWaiting_cases w with ⟨g, _, b, _, -, -, he⟩ | ⟨-, he⟩ <;> rw [he]
  · exact grantSegment (hw.setLink_same (Link.drainHead_hears _).sameHold) g _
  · exact hw

theorem runArbiter : s.runArbiter.HoldsFollow :=
  arbitrate_keeps (P := State.HoldsFollow) (fun _ ht => ht.grantWaiting _) _ h

theorem returnSegments (n : Nat) : (s.returnSegments n).HoldsFollow := by
  unfold State.returnSegments
  split
  · exact h
  · exact (testLowExit (s := s.modStore fun st => { st with free := st.free + n }) h).runArbiter

theorem freeTake (g : Nat) : (s.freeTake g).HoldsFollow := by
  rcases s.freeTake_cases g with ⟨-, he⟩ | ⟨t, -, he⟩ <;> rw [he]
  · exact h
  · exact returnSegments (s := s.modStore fun st => { st with takes := Takes.erase st.takes g }) h _

theorem storeWritten (lowered : Bool) : (s.storeWritten lowered).HoldsFollow := by
  unfold State.storeWritten
  split
  · exact h.testLowExit.testLowEntry.runArbiter
  · exact h.testLowExit.testLowEntry

end State.HoldsFollow

theorem State.holdsFollow_reset : State.reset.HoldsFollow := by
  intro l
  rw [State.link_reset]
  revert l
  unfold Link.HoldFollows
  decide

theorem stepKeeps_holdsFollow : StepKeeps State.HoldsFollow where
  number _ h := h
  setFault _ h := h
  push _ _ h := h.setLink_same (.of_eq rfl rfl rfl rfl)
  linkCounters _ _ h := h.setLink_same (.of_eq rfl rfl rfl rfl)
  take _ _ h := h
  freeTake g h := h.freeTake g
  stories _ h := h
  queue _ h := h
  hears hk h := h.setLink_same hk.sameHold
  track _ _ _ h := h.setLink_same (.of_eq rfl rfl rfl rfl)
  allocate _ _ h := h
  append _ _ _ h := h
  grant g b _ h := h.grantSegment g b
  ask _ _ _ h := h
  withdraw _ h := h
  line _ h := h
  answer _ h := h
  pending _ h := h
  reset _ _ := State.holdsFollow_reset
  assert {s} h := h.of_links rfl fun l => by
    have hl : s.assertReset.link l = { s.link l with sendRate := none } := by simp [State.assertReset, State.link]
    rw [hl]
    exact .of_eq rfl rfl rfl rfl
  pin _ h := h
  tick {s} h := h.of_links rfl fun l => by
    have hl : s.tick.link l = (s.link l).tick := by simp [State.tick, State.link]
    rw [hl]
    exact .of_eq rfl rfl rfl rfl
  clock _ _ h := h
  service _ _ _ _ _ h := h
  watchList _ _ h := h
  watchTimer _ h := h
  clearFaults h := h
  frameSent _ h := h.setLink_same (by
    unfold Link.frameSent
    split <;> exact .of_eq rfl rfl rfl rfl)
  reserveGrants _ h := h
  restart {s} h l := by
    rw [s.copyRestart_link]
    exact (Link.refreshHold_follows false _).of_same (.of_eq rfl rfl rfl rfl)
  settings _ _ h := h
  route _ _ _ h := h
  subst _ _ _ h := h
  setting {s} r lo hi _ h :=
    State.HoldsFollow.storeWritten (s := { s with store := s.store.withSettings r lo hi }) h _
  turn _ h := h.setLink fun _ => Link.refreshHold_follows _ _
  linkProfile _ _ _ hcap h := h.setLink_same ⟨rfl, rfl, hcap, Iff.rfl⟩
  holdCapable _ _ h := by
    rw [State.modLinkProfile, State.modLink_refreshHold]
    exact h.setLink fun _ => Link.refreshHold_follows _ _
  write _ h := h

/-- Settles O55. -/
theorem stepsKeepStore : Obligations.StepsKeepStore := by
  intro s t he
  exact ⟨stepKeeps_segmentsConserved.step he, stepKeeps_lowConsistent.step he, stepKeeps_holdsFollow.step he⟩

end Sys2Proof.Machine
end

section
/-! Reception comes to rest (R3, R4, R29): every byte that can be drained is, within the bound that `State.settle` sets, and
the arbiter leaves no eligible request waiting. The bound rests on a load: what a link may still do to its FIFO, less one
while it waits with a byte in TEXT. Each byte drained lowers the sum of the loads; LINK RESET, which sets one waiting link
free, raises it by one at most, and comes with a check byte drained. -/

namespace Sys2Proof.Machine

open Sys2Proof

/-! ### No eligible request waits (R29) -/

/-- Every waiting segment request fails the grant rule (R29). -/
def Store.NoneEligible (st : Store) : Prop := ∀ w ∈ st.waiting, st.eligible w.prio = false

theorem Store.eligible_mono {st st' : Store} {p : Priority} (hfree : st'.free ≤ st.free) (hres : st.reserve ≤ st'.reserve)
    (h : st.eligible p = false) : st'.eligible p = false := by
  unfold eligible at h ⊢
  split at h
  · rename_i hp
    rw [if_pos hp]
    simp only [decide_eq_false_iff_not] at h ⊢
    omega
  · rename_i hp
    rw [if_neg hp]
    simp only [decide_eq_false_iff_not] at h ⊢
    omega

theorem arbitrate_noneEligible (n : Nat) {s : State} (hn : s.store.waiting.length ≤ n) :
    (arbitrate n s).store.NoneEligible := by
  induction n generalizing s with
  | zero =>
    intro w hw
    rw [arbitrate, List.length_eq_zero_iff.1 (Nat.le_zero.1 hn)] at hw
    cases hw
  | succ n ih =>
    unfold arbitrate
    split
    · exact Store.nextServed_none ‹_›
    · rename_i w hw
      refine ih ?_
      have hlt : (s.store.waiting.filter (·.link != w.link)).length < s.store.waiting.length :=
        List.length_filter_lt_length_iff_exists.2 ⟨w, (Store.nextServed_mem hw).1, by simp⟩
      rw [State.grantWaiting_waiting]
      omega

theorem State.runArbiter_noneEligible (s : State) : s.runArbiter.store.NoneEligible := arbitrate_noneEligible _ le_rfl

theorem stepKeeps_noneEligible : StepKeeps fun t => t.store.NoneEligible :=
  stepKeeps_store (by intro w hw; cases hw) (fun _ w hw => by cases hw) (fun _ _ h => h) (fun _ _ h => h)
    (fun _ _ _ h => h) (fun _ _ _ h w hw => Store.eligible_mono (Nat.sub_le ..) le_rfl (h w hw))
    (fun w hw h v hv => by
      rcases List.mem_append.1 hv with hv | hv
      · exact h v hv
      · rw [List.mem_singleton.1 hv]
        exact hw)
    (fun _ h w hw => h w (List.mem_filter.1 hw).1) (fun _ h => h)
    (fun {s} h hs => by
      rcases s.freeTake_cases h with ⟨-, he⟩ | ⟨t, -, he⟩ <;> rw [he]
      · exact hs
      · unfold State.returnSegments
        split
        · exact hs
        · exact State.runArbiter_noneEligible _)
    (fun {s} r lo hi _ hs => by
      unfold State.storeWritten
      split
      · exact State.runArbiter_noneEligible _
      · rename_i hlow
        rw [State.storeWritten_tested_store]
        intro w hw
        have hle : s.store.reserve ≤ r := by simpa using hlow
        exact Store.eligible_mono (st := s.store) le_rfl hle (hs w hw))

/-! ### Loads -/

/-- Whether a link is in TEXT. -/
def Rx.isText : Rx → Bool
  | .text _ _ => true
  | .disabled | .idle | .header _ | .checkCopy _ | .checkService _ | .discarding _ => false

theorem Rx.isText_iff {r : Rx} : r.isText = true ↔ ∃ h closed, r = .text h closed := by
  cases r with
  | text h closed => exact ⟨fun _ => ⟨h, closed, rfl⟩, fun _ => rfl⟩
  | disabled | idle | header _ | checkCopy _ | checkService _ | discarding _ =>
    exact ⟨fun h => absurd h (by simp [isText]), fun ⟨_, _, h⟩ => by cases h⟩

/-- The load of a link: twice its bytes, and one, none or two more as it does not wait, waits with a byte in TEXT, or waits
without one. -/
def Link.load (waits : Bool) (k : Link) : Nat :=
  if waits then if k.rx.isText ∧ k.fifo ≠ [] then 2 * k.fifo.length else 2 * k.fifo.length + 2
  else 2 * k.fifo.length + 1

/-- The load of a link of a state. -/
def State.load (s : State) (l : LinkId) : Nat := (s.link l).load (s.waits l)

theorem Link.load_pos (waits : Bool) (k : Link) : 1 ≤ k.load waits := by
  unfold load
  split
  · split
    · rename_i h
      have := List.length_pos_iff.2 h.2
      omega
    · omega
  · omega

theorem Link.load_le (waits : Bool) (k : Link) : k.load waits ≤ 2 * k.fifo.length + 2 := by
  unfold load
  split_ifs <;> omega

theorem State.load_free {s : State} {l : LinkId} (h : s.waits l = false) :
    s.load l = 2 * (s.link l).fifo.length + 1 := by
  simp [load, Link.load, h]

theorem State.load_congr {s t : State} {l : LinkId} (hw : t.waits l = s.waits l) (hx : (t.link l).rx = (s.link l).rx)
    (hf : (t.link l).fifo = (s.link l).fifo) : t.load l = s.load l := by
  simp only [load, Link.load, hw, hx, hf]

/-- A link without bytes and without a frame loads least, if it does not come to wait. -/
theorem Link.load_empty_le {k k' : Link} (hf : k'.fifo = []) (waits : Bool) : k'.load waits ≤ k.load waits := by
  cases waits with
  | false => simp [load, hf]
  | true =>
    unfold load
    simp only [hf, if_true, ne_eq, not_true, and_false, if_false, List.length_nil]
    split
    · rename_i h
      have := List.length_pos_iff.2 h.2
      omega
    · omega

/-- No link loads more than given. -/
def State.LoadWithin (c : LinkId → Nat) (t : State) : Prop := ∀ m, t.load m ≤ c m

namespace State.LoadWithin

variable {c : LinkId → Nat} {s t : State}

theorem of_same (h : s.LoadWithin c) (hw : ∀ m, t.waits m = s.waits m) (hx : ∀ m, (t.link m).rx = (s.link m).rx)
    (hf : ∀ m, (t.link m).fifo = (s.link m).fifo) : t.LoadWithin c := fun m => by
  rw [State.load_congr (hw m) (hx m) (hf m)]
  exact h m

theorem setLink {l : LinkId} {k : Link} (h : s.LoadWithin c) (hk : k.load (s.waits l) ≤ (s.link l).load (s.waits l)) :
    (s.setLink l k).LoadWithin c := by
  intro m
  by_cases hm : m = l
  · subst hm
    refine le_trans ?_ (h m)
    unfold load
    rw [setLink_link_self]
    exact hk
  · refine le_trans (le_of_eq ?_) (h m)
    unfold load
    rw [setLink_link_ne s hm]
    rfl

theorem setLink_same {l : LinkId} {k : Link} (h : s.LoadWithin c) (hx : k.rx = (s.link l).rx)
    (hf : k.fifo = (s.link l).fifo) : (s.setLink l k).LoadWithin c :=
  h.setLink (by unfold Link.load; rw [hx, hf])

end State.LoadWithin

/-! ### The loads under the arbiter and the Router -/

/-- Every link has the state and the FIFO it had in `s`. -/
def State.SameBytes (s t : State) : Prop :=
  ∀ m, (t.link m).rx = (s.link m).rx ∧ (t.link m).fifo = (s.link m).fifo

theorem State.modLink_sameBytes {s t : State} {l : LinkId} {f : Link → Link}
    (hf : ∀ k : Link, (f k).rx = k.rx ∧ (f k).fifo = k.fifo) (h : s.SameBytes t) : s.SameBytes (t.modLink l f) := by
  intro m
  rw [modLink_link]
  split
  · rw [(hf _).1, (hf _).2]
    exact h m
  · exact h m

theorem grantKeeps_sameBytes (s : State) : GrantKeeps s.SameBytes where
  number _ h := h
  setFault _ h := h
  push _ _ h := State.modLink_sameBytes (fun _ => ⟨rfl, rfl⟩) h
  store _ h := h
  holds {t f} hf h m := by
    have hmap : ({ t with links := t.links.map f } : State).link m = f (t.link m) := t.link_map f m
    rw [hmap, hf (t.link m)]
    exact h m

theorem State.SameBytes.refl (s : State) : s.SameBytes s := fun _ => ⟨rfl, rfl⟩

namespace State.LoadWithin

variable {c : LinkId → Nat} {s t : State}

theorem of_sameBytes (h : s.LoadWithin c) (hb : s.SameBytes t) (hw : t.store.waiting = s.store.waiting) :
    t.LoadWithin c :=
  h.of_same (fun m => by unfold waits; rw [hw]) (fun m => (hb m).1) fun m => (hb m).2

theorem testLowExit (h : s.LoadWithin c) : s.testLowExit.LoadWithin c :=
  h.of_sameBytes ((grantKeeps_sameBytes s).testLowExit (.refl s)) (by simp)

theorem testLowEntry (h : s.LoadWithin c) : s.testLowEntry.LoadWithin c :=
  h.of_sameBytes ((grantKeeps_sameBytes s).testLowEntry (.refl s)) (by simp)

theorem grantSegment (g : Nat) (b : Byte) (h : s.LoadWithin c) : (s.grantSegment g b).LoadWithin c :=
  h.of_sameBytes ((grantKeeps_sameBytes s).grantSegment g b (.refl s)) (by simp)

end State.LoadWithin

theorem State.waits_of_mem {s : State} {w : WaitingRequest} (hw : w ∈ s.store.waiting) : s.waits w.link = true := by
  simp only [waits, List.any_eq_true, beq_iff_eq]
  exact ⟨w, hw, rfl⟩

theorem State.withdraw_waits_ne (s : State) {l m : LinkId} (hm : m ≠ l) : (s.withdraw l).waits m = s.waits m := by
  have hiff : (s.withdraw l).waits m = true ↔ s.waits m = true := by
    simp only [withdraw, waits, Store.withdraw, modStore, List.any_eq_true, List.mem_filter, beq_iff_eq, bne_iff_ne]
    constructor
    · rintro ⟨w, ⟨hw, -⟩, he⟩
      exact ⟨w, hw, he⟩
    · rintro ⟨w, hw, rfl⟩
      exact ⟨w, ⟨hw, hm⟩, rfl⟩
  exact Bool.eq_iff_iff.2 hiff

theorem Link.drainHead_fifo (k : Link) : k.drainHead.fifo = k.fifo.tail := by
  unfold drainHead takeCrc
  split
  · rename_i h
    simp [h]
  · rename_i h
    split <;> simp [h]

/-- A request served lowers the load of its link and leaves the others. -/
theorem State.LoadWithin.grantWaiting {c : LinkId → Nat} {s : State} {w : WaitingRequest}
    (hw : s.store.nextServed = some w) (h : s.LoadWithin c) : (s.grantWaiting w).LoadWithin c := by
  have hwaits := State.waits_of_mem (Store.nextServed_mem hw).1
  rcases s.grantWaiting_cases w with ⟨g, closed, b, rest, hx, hf, he⟩ | ⟨hno, he⟩ <;> rw [he]
  · refine grantSegment g _ fun m => ?_
    by_cases hm : m = w.link
    · subst hm
      have hload := h w.link
      have hfree : ((s.withdraw w.link).modLink w.link (·.drainHead)).waits w.link = false := s.withdraw_waits w.link
      rw [load_free hfree, modLink_link, if_pos rfl, Link.drainHead_fifo]
      simp only [load, Link.load, hwaits, hx, hf, Rx.isText] at hload
      simp only [withdraw, modStore_link, hf, List.tail_cons]
      simp only [if_true, true_and, ne_eq, List.cons_ne_nil, not_false_eq_true, List.length_cons] at hload
      omega
    · have hsame : ((s.withdraw w.link).modLink w.link (·.drainHead)).load m = s.load m :=
        load_congr (s.withdraw_waits_ne hm) (by rw [modLink_link, if_neg hm]; rfl) (by rw [modLink_link, if_neg hm]; rfl)
      rw [hsame]
      exact h m
  · intro m
    by_cases hm : m = w.link
    · subst hm
      have hload := h w.link
      have hidle : ¬((s.link w.link).rx.isText = true ∧ (s.link w.link).fifo ≠ []) := by
        rintro ⟨hx, hf⟩
        obtain ⟨b, rest, hf⟩ := List.exists_cons_of_ne_nil hf
        obtain ⟨g, closed, hr⟩ := Rx.isText_iff.1 hx
        exact hno _ _ _ _ hr hf
      rw [load_free (s.withdraw_waits w.link)]
      simp only [load, Link.load, hwaits, if_true, if_neg hidle] at hload
      simp only [withdraw, modStore_link]
      omega
    · rw [load_congr (s.withdraw_waits_ne hm) rfl rfl]
      exact h m

namespace State.LoadWithin

variable {c : LinkId → Nat} {s : State}

theorem runArbiter (h : s.LoadWithin c) : s.runArbiter.LoadWithin c :=
  arbitrate_keeps (P := State.LoadWithin c) (fun hw => grantWaiting hw) _ h

theorem returnSegments (n : Nat) (h : s.LoadWithin c) : (s.returnSegments n).LoadWithin c := by
  unfold State.returnSegments
  split
  · exact h
  · exact (testLowExit (s := s.modStore fun st => { st with free := st.free + n }) h).runArbiter

theorem freeTake (g : Nat) (h : s.LoadWithin c) : (s.freeTake g).LoadWithin c := by
  rcases s.freeTake_cases g with ⟨-, he⟩ | ⟨t, -, he⟩ <;> rw [he]
  · exact h
  · exact returnSegments (s := s.modStore fun st => { st with takes := Takes.erase st.takes g }) _ h

theorem storeWritten (lowered : Bool) (h : s.LoadWithin c) : (s.storeWritten lowered).LoadWithin c := by
  unfold State.storeWritten
  split
  · exact h.testLowExit.testLowEntry.runArbiter
  · exact h.testLowExit.testLowEntry

end State.LoadWithin

theorem lineKeeps_loadWithin (c : LinkId → Nat) : LineKeeps (State.LoadWithin c) where
  number _ h := h
  setFault _ h := h
  push _ _ h := h.setLink_same rfl rfl
  linkCounters _ _ h := h.setLink_same rfl rfl
  take _ _ h := h
  freeTake g h := h.freeTake g
  stories _ h := h
  queue _ h := h
  line _ h := h

/-- LINK RESET apart, the requests raise no load. -/
theorem requestKeeps_loadWithin (c : LinkId → Nat) : RequestKeeps (State.LoadWithin c) where
  toFaultKeeps := (lineKeeps_loadWithin c).toFaultKeeps
  linkCounters := (lineKeeps_loadWithin c).linkCounters
  counters _ _ h := h
  start _ h := h
  stop _ h := h
  stopAtEnd _ h := h
  detectIfDue := (lineKeeps_loadWithin c).detectIfDue
  restoreIfDue := (lineKeeps_loadWithin c).restoreIfDue
  flush := (lineKeeps_loadWithin c).flush
  spikeAll := (lineKeeps_loadWithin c).spikeAll
  clock _ _ h := h
  service _ _ _ _ _ h := h
  watchList _ _ h := h
  watchTimer _ h := h
  clearFaults h := h
  reserveGrants _ h := h
  restart {s} h m := by
    refine le_trans ?_ (h m)
    have hfree : s.copyRestart.waits m = false := rfl
    rw [State.load_free hfree, s.copyRestart_link]
    simp only [Link.copyRestart_fifo]
    exact Link.load_pos _ _
  settings _ _ h := h
  route _ _ _ h := h
  subst _ _ _ h := h
  setting {s} r lo hi _ h :=
    State.LoadWithin.storeWritten (s := { s with store := s.store.withSettings r lo hi }) _ h
  switch {s l k} hk h := by
    have hx : (k.refreshHold s.store.low).rx = k.rx := by rw [Link.refreshHold_holdOnly]
    have hf : (k.refreshHold s.store.low).fifo = k.fifo := by rw [Link.refreshHold_holdOnly]
    rcases hk.2 with ⟨hkx, hkf⟩ | ⟨hkf, -⟩
    · exact h.setLink_same (hx.trans hkx) (hf.trans hkf)
    · exact h.setLink (Link.load_empty_le (hf.trans hkf) _)
  linkProfile _ _ _ _ h := h.setLink_same rfl rfl
  holdCapable {s} l b h := by
    rw [State.modLinkProfile, State.modLink_refreshHold]
    refine h.setLink_same ?_ ?_ <;> rw [Link.refreshHold_holdOnly]
  silence _ h := h.setLink_same rfl rfl
  write _ h := h

/-! ### The loads under the parser of a link that does not wait -/

/-- A link does not wait, and no link loads more than given. -/
def State.Draining (l : LinkId) (c : LinkId → Nat) (t : State) : Prop := t.waits l = false ∧ t.LoadWithin c

theorem routingKeeps_draining (l : LinkId) (c : LinkId → Nat) : RoutingKeeps (State.Draining l c) :=
  RoutingKeeps.and (P := fun t : State => t.waits l = false)
    { number := fun _ h => h
      setFault := fun _ h => h
      push := fun _ _ h => h
      linkCounters := fun _ _ h => h
      take := fun _ _ h => h
      freeTake := fun {s} g h => (State.LeftAlone.freeTake (k := s.link l) g ⟨h, rfl⟩).1
      stories := fun _ h => h
      queue := fun _ h => h }
    (lineKeeps_loadWithin c).toRoutingKeeps

theorem State.Draining.setLink {l : LinkId} {c : LinkId → Nat} {s : State} {k : Link} (h : s.Draining l c)
    (hf : k.fifo = (s.link l).fifo) : (s.setLink l k).Draining l c := by
  refine ⟨h.1, h.2.setLink ?_⟩
  simp [h.1, Link.load, hf]

theorem State.Draining.modLink_other {l m : LinkId} {c : LinkId → Nat} {s : State} {f : Link → Link}
    (hf : ∀ k : Link, (f k).rx = k.rx ∧ (f k).fifo = k.fifo) (h : s.Draining l c) : (s.modLink m f).Draining l c :=
  ⟨h.1, h.2.of_sameBytes (State.modLink_sameBytes hf (.refl s)) rfl⟩

theorem State.Draining.withdraw {l : LinkId} {c : LinkId → Nat} {s : State} (h : s.Draining l c) :
    (s.withdraw l).Draining l c := by
  refine ⟨s.withdraw_waits l, h.2.of_same (fun m => ?_) (fun _ => rfl) fun _ => rfl⟩
  by_cases hm : m = l
  · subst hm
    rw [s.withdraw_waits, h.1]
  · exact s.withdraw_waits_ne hm

theorem State.modTake_draining {l : LinkId} {c : LinkId → Nat} {s : State} (g : Nat) (f : Take → Take)
    (h : s.Draining l c) : (s.modTake g f).Draining l c := by
  rcases s.modTake_cases g f with ⟨t, -, he⟩ | ⟨-, he⟩ <;> rw [he] <;> exact h

theorem parseKeeps_draining (l : LinkId) (c : LinkId → Nat) : ParseKeeps l (State.Draining l c) where
  toFaultKeeps := (routingKeeps_draining l c).toFaultKeeps
  linkCounters n h := h.setLink rfl
  parse hk h := h.setLink (by rw [hk.1])
  openTake {s t} _ _ _ h :=
    State.Draining.setLink (s := s.putTake (Takes.lowestFree s.store.takes 0) t) h rfl
  mark g _ _ h := State.modTake_draining g _ h
  append _ _ _ h := h
  grant {s} g b _ h := ⟨by simpa [State.waits] using h.1, h.2.grantSegment g b⟩
  accept {s g} _ h := (routingKeeps_draining l c).accept (fun _ _ _ => State.Draining.modLink_other fun _ => ⟨rfl, rfl⟩) l g
    (State.Draining.setLink h rfl)
  discard {s g} _ h := (routingKeeps_draining l c).freeTake g (State.Draining.withdraw (State.Draining.setLink h rfl))
  withdraw h := h.withdraw

/-! ### Requests handed over raise the loads by one at most -/

/-- All loads together. -/
def State.loads (s : State) : Nat := ∑ m, s.load m

theorem State.LoadWithin.loads_le {c : LinkId → Nat} {s : State} (h : s.LoadWithin c) : s.loads ≤ ∑ m, c m :=
  Finset.sum_le_sum fun m _ => h m

/-- A law of the loads is kept by requests answered, put off or discarded. -/
theorem faultKeeps_load (R : (LinkId → Nat) → Prop) : FaultKeeps fun t => R t.load where
  number _ h := h
  setFault _ h := h
  push {s l} frame _ h := by
    have hsame : s.SameBytes (s.modLink l (·.pushFrame frame)) := State.modLink_sameBytes (fun _ => ⟨rfl, rfl⟩) (.refl s)
    have hload : (s.modLink l (·.pushFrame frame)).load = s.load := funext fun m =>
      State.load_congr rfl (hsame m).1 (hsame m).2
    rwa [hload]

/-- LINK RESET raises the load of its link by one at most (R4, R23). -/
theorem State.resetLink_load (s : State) (l m : LinkId) :
    (s.resetLink l).load m ≤ s.load m + if m = l then 1 else 0 := by
  let c : LinkId → Nat := fun m => if m = l then 2 * (s.link l).fifo.length + 1 else s.load m
  have hwithdrawn : (s.withdraw l).Draining l c := by
    refine ⟨s.withdraw_waits l, fun m => ?_⟩
    by_cases hm : m = l
    · subst hm
      rw [load_free (s.withdraw_waits m)]
      simp [c, withdraw]
    · simp only [c, if_neg hm]
      exact (load_congr (s.withdraw_waits_ne hm) rfl rfl).le
  have hdropped : (s.dropFrame l).Draining l c := by
    unfold dropFrame
    split
    case h_1 | h_2 => exact (routingKeeps_draining l c).freeTake _ hwithdrawn
    all_goals exact hwithdrawn
  unfold resetLink
  dsimp only
  rw [State.modLink_refreshHold]
  by_cases hm : m = l
  · subst hm
    rw [load, setLink_link_self]
    have hfree : (s.dropFrame m).waits m = false := hdropped.1
    change Link.load ((s.dropFrame m).waits m) _ ≤ _
    rw [hfree, if_pos rfl, Link.refreshHold_holdOnly]
    change 2 * (s.resetFifo m).length + 1 ≤ _
    have hpos := Link.load_pos (s.waits m) (s.link m)
    rcases s.resetFifo_cases m with ⟨⟨h, closed, hx⟩, hw, he⟩ | he <;> rw [he]
    · simp only [load, Link.load, hw, hx, Rx.isText, if_true, true_and]
      split <;> omega
    · simp only [List.length_nil, load]
      omega
  · rw [if_neg hm]
    have hload := hdropped.2 m
    simp only [c, if_neg hm] at hload
    refine le_trans (le_of_eq ?_) hload
    unfold load
    rw [setLink_link_ne _ hm]
    rfl

/-- A request handed over raises the loads by one at most. -/
theorem State.handOver_loads {c : LinkId → Nat} {s : State} (r : Request) (h : s.LoadWithin c) :
    (s.handOver r).loads ≤ ∑ m, c m + 1 := by
  let Q : State → Prop := fun t => t.loads ≤ ∑ m, c m + 1
  have hQ : ∀ {u : State}, u.LoadWithin c → Q u := fun hu => hu.loads_le.trans (Nat.le_succ _)
  have hfault : FaultKeeps Q := faultKeeps_load fun f => ∑ m, f m ≤ ∑ m, c m + 1
  have hreset : ∀ {u : State} (l : LinkId), u.LoadWithin c → Q (u.resetLink l) := fun {u} l hu =>
    calc (u.resetLink l).loads ≤ ∑ m, (c m + if m = l then 1 else 0) :=
          Finset.sum_le_sum fun m _ => (u.resetLink_load l m).trans (Nat.add_le_add_right (hu m) _)
      _ = ∑ m, c m + 1 := by simp [Finset.sum_add_distrib]
  unfold handOver
  split
  · exact hfault.recordFault rfl (hQ h)
  · split
    · have halone : ({ s with requests := [r] } : State).LoadWithin c := h
      have hkept := (requestKeeps_loadWithin c).perform hQ hreset r.kind r.params halone
      change Q (runRequests 1 _)
      simp only [runRequests]
      split
      · exact hQ h
      · rename_i u hu
        rw [hu] at hkept
        exact hfault.queueFrame _ _ hkept
    · exact hQ (u := { s with requests := s.requests ++ [r] }) h

/-! ### Each byte drained lowers the loads, and `State.settle` drains to rest -/

theorem State.drainByte_loads {s : State} {l : LinkId} {b : Byte} {rest : List Byte} (hw : s.waits l = false)
    (hf : (s.link l).fifo = b :: rest) : (s.drainByte l b).loads < s.loads := by
  let c : LinkId → Nat := Function.update s.load l (2 * rest.length + 1)
  have hload : s.load l = 2 * rest.length + 3 := by
    rw [load_free hw, hf, List.length_cons]
    omega
  have hsum : ∑ m, c m + 2 = s.loads := by
    have hrest := Finset.sum_update_of_mem (Finset.mem_univ l) s.load (2 * rest.length + 1)
    have hsplit := Finset.add_sum_erase Finset.univ s.load (Finset.mem_univ l)
    rw [← Finset.sdiff_singleton_eq_erase] at hsplit
    simp only [c, loads]
    omega
  have hpopped {f : Link → Link} (hrx : ∀ k : Link, (f k).fifo = k.fifo.tail) : (s.modLink l f).Draining l c := by
    refine ⟨hw, fun m => ?_⟩
    by_cases hm : m = l
    · subst hm
      have hfree : (s.modLink m f).waits m = false := hw
      rw [load_free hfree, modLink_link, if_pos rfl, hrx, hf]
      simp [c]
    · have hsame : (s.modLink l f).load m = s.load m :=
        load_congr rfl (by rw [modLink_link, if_neg hm]) (by rw [modLink_link, if_neg hm])
      rw [hsame]
      simp [c, hm]
  refine (parseKeeps_draining l c).drainByte (Q := fun t => t.loads < s.loads) (fun hu => ?lower) (fun r hu => ?hand) b
    (fun h closed p hx hp => ?ask) (hpopped Link.drainHead_fifo) (hpopped fun _ => rfl)
  case lower =>
    have := hu.2.loads_le
    omega
  case hand =>
    have := handOver_loads r hu.2
    omega
  case ask =>
    have hasked : ∀ m, (s.askSegment l p).waits m = (s.waits m || l == m) := fun m => by
      simp [askSegment, waits, modStore]
    refine Finset.sum_lt_sum (fun m _ => ?_) ⟨l, Finset.mem_univ l, ?_⟩
    · by_cases hm : l = m
      · subst hm
        rw [hload]
        simp only [load, hasked, beq_self_eq_true, Bool.or_true]
        simp [askSegment, Link.load, hx, hf, Rx.isText]
        omega
      · have hkeep : (s.askSegment l p).waits m = s.waits m := by simp [hasked, hm]
        exact (load_congr hkeep rfl rfl).le
    · rw [hload]
      simp only [load, hasked, beq_self_eq_true, Bool.or_true]
      simp [askSegment, Link.load, hx, hf, Rx.isText]
      omega

theorem allLinks_mem (l : LinkId) : l ∈ allLinks := by
  revert l
  decide

theorem State.settled_of_drainOne {s : State} (h : s.drainOne = none) : s.settled := by
  intro l
  unfold drainOne at h
  split at h
  · rename_i hnone
    have hl := List.find?_eq_none.1 hnone l (allLinks_mem l)
    simp only [canDrain, Bool.and_eq_true, Bool.not_eq_true', List.isEmpty_eq_false_iff, not_and, Bool.not_eq_false] at hl
    by_cases hf : (s.link l).fifo = []
    · exact .inl hf
    · exact .inr (hl hf)
  · rename_i m hm
    have hdrain := List.find?_some hm
    split at h
    · rename_i hf
      simp [canDrain, hf] at hdrain
    · cases h

theorem State.drainOne_loads {s t : State} (h : s.drainOne = some t) : t.loads < s.loads := by
  unfold drainOne at h
  split at h
  · cases h
  · rename_i l hl
    have hdrain := List.find?_some hl
    split at h
    · cases h
    · rename_i b rest hf
      cases h
      simp only [canDrain, Bool.and_eq_true, Bool.not_eq_true'] at hdrain
      exact drainByte_loads hdrain.2 hf

theorem drainAll_settled (n : Nat) {s : State} (hn : s.loads ≤ n) : (drainAll n s).settled := by
  induction n generalizing s with
  | zero =>
    have hpos := Finset.single_le_sum (f := s.load) (fun _ _ => Nat.zero_le _) (Finset.mem_univ (0 : LinkId))
    have hone := Link.load_pos (s.waits 0) (s.link 0)
    have hzero : s.load 0 ≤ 0 := hpos.trans hn
    exact absurd (hone.trans hzero) (by decide)
  | succ n ih =>
    unfold drainAll
    split
    · exact State.settled_of_drainOne ‹_›
    · rename_i t ht
      exact ih (Nat.le_of_lt_succ ((State.drainOne_loads ht).trans_le hn))

theorem State.loads_le (s : State) : s.loads ≤ 2 * s.fifoBytes + 16 := by
  have hle : ∀ m, s.load m ≤ 2 * (s.link m).fifo.length + 2 := fun m => Link.load_le _ _
  simp only [loads, fifoBytes, Fin.sum_univ_eight, allLinks, List.map_cons, List.map_nil, List.sum_cons, List.sum_nil]
  have h0 := hle 0
  have h1 := hle 1
  have h2 := hle 2
  have h3 := hle 3
  have h4 := hle 4
  have h5 := hle 5
  have h6 := hle 6
  have h7 := hle 7
  omega

/-- Draining comes to rest within its bound. -/
theorem State.settle_settled (s : State) : s.settle.settled := drainAll_settled _ s.loads_le

/-! ### Commands that drain nothing leave every byte where it waits -/

/-- FIFOs and waiting requests are those of `s`. -/
def State.SameWaits (s t : State) : Prop :=
  t.store.waiting = s.store.waiting ∧ ∀ l, (t.link l).fifo = (s.link l).fifo

theorem State.settled.of_sameWaits {s t : State} (h : s.settled) (hst : s.SameWaits t) : t.settled :=
  State.settled_of_eq h hst.1 hst.2

theorem State.modLink_sameWaits {s t : State} {l : LinkId} {f : Link → Link} (hf : ∀ k : Link, (f k).fifo = k.fifo)
    (h : s.SameWaits t) : s.SameWaits (t.modLink l f) :=
  ⟨h.1, fun m => by
    rw [modLink_link]
    split
    · rw [hf]
      exact h.2 m
    · exact h.2 m⟩

theorem faultKeeps_sameWaits (s : State) : FaultKeeps s.SameWaits where
  number _ h := h
  setFault _ h := h
  push _ _ h := State.modLink_sameWaits (fun _ => rfl) h

theorem State.SameWaits.refl (s : State) : s.SameWaits s := ⟨rfl, fun _ => rfl⟩

theorem State.live_settled {s : State} {f : State → State} (h : s.settled) (hf : (f s).settled) : (s.live f).settled := by
  unfold live
  split
  · exact h
  · exact hf

namespace State.SameWaits

variable {s t : State}

theorem detectIfDue (s : State) (i : CircuitId) : s.SameWaits (s.detectIfDue i) := by
  unfold State.detectIfDue
  split
  · exact (faultKeeps_sameWaits s).recordFault (FaultCode.belongs_circuitSource (code := .receiverBreak) i fun _ => rfl)
      (.refl s)
  · exact .refl s

theorem restoreIfDue (s : State) (i : CircuitId) : s.SameWaits (s.restoreIfDue i) := by
  unfold State.restoreIfDue
  split <;> exact .refl s

theorem answerbackCharacter (s : State) (i : CircuitId) (code : Code5) : s.SameWaits (s.answerbackCharacter i code) := by
  unfold State.answerbackCharacter State.answerback
  dsimp only
  split
  · split
    · split
      · exact .refl s
      · exact .refl s
      · split
        · split
          · exact .refl s
          · exact (faultKeeps_sameWaits s).recordFault
              (FaultCode.belongs_circuitSource (code := .wrongAnswerback) i fun _ => rfl) (.refl s)
        · exact .refl s
    · exact .refl s
  · exact .refl s

theorem noAnswerback (s : State) (i : CircuitId) : s.SameWaits (s.noAnswerback i) := by
  unfold State.noAnswerback
  split
  · exact (faultKeeps_sameWaits s).recordFault (FaultCode.belongs_circuitSource (code := .noAnswerback) i fun _ => rfl)
      (.refl s)
  · exact .refl s

theorem expireHoldIfDue (s : State) (l : LinkId) : s.SameWaits (s.expireHoldIfDue l) := by
  unfold State.expireHoldIfDue
  split
  · refine modLink_sameWaits (fun _ => rfl) ((faultKeeps_sameWaits s).recordFault
      (FaultCode.belongs_linkSource (code := .holdExpired) l fun _ => rfl) ?_)
    refine modLink_sameWaits (fun k => ?_) (modLink_sameWaits (fun _ => rfl) (.refl s))
    rw [Link.refreshHold_holdOnly]
  · exact .refl s

theorem frameSent (s : State) (l : LinkId) : s.SameWaits (s.modLink l Link.frameSent) :=
  modLink_sameWaits (fun k => by unfold Link.frameSent; split <;> rfl) (.refl s)

theorem watchReport (s : State) : s.SameWaits (if s.reportDue then s.watchReport else s) := by
  unfold State.watchReport
  split
  · split
    · exact .refl s
    · exact (faultKeeps_sameWaits s).notice _ _ (.refl s)
  · exact .refl s

theorem daySecond (s : State) : s.SameWaits s.daySecond := by
  unfold State.daySecond
  split <;> exact .refl s

theorem map_links {f : Link → Link} (hw : t.store.waiting = s.store.waiting) (hf : ∀ k, (f k).fifo = k.fifo)
    (hl : t.links = s.links.map f) : s.SameWaits t :=
  ⟨hw, fun l => by simp [link, hl, hf]⟩

theorem setSilent (s : State) (l : LinkId) : s.SameWaits (s.setSilent l) :=
  (faultKeeps_sameWaits s).recordFault (FaultCode.belongs_linkSource (code := .silent) l fun _ => rfl)
    (modLink_sameWaits (fun _ => rfl) (.refl s))

theorem returnLevelChange (s : State) (i : CircuitId) : s.SameWaits (s.returnLevelChange i) := by
  unfold State.returnLevelChange
  split <;> exact .refl s

end State.SameWaits

/-- Every command leaves reception at rest: those that may move a FIFO settle at their end, the others move none. -/
theorem exec_settled {c : Instr} {s t : State} (he : exec c s = .next t) (hs : s.settled) : t.settled := by
  cases c <;> cases he
  case hardwareReset straps =>
    exact fun l => .inl (congrArg Link.fifo (State.link_reset l))
  case millisecondTick => exact State.live_settled hs (hs.of_sameWaits (.map_links (f := Link.tick) rfl (fun _ => rfl) rfl))
  case dayClockSecond => exact State.live_settled hs (hs.of_sameWaits (.daySecond s))
  case byteArrives l b =>
    refine State.live_settled hs ?_
    unfold State.byteArrives
    split
    · exact hs
    · dsimp only
      split <;> exact State.settle_settled _
  case segmentGrant =>
    refine State.live_settled hs ?_
    unfold State.segmentGrant
    split
    · exact State.settle_settled _
    · exact hs
  case silenceExpiry l =>
    refine State.live_settled hs ?_
    unfold State.silenceExpiry
    split
    · exact (State.settle_settled _).of_sameWaits (.setSilent _ l)
    · exact hs
  case holdExpiry l => exact State.live_settled hs (hs.of_sameWaits (.expireHoldIfDue s l))
  case characterTimeEnd i => exact State.live_settled hs (State.settle_settled _)
  case answerbackCharacter i code => exact State.live_settled hs (hs.of_sameWaits (.answerbackCharacter s i code))
  case noAnswerback i => exact State.live_settled hs (hs.of_sameWaits (.noAnswerback s i))
  case receiverBreak i => exact State.live_settled hs (hs.of_sameWaits (.detectIfDue s i))
  case restore i => exact State.live_settled hs (hs.of_sameWaits (.restoreIfDue s i))
  case requestTimedOut n =>
    refine State.live_settled hs ?_
    unfold State.requestTimedOut
    split
    · exact State.settle_settled _
    · exact hs
  case retry =>
    refine State.live_settled hs ?_
    unfold State.retry
    split
    · exact State.settle_settled _
    · exact hs
  case replyFrameSent l => exact State.live_settled hs (hs.of_sameWaits (.frameSent s l))
  case watchReport => exact State.live_settled hs (hs.of_sameWaits (.watchReport s))
  case resetInputAsserted =>
    exact State.live_settled hs
      (hs.of_sameWaits (.map_links (f := fun k => { k with sendRate := none }) rfl (fun _ => rfl) rfl))
  case returnLineLevelChange i => exact hs.of_sameWaits (.returnLevelChange s i)
  all_goals exact State.live_settled hs (State.settle_settled _)

/-- Settles O59. -/
theorem stepsKeepDraining : Obligations.StepsKeepDraining := by
  intro s t he
  refine ⟨fun hs => ?_, stepKeeps_noneEligible.step he⟩
  unfold step at he
  split at he
  · cases he
    exact hs
  · exact exec_settled he hs

end Sys2Proof.Machine
end

section
/-! The reference law (R38) and what keeps it. Between a removal from a queue and the references dropped for it the counts
are ahead of the queues: the law is stated with the entries still owed, with the take that the Router is handling and that
may not be referenced yet, and with the link whose frame is being dropped. -/

namespace Sys2Proof.Machine

open Sys2Proof

/-! ### References in a list of entries -/

/-- How many entries of a list name a handle. -/
def refsIn (es : List Entry) (g : Nat) : Nat := (es.filter fun e => e.handle == g).length

section
variable (es fs : List Entry) (e : Entry) (g : Nat)

@[simp] theorem refsIn_nil : refsIn [] g = 0 := rfl

theorem refsIn_cons : refsIn (e :: es) g = refsIn es g + if e.handle = g then 1 else 0 := by
  unfold refsIn
  by_cases h : e.handle = g <;> simp [h]

theorem refsIn_append : refsIn (es ++ fs) g = refsIn es g + refsIn fs g := by
  simp [refsIn]

theorem refsIn_filter_add (p : Entry → Bool) :
    refsIn (es.filter fun e => !p e) g + refsIn (es.filter p) g = refsIn es g := by
  induction es with
  | nil => rfl
  | cons e es ih =>
    cases hp : p e <;> simp only [List.filter_cons, hp, Bool.not_false, Bool.not_true, if_true, if_false, refsIn_cons,
      Bool.false_eq_true] <;> omega

theorem refsIn_placeEntry : refsIn (placeEntry es e) g = refsIn es g + if e.handle = g then 1 else 0 := by
  have h := congrArg (refsIn · g) (List.takeWhile_append_dropWhile
    (p := fun x : Entry => decide (x.prio.num ≤ e.prio.num)) (l := es))
  simp only [refsIn_append] at h
  simp only [placeEntry, refsIn_append, refsIn_cons]
  omega

theorem refsIn_placeResumed : refsIn (placeResumed es e) g = refsIn es g + if e.handle = g then 1 else 0 := by
  have h := congrArg (refsIn · g) (List.takeWhile_append_dropWhile
    (p := fun x : Entry => decide (x.prio.num < e.prio.num)) (l := es))
  simp only [refsIn_append] at h
  simp only [placeResumed, refsIn_append, refsIn_cons]
  omega

end

theorem refsIn_eraseIdx {es : List Entry} {n : Nat} {e : Entry} (he : es[n]? = some e) (g : Nat) :
    refsIn (es.eraseIdx n) g + (if e.handle = g then 1 else 0) = refsIn es g := by
  induction es generalizing n with
  | nil => simp at he
  | cons d es ih =>
    cases n with
    | zero =>
      simp only [List.getElem?_cons_zero, Option.some.injEq] at he
      subst he
      rw [List.eraseIdx_cons_zero, refsIn_cons]
    | succ n =>
      have hrest := ih (by simpa using he)
      simp only [List.eraseIdx_cons_succ, refsIn_cons]
      omega

theorem refsIn_set {es : List Entry} {n : Nat} {e d : Entry} (he : es[n]? = some e) (g : Nat) :
    refsIn (es.set n d) g + (if e.handle = g then 1 else 0) = refsIn es g + if d.handle = g then 1 else 0 := by
  induction es generalizing n with
  | nil => simp at he
  | cons c es ih =>
    cases n with
    | zero =>
      simp only [List.getElem?_cons_zero, Option.some.injEq] at he
      subst he
      simp only [List.set_cons_zero, refsIn_cons]
      omega
    | succ n =>
      have hrest := ih (by simpa using he)
      simp only [List.set_cons_succ, refsIn_cons]
      omega

theorem refsIn_pos {es : List Entry} {g : Nat} : 0 < refsIn es g ↔ ∃ e ∈ es, e.handle = g := by
  simp [refsIn, List.length_pos_iff_exists_mem]

theorem refsIn_eq_zero {es : List Entry} {g : Nat} : refsIn es g = 0 ↔ ∀ e ∈ es, e.handle ≠ g := by
  simp [refsIn, List.filter_eq_nil_iff]

/-! ### References on the circuits -/

/-- The reference that a take in flight is. -/
def Circuit.flightRef (c : Circuit) (g : Nat) : Nat := if c.flight.map (·.entry.handle) = some g then 1 else 0

theorem Circuit.refsTo_eq (c : Circuit) (g : Nat) : c.refsTo g = refsIn c.queue g + c.flightRef g := rfl

theorem State.refsTo_eq_sum (s : State) (g : Nat) : s.refsTo g = ∑ i, (s.circuit i).refsTo g := by
  have hall : allCircuits = List.finRange 16 := by decide
  rw [refsTo, hall, Fin.sum_univ_def]

theorem State.refsTo_setCircuit (s : State) (i : CircuitId) (c : Circuit) (g : Nat) :
    (s.setCircuit i c).refsTo g + (s.circuit i).refsTo g = s.refsTo g + c.refsTo g := by
  have hi := Finset.mem_univ i
  have hnew := Finset.add_sum_erase Finset.univ (fun j => ((s.setCircuit i c).circuit j).refsTo g) hi
  have hold := Finset.add_sum_erase Finset.univ (fun j => (s.circuit j).refsTo g) hi
  have hrest : ∑ j ∈ Finset.univ.erase i, ((s.setCircuit i c).circuit j).refsTo g =
      ∑ j ∈ Finset.univ.erase i, (s.circuit j).refsTo g :=
    Finset.sum_congr rfl fun j hj => by rw [setCircuit_circuit_ne s (Finset.ne_of_mem_erase hj)]
  rw [refsTo_eq_sum, refsTo_eq_sum]
  simp only [setCircuit_circuit_self] at hnew
  omega

theorem State.refsTo_congr {s t : State} (h : ∀ i g, (t.circuit i).refsTo g = (s.circuit i).refsTo g) (g : Nat) :
    t.refsTo g = s.refsTo g := by
  rw [refsTo_eq_sum, refsTo_eq_sum]
  exact Finset.sum_congr rfl fun i _ => h i g

@[simp] theorem State.refsTo_setLink (s : State) (l : LinkId) (k : Link) (g : Nat) :
    (s.setLink l k).refsTo g = s.refsTo g := refsTo_congr (fun _ _ => rfl) g

@[simp] theorem State.refsTo_setRx (s : State) (l : LinkId) (r : Rx) (g : Nat) :
    (s.setRx l r).refsTo g = s.refsTo g := refsTo_congr (fun _ _ => rfl) g

@[simp] theorem State.refsTo_withdraw (s : State) (l : LinkId) (g : Nat) : (s.withdraw l).refsTo g = s.refsTo g :=
  refsTo_congr (fun _ _ => rfl) g

@[simp] theorem State.refsTo_putTake (s : State) (h : Nat) (t : Take) (g : Nat) :
    (s.putTake h t).refsTo g = s.refsTo g := refsTo_congr (fun _ _ => rfl) g

theorem Circuit.mem_handles_iff (c : Circuit) (g : Nat) : g ∈ c.handles ↔ 0 < c.refsTo g := by
  rw [refsTo_eq, Nat.add_pos_iff_pos_or_pos, refsIn_pos, flightRef]
  cases hf : c.flight with
  | none => simp [handles, hf]
  | some f =>
    by_cases hg : g = f.entry.handle <;> simp [handles, hf, hg, eq_comm]

theorem State.refsTo_pos_iff (s : State) (g : Nat) : 0 < s.refsTo g ↔ ∃ i, g ∈ (s.circuit i).handles := by
  simp [refsTo_eq_sum, Circuit.mem_handles_iff, Finset.sum_pos_iff]

/-! ### The law -/

/-- The reference law (R38) with the entries owed, the take being routed and the link whose frame is being dropped: each
record counts the references to it and the owed ones; a READY one has one, but for the take being routed; a FILLING one has
none; every handle named is that of a record; and every copy frame but that of `y` fills a record of its own link. -/
structure State.Refs (es : List Entry) (x : Option Nat) (y : Option LinkId) (s : State) : Prop where
  wf : Takes.wf s.store.takes = true
  counted : ∀ g t, s.take? g = some t → t.refs = s.refsTo g + refsIn es g
  ready : ∀ g t, s.take? g = some t → t.state = .ready → x ≠ some g → 0 < t.refs
  filling : ∀ g t, s.take? g = some t → t.state = .filling → t.refs = 0
  listed : ∀ g, 0 < s.refsTo g + refsIn es g → ∃ t, s.take? g = some t
  frames : ∀ l, y ≠ some l → ∀ g, (s.link l).rx.handle? = some g →
    ∃ t, s.take? g = some t ∧ t.state = .filling ∧ t.link = l

/-- A record with the state, the references and the link of another. -/
def Take.SameStanding (t u : Take) : Prop := u.state = t.state ∧ u.refs = t.refs ∧ u.link = t.link

theorem Take.SameStanding.refl (t : Take) : t.SameStanding t := ⟨rfl, rfl, rfl⟩

theorem Takes.get_of_mem {ts : List (Nat × Take)} {e : Nat × Take} (hs : ts.Pairwise fun a b => a.1 < b.1) (he : e ∈ ts) :
    Takes.get ts e.1 = some e.2 := by
  induction ts with
  | nil => cases he
  | cons d ts ih =>
    obtain ⟨k, u⟩ := d
    obtain ⟨hk, hr⟩ := List.pairwise_cons.1 hs
    unfold Takes.get
    rcases List.mem_cons.1 he with rfl | hm
    · simp
    · rw [if_neg (Nat.ne_of_lt (hk e hm)), ih hr hm]

theorem State.refs_iff {s : State} (hw : Takes.wf s.store.takes = true) :
    s.Refs [] none none ↔ s.framesFill ∧ s.refsExact := by
  have hmem : ∀ {e}, e ∈ s.store.takes → s.take? e.1 = some e.2 := fun he => Takes.get_of_mem (Takes.wf_sorted hw) he
  have hget : ∀ {g t}, s.take? g = some t → (g, t) ∈ s.store.takes := fun ht => Takes.get_mem ht
  have hframe : s.framesFill ↔ ∀ l g, (s.link l).rx.handle? = some g →
      ∃ t, s.take? g = some t ∧ t.state = .filling ∧ t.link = l := by
    have hany : ∀ (o : Option Take) (l : LinkId), (o.any fun t => t.state == .filling && t.link == l) = true ↔
        ∃ t, o = some t ∧ t.state = .filling ∧ t.link = l := fun o l => by cases o <;> simp
    exact ⟨fun h l g hg => (hany _ _).1 (h l g hg), fun h l g hg => (hany _ _).2 (h l g hg)⟩
  rw [hframe]
  constructor
  · intro h
    refine ⟨fun l => h.frames l (by simp), fun e he => by simpa using h.counted _ _ (hmem he), fun e he => ?_, ?_⟩
    · constructor
      · exact fun hr => h.ready _ _ (hmem he) hr (by simp)
      · intro hpos
        cases hst : e.2.state with
        | ready => rfl
        | filling =>
          have := h.filling _ _ (hmem he) hst
          omega
    · intro i g hg
      obtain ⟨t, ht⟩ := h.listed g (Nat.add_pos_left ((s.refsTo_pos_iff g).2 ⟨i, hg⟩) _)
      simp [ht]
  · rintro ⟨hframes, hcounted, hready, hlisted⟩
    refine ⟨hw, fun g t ht => by simpa using hcounted _ (hget ht), fun g t ht hr _ => (hready _ (hget ht)).1 hr, fun g t ht hf => ?_,
      fun g hg => ?_, fun l _ => hframes l⟩
    · refine Nat.eq_zero_of_not_pos fun hpos => ?_
      have hr := (hready _ (hget ht)).2 hpos
      simp only [hf] at hr
      cases hr
    · obtain ⟨i, hi⟩ := (s.refsTo_pos_iff g).1 (by simpa using hg)
      exact Option.isSome_iff_exists.1 (hlisted i g hi)

namespace State.Refs

variable {es : List Entry} {x : Option Nat} {y : Option LinkId} {s t : State}

/-! ### Updates that the law does not read -/

theorem of_same (h : s.Refs es x y) (htakes : t.store.takes = s.store.takes)
    (hrefs : ∀ i g, (t.circuit i).refsTo g = (s.circuit i).refsTo g)
    (hrx : ∀ l g, (t.link l).rx.handle? = some g → (s.link l).rx.handle? = some g) : t.Refs es x y := by
  have htake : ∀ g, t.take? g = s.take? g := fun g => by unfold take?; rw [htakes]
  have href := refsTo_congr hrefs
  exact
    { wf := htakes ▸ h.wf
      counted := fun g u hu => by
        rw [href]
        exact h.counted g u (htake g ▸ hu)
      ready := fun g u hu => h.ready g u (htake g ▸ hu)
      filling := fun g u hu => h.filling g u (htake g ▸ hu)
      listed := fun g hg => by
        rw [htake]
        exact h.listed g (href g ▸ hg)
      frames := fun l hl g hg => by
        rw [htake]
        exact h.frames l hl g (hrx l g hg) }

theorem of_sameRx (h : s.Refs es x y) (htakes : t.store.takes = s.store.takes) (hcircuits : t.circuits = s.circuits)
    (hrx : s.SameRx t) : t.Refs es x y :=
  h.of_same htakes (fun i g => by unfold circuit; rw [hcircuits]) fun l g hg => by rwa [hrx l] at hg

/-- A circuit changed, with what its queue and its flight lose owed, and what they gain no longer owed. -/
theorem setCircuit {fs : List Entry} {i : CircuitId} {c : Circuit} (h : s.Refs es x y)
    (hc : ∀ g, c.refsTo g + refsIn fs g = (s.circuit i).refsTo g + refsIn es g) : (s.setCircuit i c).Refs fs x y := by
  have hsum : ∀ g, (s.setCircuit i c).refsTo g + refsIn fs g = s.refsTo g + refsIn es g := fun g => by
    have h1 := s.refsTo_setCircuit i c g
    have h2 := hc g
    omega
  exact
    { wf := h.wf
      counted := fun g u hu => by
        rw [hsum]
        exact h.counted g u hu
      ready := h.ready
      filling := h.filling
      listed := fun g hg => h.listed g (hsum g ▸ hg)
      frames := h.frames }

theorem setCircuit_same {i : CircuitId} {c : Circuit} (h : s.Refs es x y) (hq : c.queue = (s.circuit i).queue)
    (hf : c.flight.map (·.entry) = (s.circuit i).flight.map (·.entry)) : (s.setCircuit i c).Refs es x y := by
  refine h.setCircuit fun g => ?_
  have hflight : c.flight.map (·.entry.handle) = (s.circuit i).flight.map (·.entry.handle) := by
    have := congrArg (Option.map Entry.handle) hf
    simpa [Option.map_map, Function.comp_def] using this
  rw [Circuit.refsTo_eq, Circuit.refsTo_eq, hq, Circuit.flightRef, Circuit.flightRef, hflight]

theorem setLink {l : LinkId} {k : Link} (h : s.Refs es x y)
    (hk : ∀ g, k.rx.handle? = some g → (s.link l).rx.handle? = some g) : (s.setLink l k).Refs es x y := by
  refine h.of_same rfl (fun _ _ => rfl) fun m g hg => ?_
  rw [setLink_link] at hg
  split at hg
  · rename_i hm
    rw [hm]
    exact hk g hg
  · exact hg

end State.Refs

theorem faultKeeps_refs (es : List Entry) (x : Option Nat) (y : Option LinkId) : FaultKeeps (State.Refs es x y) where
  number _ h := h.of_same rfl (fun _ _ => rfl) fun _ _ hg => hg
  setFault _ h := h.of_same rfl (fun _ _ => rfl) fun _ _ hg => hg
  push _ _ h := h.setLink fun _ hg => hg

theorem grantKeeps_sameCircuits (s : State) : GrantKeeps fun t => t.circuits = s.circuits where
  number _ h := h
  setFault _ h := h
  push _ _ h := h
  store _ h := h
  holds _ h := h

namespace State.Refs

variable {es : List Entry} {x : Option Nat} {y : Option LinkId} {s : State}

theorem linkFault {code : FaultCode} (h : s.Refs es x y) (l : LinkId)
    (hc : ∀ src : Fin 26, code.belongs src = decide (src.val < 8) := by intro; rfl) :
    (s.recordFault (linkSource l) code).Refs es x y :=
  (faultKeeps_refs es x y).recordFault (FaultCode.belongs_linkSource l hc) h

theorem modLink {l : LinkId} {f : Link → Link} (h : s.Refs es x y) (hf : ∀ k : Link, (f k).rx = k.rx) :
    (s.modLink l f).Refs es x y :=
  h.setLink fun g hg => by rwa [hf] at hg

theorem countLink (h : s.Refs es x y) (l : LinkId) (p : LinkPoint) (n : Nat) : (s.countLink l p n).Refs es x y :=
  h.modLink fun _ => rfl

theorem countCircuit (h : s.Refs es x y) (i : CircuitId) (p : CircuitPoint) (n : Nat) :
    (s.countCircuit i p n).Refs es x y :=
  h.setCircuit_same rfl rfl

theorem stories {fs : List Story} (h : s.Refs es x y) : ({ s with stories := fs } : State).Refs es x y :=
  h.of_same rfl (fun _ _ => rfl) fun _ _ hg => hg

theorem modStory (h : s.Refs es x y) (k : StoryKey) (f : Story → Story) : (s.modStory k f).Refs es x y := h.stories

theorem reportRelease (h : s.Refs es x y) (t : Take) : (s.reportRelease t).Refs es x y := by
  unfold State.reportRelease
  split
  · exact h.modStory _ _
  · exact h

theorem withdraw (h : s.Refs es x y) (l : LinkId) : (s.withdraw l).Refs es x y :=
  h.of_same rfl (fun _ _ => rfl) fun _ _ hg => hg

/-! ### Records changed -/

/-- A record changed, with what its count gains owed or what it loses no longer so. -/
theorem putTake_owed {fs : List Entry} {x' : Option Nat} {g : Nat} {t u : Take} (h : s.Refs es x y)
    (ht : s.take? g = some t) (hcount : u.refs = s.refsTo g + refsIn fs g)
    (hready : u.state = .ready → x' ≠ some g → 0 < u.refs) (hfilling : u.state = .filling → u.refs = 0)
    (hframes : ∀ l, y ≠ some l → (s.link l).rx.handle? = some g → u.state = .filling ∧ u.link = l)
    (howed : ∀ j, j ≠ g → refsIn fs j = refsIn es j) (hx : ∀ j, j ≠ g → x' ≠ some j → x ≠ some j) :
    (s.putTake g u).Refs fs x' y := by
  have hput : ∀ {j}, j ≠ g → (s.putTake g u).take? j = s.take? j := fun hj => take?_putTake_other s u hj
  have hback : ∀ {j v}, (s.putTake g u).take? j = some v → (j = g ∧ v = u) ∨ (j ≠ g ∧ s.take? j = some v) := by
    intro j v hv
    by_cases hj : j = g
    · subst hj
      rw [take?_putTake_self] at hv
      cases hv
      exact .inl ⟨rfl, rfl⟩
    · exact .inr ⟨hj, hput hj ▸ hv⟩
  exact
    { wf := Takes.wf_put u h.wf (Takes.lt_of_get h.wf ht)
      counted := fun j v hv => by
        rcases hback hv with ⟨rfl, rfl⟩ | ⟨hj, hv⟩
        · exact hcount
        · rw [howed j hj]
          exact h.counted j v hv
      ready := fun j v hv hs hxj => by
        rcases hback hv with ⟨rfl, rfl⟩ | ⟨hj, hv⟩
        · exact hready hs hxj
        · exact h.ready j v hv hs (hx j hj hxj)
      filling := fun j v hv hs => by
        rcases hback hv with ⟨rfl, rfl⟩ | ⟨-, hv⟩
        · exact hfilling hs
        · exact h.filling j v hv hs
      listed := fun j hj => by
        by_cases hjg : j = g
        · subst hjg
          exact ⟨u, take?_putTake_self ..⟩
        · rw [hput hjg]
          exact h.listed j (howed j hjg ▸ hj)
      frames := fun l hl j hj => by
        obtain ⟨v, hv, hf, hlk⟩ := h.frames l hl j hj
        by_cases hjg : j = g
        · subst hjg
          exact ⟨u, take?_putTake_self .., hframes l hl hj⟩
        · exact ⟨v, (hput hjg).trans hv, hf, hlk⟩ }

/-- A record changed to one of the same standing. -/
theorem putTake {g : Nat} {t u : Take} (h : s.Refs es x y) (ht : s.take? g = some t) (hu : t.SameStanding u) :
    (s.putTake g u).Refs es x y := by
  obtain ⟨hstate, hrefs, hlink⟩ := hu
  refine h.putTake_owed ht (hrefs.trans (h.counted g t ht)) (fun hs hx => hrefs ▸ h.ready g t ht (hstate ▸ hs) hx)
    (fun hs => hrefs.trans (h.filling g t ht (hstate ▸ hs))) (fun l hl hg => ?_) (fun _ _ => rfl) fun _ _ => id
  obtain ⟨v, hv, hf, hlk⟩ := h.frames l hl g hg
  rw [ht] at hv
  cases hv
  exact ⟨hstate.trans hf, hlink.trans hlk⟩

theorem modTake {g : Nat} {f : Take → Take} (h : s.Refs es x y) (hf : ∀ t : Take, t.SameStanding (f t)) :
    (s.modTake g f).Refs es x y := by
  rcases s.modTake_cases g f with ⟨t, ht, he⟩ | ⟨-, he⟩ <;> rw [he]
  · exact h.putTake ht (hf t)
  · exact h

/-! ### The arbiter -/

theorem noteGrant (h : s.Refs es x y) : s.noteGrant.Refs es x y := by
  refine h.of_sameRx ?_ ?_ ?_
  · rw [noteGrant_store]
  · exact (grantKeeps_sameCircuits s).noteGrant rfl
  · exact (storelessKeeps_sameRx s).noteGrant fun _ => rfl

theorem testLowExit (h : s.Refs es x y) : s.testLowExit.Refs es x y :=
  h.of_sameRx (by rw [testLowExit_store]) ((grantKeeps_sameCircuits s).testLowExit rfl)
    ((storelessKeeps_sameRx s).testLowExit fun _ => rfl)

theorem testLowEntry (h : s.Refs es x y) : s.testLowEntry.Refs es x y :=
  h.of_sameRx (by rw [testLowEntry_store]) ((grantKeeps_sameCircuits s).testLowEntry rfl)
    ((storelessKeeps_sameRx s).testLowEntry fun _ => rfl)

theorem grantSegment (g : Nat) (b : Byte) (h : s.Refs es x y) : (s.grantSegment g b).Refs es x y := by
  unfold State.grantSegment
  split
  · rename_i t ht
    exact noteGrant (h.putTake (u := t.appendNew b) ht ⟨rfl, rfl, rfl⟩)
  · exact h

theorem grantWaiting (w : WaitingRequest) (h : s.Refs es x y) : (s.grantWaiting w).Refs es x y := by
  rcases s.grantWaiting_cases w with ⟨g, _, b, _, -, -, he⟩ | ⟨-, he⟩ <;> rw [he]
  · exact grantSegment g _ ((h.withdraw _).modLink Link.drainHead_rx)
  · exact h.withdraw _

theorem runArbiter (h : s.Refs es x y) : s.runArbiter.Refs es x y :=
  arbitrate_keeps (P := State.Refs es x y) (fun _ ht => ht.grantWaiting _) _ h

theorem returnSegments (n : Nat) (h : s.Refs es x y) : (s.returnSegments n).Refs es x y := by
  unfold State.returnSegments
  split
  · exact h
  · exact (testLowExit (s := s.modStore fun st => { st with free := st.free + n })
      (h.of_same rfl (fun _ _ => rfl) fun _ _ hg => hg)).runArbiter

theorem storeWritten (lowered : Bool) (h : s.Refs es x y) : (s.storeWritten lowered).Refs es x y := by
  unfold State.storeWritten
  split
  · exact h.testLowExit.testLowEntry.runArbiter
  · exact h.testLowExit.testLowEntry

/-! ### Records freed -/

/-- A record freed that nothing names but what was owed. -/
theorem freeTake {fs : List Entry} {x' : Option Nat} {g : Nat} (h : s.Refs es x y)
    (hrefs : s.refsTo g + refsIn fs g = 0) (howed : ∀ j, j ≠ g → refsIn fs j = refsIn es j)
    (hx : ∀ j, j ≠ g → x' ≠ some j → x ≠ some j) (hlisted : ∃ t, s.take? g = some t)
    (hframes : ∀ l, y ≠ some l → (s.link l).rx.handle? ≠ some g) : (s.freeTake g).Refs fs x' y := by
  rcases s.freeTake_cases g with ⟨hnone, -⟩ | ⟨t, -, he⟩
  · obtain ⟨t, ht⟩ := hlisted
    rw [hnone] at ht
    cases ht
  · rw [he]
    have hget : ∀ {j}, j ≠ g → Takes.get (Takes.erase s.store.takes g) j = s.take? j := fun hj =>
      Takes.get_erase_other _ hj
    have hne : ∀ {j u}, Takes.get (Takes.erase s.store.takes g) j = some u → j ≠ g := by
      rintro j u hu rfl
      rw [Takes.get_erase_self] at hu
      cases hu
    refine returnSegments (s := s.modStore fun st => { st with takes := Takes.erase st.takes g }) _ ?_
    exact
      { wf := Takes.wf_erase g h.wf
        counted := fun j u hu => by
          rw [howed j (hne hu)]
          exact h.counted j u (hget (hne hu) ▸ hu)
        ready := fun j u hu hs hxj => h.ready j u (hget (hne hu) ▸ hu) hs (hx j (hne hu) hxj)
        filling := fun j u hu => h.filling j u (hget (hne hu) ▸ hu)
        listed := fun j hj => by
          have hjg : j ≠ g := by
            rintro rfl
            exact absurd hrefs (Nat.ne_of_gt hj)
          obtain ⟨u, hu⟩ := h.listed j (howed j hjg ▸ hj)
          exact ⟨u, (hget hjg).trans hu⟩
        frames := fun l hl j hj => by
          obtain ⟨u, hu, hrest⟩ := h.frames l hl j hj
          exact ⟨u, (hget fun hjg => hframes l hl (hjg ▸ hj)).trans hu, hrest⟩ }

/-- No frame fills a READY record. -/
theorem no_frame {g : Nat} {t : Take} (h : s.Refs es x y) (ht : s.take? g = some t) (hr : t.state = .ready) :
    ∀ l, y ≠ some l → (s.link l).rx.handle? ≠ some g := by
  intro l hl hg
  obtain ⟨u, hu, hf, -⟩ := h.frames l hl g hg
  rw [ht] at hu
  cases hu
  rw [hr] at hf
  cases hf

theorem ready_of_refs {g : Nat} {t : Take} (h : s.Refs es x y) (ht : s.take? g = some t) (hpos : 0 < t.refs) :
    t.state = .ready := by
  cases hs : t.state with
  | ready => rfl
  | filling =>
    have := h.filling g t ht hs
    omega

end State.Refs

theorem State.reportRelease_eq (s : State) (t : Take) : ∃ fs, s.reportRelease t = { s with stories := fs } := by
  unfold reportRelease
  split
  · exact ⟨_, rfl⟩
  · exact ⟨s.stories, rfl⟩

namespace State.Refs

variable {es : List Entry} {x : Option Nat} {y : Option LinkId} {s : State}

/-- A reference dropped is no longer owed. -/
theorem dropRef {e : Entry} (h : s.Refs (e :: es) x y) : (s.dropRef e.handle).Refs es x y := by
  have hother : ∀ g, g ≠ e.handle → refsIn es g = refsIn (e :: es) g := fun g hg => by
    rw [refsIn_cons, if_neg (Ne.symm hg), Nat.add_zero]
  have hself : refsIn (e :: es) e.handle = refsIn es e.handle + 1 := by rw [refsIn_cons, if_pos rfl]
  obtain ⟨t, ht⟩ := h.listed e.handle (by omega)
  have hcount := h.counted _ t ht
  have hready := h.ready_of_refs ht (by omega)
  rcases s.dropRef_cases e.handle with ⟨hnone, -⟩ | ⟨u, hu, hle, he⟩ | ⟨u, hu, hgt, he⟩
  · rw [ht] at hnone
    cases hnone
  · rw [ht] at hu
    cases hu
    obtain ⟨fs, hfs⟩ := s.reportRelease_eq t
    rw [he, hfs]
    have hzero : s.refsTo e.handle + refsIn es e.handle = 0 := by omega
    exact freeTake (s := { s with stories := fs }) h.stories hzero hother (fun _ _ => id) ⟨t, ht⟩ (h.no_frame ht hready)
  · rw [ht] at hu
    cases hu
    rw [he]
    refine h.putTake_owed ht ?_ (fun _ _ => Nat.sub_pos_of_lt hgt) (fun hs => absurd hs (by simp [hready]))
      (fun l hl hg => absurd hg (h.no_frame ht hready l hl)) hother fun _ _ => id
    dsimp only
    omega

theorem dropRefs (fs : List Entry) (h : s.Refs (fs ++ es) x y) : (s.dropRefs fs).Refs es x y := by
  unfold State.dropRefs
  induction fs generalizing s with
  | nil => exact h
  | cons e fs ih => exact ih h.dropRef

/-- A reference gained by a READY record, owed until an entry names it. -/
theorem addRef {e : Entry} {t : Take} (h : s.Refs es x y) (ht : s.take? e.handle = some t) (hr : t.state = .ready) :
    (s.addRef e.handle).Refs (e :: es) x y := by
  have hcount := h.counted _ t ht
  unfold State.addRef State.modTake
  rw [ht]
  refine h.putTake_owed ht ?_ (fun _ _ => Nat.succ_pos _) (fun hs => absurd hs (by simp [hr]))
    (fun l hl hg => absurd hg (h.no_frame ht hr l hl)) (fun g hg => ?_) fun _ _ => id
  · rw [refsIn_cons, if_pos rfl]
    dsimp only
    omega
  · rw [refsIn_cons, if_neg (Ne.symm hg), Nat.add_zero]

end State.Refs

end Sys2Proof.Machine
end

section
/-! The Router keeps the reference law (R38): removals owe what they drop, and an insertion finds the take listed because
no circuit still to be served names it. -/

namespace Sys2Proof.Machine

open Sys2Proof

namespace State.Refs

variable {es : List Entry} {x : Option Nat} {y : Option LinkId} {s : State}

/-! ### Removals (R38, R73, R77) -/

/-- Entries taken from a queue and their references dropped. -/
theorem remove {i : CircuitId} {c : Circuit} {fs : List Entry} (h : s.Refs es x y)
    (hc : ∀ g, c.refsTo g + refsIn fs g = (s.circuit i).refsTo g) : ((s.setCircuit i c).dropRefs fs).Refs es x y := by
  refine dropRefs fs (h.setCircuit fun g => ?_)
  rw [refsIn_append]
  have := hc g
  omega

theorem removeEntries (i : CircuitId) (p : Entry → Bool) (h : s.Refs es x y) : (s.removeEntries i p).Refs es x y := by
  refine h.remove fun g => ?_
  have hq := refsIn_filter_add (s.circuit i).queue g p
  simp only [Circuit.refsTo_eq, Circuit.flightRef]
  omega

theorem removeAt (i : CircuitId) (n : Nat) (h : s.Refs es x y) : (s.removeAt i n).Refs es x y := by
  rcases s.removeAt_cases i n with ⟨-, he⟩ | ⟨e, hn, he⟩ <;> rw [he]
  · exact h
  · refine h.remove (fs := [e]) fun g => ?_
    have hq := refsIn_eraseIdx hn g
    simp only [Circuit.refsTo_eq, Circuit.flightRef, refsIn_cons, refsIn_nil, Nat.zero_add]
    omega

theorem flush (i : CircuitId) (h : s.Refs es x y) : (s.flush i).Refs es x y := by
  refine h.remove fun g => ?_
  simp only [Circuit.refsTo_eq, Circuit.flightRef, refsIn_nil]
  omega

/-! ### Orders to a context in flight -/

theorem cutOrder (i : CircuitId) (g : Nat) (h : s.Refs es x y) : (s.cutOrder i g).Refs es x y := by
  unfold State.cutOrder
  split
  · rename_i f hf
    split
    · exact h.setCircuit_same rfl (by simp [hf])
    · exact h
  · exact h

theorem offerBreakIn (i : CircuitId) (p : Priority) (h : s.Refs es x y) : (s.offerBreakIn i p).Refs es x y := by
  unfold State.offerBreakIn
  split
  · exact h
  · rename_i f hf
    split
    · exact h
    · split
      · exact h.setCircuit_same rfl (by simp [hf])
      · exact h

theorem foldl_circuits {f : State → CircuitId → State} (hf : ∀ {u : State} (i : CircuitId), u.Refs es x y → (f u i).Refs es x y)
    (is : List CircuitId) (h : s.Refs es x y) : (is.foldl f s).Refs es x y :=
  List.foldlRecOn is _ h fun _ hu i _ => hf i hu

/-! ### Take spikes (R60) -/

theorem spike (g : Nat) (h : s.Refs es x y) : (s.spike g).Refs es x y :=
  foldl_circuits (fun i => cutOrder i g) _ (foldl_circuits (fun i => removeEntries i _) _ h)

theorem spikeAll (gs : List Nat) (h : s.Refs es x y) : (s.spikeAll gs).Refs es x y :=
  List.foldlRecOn gs _ h fun _ hu g _ => hu.spike g

end State.Refs

/-! ### Records that stay READY -/

/-- A handle names a READY record. -/
def State.Stands (g : Nat) (s : State) : Prop := ∃ t, s.take? g = some t ∧ t.state = .ready

namespace State.Stands

variable {g : Nat} {s : State}

theorem of_takes {t : State} (h : s.Stands g) (ht : t.store.takes = s.store.takes) : t.Stands g := by
  unfold Stands take?
  rw [ht]
  exact h

theorem putTake {j : Nat} {t u : Take} (h : s.Stands g) (ht : s.take? j = some t) (hu : u.state = t.state) :
    (s.putTake j u).Stands g := by
  obtain ⟨v, hv, hr⟩ := h
  by_cases hj : g = j
  · subst hj
    rw [ht] at hv
    cases hv
    exact ⟨u, take?_putTake_self .., hu.trans hr⟩
  · exact ⟨v, (take?_putTake_other s u hj).trans hv, hr⟩

theorem modTake {j : Nat} {f : Take → Take} (h : s.Stands g) (hf : ∀ t : Take, (f t).state = t.state) :
    (s.modTake j f).Stands g := by
  rcases s.modTake_cases j f with ⟨t, ht, he⟩ | ⟨-, he⟩ <;> rw [he]
  · exact h.putTake ht (hf t)
  · exact h

theorem grantSegment (j : Nat) (b : Byte) (h : s.Stands g) : (s.grantSegment j b).Stands g := by
  unfold State.grantSegment
  split
  · rename_i t ht
    exact (h.putTake (u := t.appendNew b) ht rfl).of_takes (by rw [noteGrant_store])
  · exact h

theorem grantWaiting (w : WaitingRequest) (h : s.Stands g) : (s.grantWaiting w).Stands g := by
  rcases s.grantWaiting_cases w with ⟨j, _, b, _, -, -, he⟩ | ⟨-, he⟩ <;> rw [he]
  · exact grantSegment j _ (h.of_takes rfl)
  · exact h.of_takes rfl

theorem freeTake {j : Nat} (hj : g ≠ j) (h : s.Stands g) : (s.freeTake j).Stands g := by
  rcases s.freeTake_cases j with ⟨-, he⟩ | ⟨t, -, he⟩ <;> rw [he]
  · exact h
  · have herased : (s.modStore fun st => { st with takes := Takes.erase st.takes j }).Stands g := by
      obtain ⟨t, ht, hr⟩ := h
      exact ⟨t, (Takes.get_erase_other _ hj).trans ht, hr⟩
    unfold State.returnSegments
    split
    · exact herased
    · refine arbitrate_keeps (P := State.Stands g) (fun _ hu => hu.grantWaiting _) _ (herased.of_takes ?_)
      rw [testLowExit_store]
      rfl

theorem dropRef {j : Nat} (hj : g ≠ j) (h : s.Stands g) : (s.dropRef j).Stands g := by
  rcases s.dropRef_cases j with ⟨-, he⟩ | ⟨t, -, -, he⟩ | ⟨t, ht, -, he⟩ <;> rw [he]
  · exact h
  · obtain ⟨fs, hfs⟩ := s.reportRelease_eq t
    rw [hfs]
    exact freeTake (s := { s with stories := fs }) hj (h.of_takes rfl)
  · exact h.putTake ht rfl

theorem dropRefs {fs : List Entry} (hfs : ∀ e ∈ fs, e.handle ≠ g) (h : s.Stands g) : (s.dropRefs fs).Stands g :=
  List.foldlRecOn fs _ h fun _ hu e he => hu.dropRef (hfs e he).symm

end State.Stands

theorem State.dropRef_circuits (s : State) (g : Nat) : (s.dropRef g).circuits = s.circuits := by
  have hfree (u : State) : (u.freeTake g).circuits = u.circuits :=
    StorelessKeeps.freeTake (P := fun t => t.circuits = u.circuits)
      { toGrantKeeps := grantKeeps_sameCircuits u, drainHead := fun _ h => h } g rfl
  rcases s.dropRef_cases g with ⟨-, he⟩ | ⟨t, -, -, he⟩ | ⟨t, -, -, he⟩ <;> rw [he]
  · obtain ⟨fs, hfs⟩ := s.reportRelease_eq t
    rw [hfree, hfs]
  · rfl

theorem State.dropRefs_circuits (s : State) (fs : List Entry) : (s.dropRefs fs).circuits = s.circuits :=
  List.foldlRecOn (motive := fun t : State => t.circuits = s.circuits) fs _ rfl fun (u : State) hu e _ => (u.dropRef_circuits e.handle).trans hu

theorem State.dropRefs_circuit (s : State) (fs : List Entry) (i : CircuitId) : (s.dropRefs fs).circuit i = s.circuit i := by
  unfold circuit
  rw [dropRefs_circuits]

/-! ### The take that the Router handles -/

/-- The Router handles the take of a READY record that circuits still to be served do not name in their queues. -/
structure State.Routed (g : Nat) (is : List CircuitId) (s : State) : Prop where
  refs : s.Refs [] (some g) none
  stands : s.Stands g
  clear : ∀ i ∈ is, ∀ e ∈ (s.circuit i).queue, e.handle ≠ g

theorem State.addRef_modCircuit (s : State) (i : CircuitId) (f : Circuit → Circuit) (g : Nat) :
    (s.modCircuit i f).addRef g = (s.addRef g).modCircuit i f := by
  unfold addRef modTake
  rw [take?_modCircuit]
  split <;> rfl

theorem State.addRef_circuit (s : State) (g : Nat) (i : CircuitId) : (s.addRef g).circuit i = s.circuit i := by
  unfold addRef
  rcases s.modTake_cases g fun t => { t with refs := t.refs + 1 } with ⟨t, -, he⟩ | ⟨-, he⟩ <;> rw [he]
  rfl

namespace State.Routed

variable {g : Nat} {is js : List CircuitId} {i : CircuitId} {s : State}

theorem mono (h : s.Routed g is) (hjs : ∀ i ∈ js, i ∈ is) : s.Routed g js :=
  ⟨h.refs, h.stands, fun i hi => h.clear i (hjs i hi)⟩

theorem tail (h : s.Routed g (i :: is)) : s.Routed g is := h.mono fun _ => List.mem_cons_of_mem _

theorem countCircuit (h : s.Routed g is) (i : CircuitId) (p : CircuitPoint) (n : Nat) :
    (s.countCircuit i p n).Routed g is := by
  refine ⟨h.refs.countCircuit i p n, h.stands, fun j hj e he => h.clear j hj e ?_⟩
  rw [State.countCircuit, modCircuit_circuit] at he
  split at he
  · rename_i hji
    subst hji
    exact he
  · exact he

theorem countLink (h : s.Routed g is) (l : LinkId) (p : LinkPoint) (n : Nat) : (s.countLink l p n).Routed g is :=
  ⟨h.refs.countLink l p n, h.stands, h.clear⟩

theorem modTake {j : Nat} {f : Take → Take} (h : s.Routed g is) (hf : ∀ t : Take, t.SameStanding (f t)) :
    (s.modTake j f).Routed g is := by
  refine ⟨h.refs.modTake hf, h.stands.modTake fun t => (hf t).1, fun i hi => ?_⟩
  rcases s.modTake_cases j f with ⟨t, -, he⟩ | ⟨-, he⟩ <;> rw [he] <;> exact h.clear i hi

theorem stories {fs : List Story} (h : s.Routed g is) : ({ s with stories := fs } : State).Routed g is :=
  ⟨h.refs.stories, h.stands, h.clear⟩

/-- Entries taken from the queue of a circuit that does not name the take, and their references dropped. -/
theorem remove {c : Circuit} {fs : List Entry} (hi : i ∈ is) (h : s.Routed g is)
    (hq : ∀ e ∈ c.queue, e ∈ (s.circuit i).queue) (hfs : ∀ e ∈ fs, e ∈ (s.circuit i).queue)
    (hc : ∀ g, c.refsTo g + refsIn fs g = (s.circuit i).refsTo g) : ((s.setCircuit i c).dropRefs fs).Routed g is := by
  refine ⟨h.refs.remove hc, Stands.dropRefs (fun e he => h.clear i hi e (hfs e he)) h.stands, fun j hj e he => ?_⟩
  rw [dropRefs_circuit, setCircuit_circuit] at he
  split at he
  · exact h.clear i hi e (hq e he)
  · exact h.clear j hj e he

theorem removeEntries (hi : i ∈ is) (p : Entry → Bool) (h : s.Routed g is) : (s.removeEntries i p).Routed g is := by
  refine h.remove hi (fun e he => (List.mem_filter.1 he).1) (fun e he => (List.mem_filter.1 he).1) fun g => ?_
  have hq := refsIn_filter_add (s.circuit i).queue g p
  simp only [Circuit.refsTo_eq, Circuit.flightRef]
  omega

theorem removeBehind (hi : i ∈ is) (n : Nat) (p : Entry → Bool) (h : s.Routed g is) :
    (s.removeBehind i n p).Routed g is := by
  refine h.remove hi (fun e he => ?_) (fun e he => List.mem_of_mem_drop (List.mem_filter.1 he).1) fun g => ?_
  · rcases List.mem_append.1 he with he | he
    · exact List.mem_of_mem_take he
    · exact List.mem_of_mem_drop (List.mem_filter.1 he).1
  · have hq := refsIn_filter_add ((s.circuit i).queue.drop (n + 1)) g p
    have hsplit := congrArg (refsIn · g) (List.take_append_drop (n + 1) (s.circuit i).queue)
    simp only [refsIn_append] at hsplit
    simp only [Circuit.refsTo_eq, Circuit.flightRef, refsIn_append]
    omega

theorem removeAt (hi : i ∈ is) (n : Nat) (h : s.Routed g is) : (s.removeAt i n).Routed g is := by
  rcases s.removeAt_cases i n with ⟨-, he⟩ | ⟨e, hn, he⟩ <;> rw [he]
  · exact h
  · refine h.remove (fs := [e]) hi (fun d hd => List.mem_of_mem_eraseIdx hd) (fun d hd => ?_) fun g => ?_
    · rw [List.mem_singleton.1 hd]
      exact List.mem_of_getElem? hn
    · have hq := refsIn_eraseIdx hn g
      simp only [Circuit.refsTo_eq, Circuit.flightRef, refsIn_cons, refsIn_nil, Nat.zero_add]
      omega

theorem offerBreakIn (i : CircuitId) (p : Priority) (h : s.Routed g is) : (s.offerBreakIn i p).Routed g is := by
  refine ⟨h.refs.offerBreakIn i p, ?_, fun j hj => ?_⟩
  · unfold State.offerBreakIn
    split
    · exact h.stands
    · split
      · exact h.stands
      · split <;> exact h.stands
  · unfold State.offerBreakIn
    split
    · exact h.clear j hj
    · split
      · exact h.clear j hj
      · split
        · intro e he
          rw [modCircuit_circuit] at he
          split at he
          · rename_i hji
            subst hji
            exact h.clear j hj e he
          · exact h.clear j hj e he
        · exact h.clear j hj

theorem cutOrder (i : CircuitId) (j : Nat) (h : s.Routed g is) : (s.cutOrder i j).Routed g is := by
  refine ⟨h.refs.cutOrder i j, ?_, fun k hk => ?_⟩
  · unfold State.cutOrder
    split
    · split <;> exact h.stands
    · exact h.stands
  · unfold State.cutOrder
    split
    · split
      · intro e he
        rw [modCircuit_circuit] at he
        split at he
        · rename_i hki
          subst hki
          exact h.clear k hk e he
        · exact h.clear k hk e he
      · exact h.clear k hk
    · exact h.clear k hk

/-- An entry of the take put in the queue of a circuit that is then served, in place of what it drops. -/
theorem enter {c : Circuit} {d : Entry} {fs : List Entry} (hi : i ∉ is) (hd : d.handle = g) (h : s.Routed g (i :: is))
    (hfs : ∀ e ∈ fs, e ∈ (s.circuit i).queue)
    (hc : ∀ j, c.refsTo j + refsIn fs j = (s.circuit i).refsTo j + if g = j then 1 else 0) :
    (((s.setCircuit i c).addRef g).dropRefs fs).Routed g is := by
  obtain ⟨t, ht, hr⟩ := h.stands
  subst hd
  have hadd : (s.setCircuit i c).addRef d.handle = (s.addRef d.handle).setCircuit i c :=
    s.addRef_modCircuit i (fun _ => c) d.handle
  have hstands : (s.addRef d.handle).Stands d.handle := h.stands.modTake fun _ => rfl
  rw [hadd]
  refine ⟨Refs.dropRefs fs ((h.refs.addRef ht hr).setCircuit fun j => ?_),
    Stands.dropRefs (fun e he => h.clear i List.mem_cons_self e (hfs e he)) hstands, fun j hj e he => ?_⟩
  · rw [addRef_circuit, refsIn_append, refsIn_cons, refsIn_nil]
    have := hc j
    omega
  · have hne : j ≠ i := fun hji => hi (hji ▸ hj)
    rw [dropRefs_circuit, setCircuit_circuit_ne _ hne, addRef_circuit] at he
    exact h.clear j (List.mem_cons_of_mem _ hj) e he

theorem place (hi : i ∉ is) (t : Take) (p : Priority) (h : s.Routed g (i :: is)) : (s.place i g t p).Routed g is := by
  refine offerBreakIn i p (h.enter (fs := [])
    (d := { handle := g, prio := p, resume := none, estimate := estimate (s.circuit i).active.form t.length }) hi rfl
    (fun e he => by cases he) fun j => ?_)
  have hq := refsIn_placeEntry (s.circuit i).queue
    { handle := g, prio := p, resume := none, estimate := estimate (s.circuit i).active.form t.length } j
  simp only [Circuit.refsTo_eq, Circuit.flightRef, refsIn_nil] at hq ⊢
  omega

theorem insert (hi : i ∉ is) (p : Priority) (h : s.Routed g (i :: is)) : (s.insert i g p).Routed g is := by
  obtain ⟨t, ht, -⟩ := h.stands
  rcases s.insert_cases i g p ht with ⟨-, he⟩ | ⟨-, -, he⟩ | ⟨-, -, he⟩ | ⟨n, -, -, -, he⟩ <;> rw [he]
  · exact h.tail.countCircuit i _ _
  · exact h.place hi t p
  · exact h.tail.countCircuit i _ _
  · exact place hi t p ((h.removeAt List.mem_cons_self n).countCircuit i _ _)

theorem replaceAt (hi : i ∉ is) (n : Nat) (t : Take) (h : s.Routed g (i :: is)) : (s.replaceAt i n g t).Routed g is := by
  unfold State.replaceAt
  split
  · exact h.tail
  · rename_i e hn
    refine h.enter (fs := [e])
      (d := { e with handle := g, resume := none, estimate := estimate (s.circuit i).active.form t.length }) hi rfl
      (fun d hd => ?_) fun j => ?_
    · rw [List.mem_singleton.1 hd]
      exact List.mem_of_getElem? hn
    · have hq := refsIn_set (d := { e with
        handle := g, resume := none, estimate := estimate (s.circuit i).active.form t.length }) hn j
      simp only [Circuit.refsTo_eq, Circuit.flightRef, refsIn_cons, refsIn_nil, Nat.zero_add] at hq ⊢
      omega

/-- What serves one circuit at a time serves a list of them. -/
theorem foldl {f : State → CircuitId → State} (hf : ∀ {u : State} {i : CircuitId} {js : List CircuitId}, i ∉ js →
      u.Routed g (i :: js) → (f u i).Routed g js) (hnodup : (is ++ js).Nodup) (h : s.Routed g (is ++ js)) :
    (is.foldl f s).Routed g js := by
  induction is generalizing s with
  | nil => exact h
  | cons i is ih =>
    obtain ⟨hi, hrest⟩ := List.nodup_cons.1 hnodup
    exact ih hrest (hf hi h)

theorem insertAll (p : Priority) (hnodup : is.Nodup) (h : s.Routed g is) : (s.insertAll g p is).Routed g [] :=
  foldl (js := []) (fun hi hu => hu.insert hi p) (by rwa [List.append_nil]) (by rwa [List.append_nil])

theorem correctOn (hi : i ∉ is) (t : Take) (p : Priority) (h : s.Routed g (i :: is)) :
    (s.correctOn g t p i).Routed g is := by
  unfold State.correctOn
  split
  · exact h.tail
  · rename_i n _
    have hbehind := h.removeBehind List.mem_cons_self n (s.matchesCorrection t)
    dsimp only
    split
    · exact hbehind.replaceAt hi n t
    · exact (hbehind.removeAt List.mem_cons_self n).insert hi p

end State.Routed

theorem allCircuits_nodup : allCircuits.Nodup := by decide

theorem allCircuits_mem (i : CircuitId) : i ∈ allCircuits := by
  revert i
  decide

namespace State.Routed

variable {g : Nat} {is : List CircuitId} {s : State}

theorem sub (h : s.Routed g allCircuits) (is : List CircuitId) : s.Routed g is := h.mono fun i _ => allCircuits_mem i

theorem fanOut (p : Priority) (set : CircuitSet) (h : s.Routed g allCircuits) : (s.fanOut g p set).Routed g [] :=
  insertAll p ((allCircuits_nodup.filter _).filter _) (h.sub _)

theorem queueKill (p : Priority) (k : StoryKey) (h : s.Routed g allCircuits) : (s.queueKill g p k).Routed g [] :=
  insertAll p (allCircuits_nodup.filter _) (h.sub _)

theorem correct (t : Take) (p : Priority) (set : CircuitSet) (h : s.Routed g allCircuits) :
    (s.correct g t p set).Routed g [] := by
  have hopen : ((s.openMembers set).filter fun i => !(s.matched t).contains i).Nodup :=
    ((allCircuits_nodup.filter _).filter _).filter _
  refine insertAll p hopen (foldl (fun hi hu => hu.correctOn hi t p) ?_ (h.sub _))
  refine List.nodup_append.2 ⟨allCircuits_nodup.filter _, hopen, ?_⟩
  rintro i hi j hj rfl
  simpa [hi] using (List.mem_filter.1 hj).2

theorem foldl_all {f : State → CircuitId → State}
    (hf : ∀ {u : State} (i : CircuitId), u.Routed g allCircuits → (f u i).Routed g allCircuits) (is : List CircuitId)
    (h : s.Routed g allCircuits) : (is.foldl f s).Routed g allCircuits :=
  List.foldlRecOn is _ h fun _ hu i _ => hf i hu

theorem purge (k : StoryKey) (h : s.Routed g allCircuits) : (s.purge k).Routed g allCircuits :=
  foldl_all (fun i hu => hu.removeEntries (allCircuits_mem i) _) _ h

theorem cutStory (k : StoryKey) (h : s.Routed g allCircuits) : (s.cutStory k).Routed g allCircuits := by
  refine foldl_all (fun {u} i hu => ?_) _ h
  split
  · exact (hu.cutOrder i _).stories
  · exact hu

theorem handleKill (t : Take) (p : Priority) (set : CircuitSet) (c : StoryCase) (h : s.Routed g allCircuits) :
    (s.handleKill g t p set c).Routed g [] := by
  have hadjusted {u : State} (hu : u.Routed g allCircuits) :
      (u.modTake g fun v => { v with adjusted := some (killPriority p) }).Routed g allCircuits :=
    hu.modTake fun _ => ⟨rfl, rfl, rfl⟩
  unfold State.handleKill
  cases c with
  | active => exact stories (queueKill _ _ (hadjusted ((h.purge _).cutStory _)))
  | killed => exact queueKill _ _ (hadjusted h)
  | fresh | unindexed => exact fanOut _ _ (hadjusted h)

theorem disposition (t : Take) (p : Priority) (set : CircuitSet) (c : StoryCase) (h : s.Routed g allCircuits) :
    (s.disposition g t p set c).Routed g [] := by
  unfold State.disposition
  cases t.disp with
  | normal =>
    dsimp only
    split
    · exact h.sub []
    · exact h.fanOut p set
  | correction =>
    dsimp only
    split
    · exact h.sub []
    · exact h.correct t p set
  | kill => exact h.handleKill t p set c

theorem indexStory (t : Take) (h : s.Routed g is) : (s.indexStory g t).1.Routed g is := by
  unfold State.indexStory
  split
  · exact modTake h.stories fun _ => ⟨rfl, rfl, rfl⟩
  · split
    · exact modTake h.stories fun _ => ⟨rfl, rfl, rfl⟩
    · exact modTake h fun _ => ⟨rfl, rfl, rfl⟩

/-- At the end of routing the take has references, or it is freed (R39). -/
theorem endRouting (afterKill : Bool) (h : s.Routed g is) : (s.endRouting g afterKill).Refs [] none none := by
  obtain ⟨t, ht, hr⟩ := h.stands
  unfold State.endRouting
  rw [ht]
  dsimp only
  split
  · rename_i hzero
    have hcount := h.refs.counted g t ht
    exact (h.refs.freeTake (fs := []) (x' := none) (by rw [← hcount, hzero]) (fun _ _ => rfl)
      (fun j hj _ hg => hj (Option.some.inj hg).symm) ⟨t, ht⟩ (h.refs.no_frame ht hr)).countLink _ _ _
  · rename_i hne
    have hrefs : s.Refs [] none none :=
      { wf := h.refs.wf
        counted := h.refs.counted
        ready := fun j u hu hs _ => by
          by_cases hj : j = g
          · subst hj
            rw [ht] at hu
            cases hu
            exact Nat.pos_of_ne_zero hne
          · exact h.refs.ready j u hu hs fun hg => hj (Option.some.inj hg).symm
        filling := h.refs.filling
        listed := h.refs.listed
        frames := h.refs.frames }
    split
    · exact hrefs.modStory _ _
    · exact hrefs

theorem route (h : s.Routed g allCircuits) : (s.route g).Refs [] none none := by
  obtain ⟨t, ht, -⟩ := h.stands
  unfold State.route
  rw [ht]
  exact endRouting _ (disposition _ _ _ _ (indexStory t (modTake h fun _ => ⟨rfl, rfl, rfl⟩)))

end State.Routed

end Sys2Proof.Machine
end

section
/-! O56: every step keeps the reference law (R38). Beside it stands that only SENDING circuits have a take in flight: where
that fails, an order that stops a circuit would lose the reference of its flight. -/

namespace Sys2Proof.Machine

open Sys2Proof

/-! ### Only SENDING circuits have a take in flight -/

/-- A circuit outside SENDING has no take in flight. -/
def Circuit.FlightSends (c : Circuit) : Prop := c.state ≠ .sending → c.flight = none

namespace Circuit.FlightSends

variable {c d : Circuit}

theorem of_none (h : d.flight = none) : d.FlightSends := fun _ => h

theorem of_sameState (h : c.FlightSends) (hs : c.SameState d) : d.FlightSends := fun hne =>
  hs.2.1.trans (h (hs.1 ▸ hne))

theorem none_of (h : c.FlightSends) {x : CircuitState} (hs : c.state = x) (hx : x ≠ .sending) : c.flight = none :=
  h (hs ▸ hx)

theorem stoppedAtEnd (c : Circuit) : c.enterStoppedAtEnd.FlightSends :=
  of_none (Circuit.stopModeAtEnd_sameState c.clearForStop.applyStaged).2.1

theorem enterStopped (c : Circuit) : c.enterStopped.FlightSends :=
  of_none (Circuit.stopModeBetween_sameState c.clearForStop.applyStaged).2.1

theorem stop (h : c.FlightSends) : c.stop.FlightSends := by
  unfold Circuit.stop
  split
  case h_1 | h_2 => exact h
  all_goals exact enterStopped c

theorem lineMove (hm : c.LineMove d) (h : c.FlightSends) : d.FlightSends := by
  cases hm with
  | applyStaged | idleOutput | levelChange | hears => exact h
  | relatch =>
    unfold Circuit.relatchPacer
    split <;> exact h
  | rest => exact h.of_sameState c.stopModeAtEnd_sameState
  | restBroken => exact h
  | toReady _ hf => exact of_none hf
  | launch | sendOn => exact fun hne => absurd rfl hne
  | char f hf ch x =>
    intro hne
    rw [h hne] at hf
    cases hf
  | land | returned => exact of_none rfl
  | stoppedAtEnd => exact stoppedAtEnd c
  | brokenAtEnd => exact of_none rfl
  | abandoned _ hf =>
    unfold Circuit.endAbandoned
    split
    · exact stoppedAtEnd c
    · split
      · exact of_none rfl
      · exact of_none hf
  | identifying =>
    unfold Circuit.identifyingEnd
    split <;> exact h
  | intoService hs =>
    refine of_none ((Circuit.startPacer_sameState _).2.1.trans (h fun he => ?_))
    rw [he] at hs
    cases hs
  | stop => exact h.stop
  | stopAtEnd =>
    unfold Circuit.stopAtEnd
    split
    · exact fun hne => absurd ‹_› hne
    all_goals exact h.stop
  | broken =>
    unfold Circuit.broken
    split
    · exact h
    all_goals exact of_none (Circuit.levelBetween_sameState c.toBroken _).2.1

theorem writeMove (hm : c.WriteMove d) (h : c.FlightSends) : d.FlightSends := by
  cases hm with
  | stage | profile => exact h
  | showStopMode =>
    unfold Circuit.showStopMode
    split
    · split
      · split <;> exact h
      · exact h.of_sameState c.startPacer_sameState
    · exact h

theorem queueMove (hm : c.QueueMove d) (h : c.FlightSends) : d.FlightSends := fun hne =>
  hm.flight_none_iff.2 (h (hm.state_eq ▸ hne))

end Circuit.FlightSends

/-- Only SENDING circuits have a take in flight. -/
abbrev State.Sends : State → Prop := State.EachCircuit fun _ c => c.FlightSends

theorem updateKeeps_sends : UpdateKeeps State.Sends :=
  updateKeeps_eachCircuit Circuit.FlightSends.queueMove Circuit.FlightSends.lineMove Circuit.FlightSends.writeMove
    (fun h => h) (fun _ h => h) (fun h => h) (fun _ => .of_none rfl) (fun _ => .of_none rfl)

/-! ### Moves of a circuit that keep its entries -/

/-- The queue, and the entry in flight. -/
def Circuit.SameEntries (c d : Circuit) : Prop :=
  d.queue = c.queue ∧ d.flight.map (·.entry) = c.flight.map (·.entry)

namespace Circuit.SameEntries

variable (c : Circuit) {d : Circuit}

theorem of_flight (hq : c.SameQueue d) (hf : d.flight = c.flight) : c.SameEntries d := ⟨hq.1, by rw [hf]⟩

theorem intoService : c.SameEntries c.intoService :=
  of_flight c (Circuit.SameQueue.trans ⟨rfl, rfl⟩ (startPacer_sameQueue _)) (Circuit.startPacer_sameState _).2.1

theorem start : c.SameEntries c.start := by
  unfold Circuit.start
  split
  case h_1 | h_2 => exact intoService c
  all_goals exact ⟨rfl, rfl⟩

variable {c}

theorem stop (h : c.FlightSends) : c.SameEntries c.stop := by
  have hstopped {x : CircuitState} (hs : c.state = x) (hx : x ≠ .sending) : c.SameEntries c.enterStopped :=
    of_flight c (c.clearForStop_sameQueue.trans (stopModeBetween_sameQueue _))
      ((Circuit.stopModeBetween_sameState c.clearForStop.applyStaged).2.1.trans (h.none_of hs hx).symm)
  unfold Circuit.stop
  split
  case h_1 | h_2 => exact ⟨rfl, rfl⟩
  all_goals exact hstopped ‹_› (by decide)

theorem stopAtEnd (h : c.FlightSends) : c.SameEntries c.stopAtEnd := by
  unfold Circuit.stopAtEnd
  split
  · exact ⟨rfl, by cases hf : c.flight <;> rfl⟩
  all_goals exact stop h

theorem broken (h : c.FlightSends) : c.SameEntries c.broken := by
  have hbroken {x : CircuitState} (hs : c.state = x) (hx : x ≠ .sending) : c.SameEntries c.enterBroken :=
    of_flight c c.enterBroken_sameQueue
      ((Circuit.levelBetween_sameState c.toBroken _).2.1.trans (h.none_of hs hx).symm)
  unfold Circuit.broken
  split
  · exact ⟨rfl, rfl⟩
  all_goals exact hbroken ‹_› (by decide)

theorem writeMove (hm : c.WriteMove d) : c.SameEntries d := by
  refine of_flight c hm.sameQueue ?_
  cases hm with
  | stage | profile => rfl
  | showStopMode =>
    unfold Circuit.showStopMode
    split
    · split
      · split <;> rfl
      · exact c.startPacer_sameState.2.1
    · rfl

theorem answerMove (hm : c.AnswerMove d) : c.SameEntries d := by
  refine of_flight c hm.sameQueue ?_
  cases hm with
  | identified => rfl
  | faulted =>
    exact (Circuit.stopModeBetween_sameState
      ({ c with state := .faulted, window := none, receiving := none, spacing := none } : Circuit)).2.1

theorem enterStoppedAtEnd (hf : c.flight = none) : c.SameEntries c.enterStoppedAtEnd :=
  of_flight c c.enterStoppedAtEnd_sameQueue
    ((Circuit.stopModeAtEnd_sameState c.clearForStop.applyStaged).2.1.trans hf.symm)

theorem endAbandoned (hf : c.flight = none) : c.SameEntries c.endAbandoned := by
  unfold Circuit.endAbandoned
  split
  · exact enterStoppedAtEnd hf
  · split
    · exact of_flight c ⟨rfl, rfl⟩ hf.symm
    · exact of_flight c ⟨rfl, rfl⟩ rfl

theorem identifyingEnd (c : Circuit) : c.SameEntries c.identifyingEnd := by
  unfold Circuit.identifyingEnd
  split <;> exact ⟨rfl, rfl⟩

theorem relatch (c : Circuit) : c.SameEntries c.relatchPacer := by
  unfold Circuit.relatchPacer
  split <;> exact ⟨rfl, rfl⟩

end Circuit.SameEntries

namespace State.Refs

variable {es : List Entry} {x : Option Nat} {y : Option LinkId} {s : State} {i : CircuitId}

theorem entries {c : Circuit} (h : s.Refs es x y) (hc : (s.circuit i).SameEntries c) : (s.setCircuit i c).Refs es x y :=
  h.setCircuit_same hc.1 hc.2

/-! ### Takes accepted, discarded and opened (R32, R35, R36) -/

/-- The frame's record, once its link has left the frame: FILLING, without references, and no other frame's. -/
theorem frame_record {l : LinkId} {g : Nat} (h : s.Refs [] none none) (hx : (s.link l).rx.handle? = some g) :
    ∃ t, s.take? g = some t ∧ t.refs = 0 ∧ s.refsTo g = 0 ∧
      ∀ m, (((s.setRx l .idle)).link m).rx.handle? ≠ some g := by
  obtain ⟨t, ht, hf, hl⟩ := h.frames l (by simp) g hx
  have hzero := h.filling g t ht hf
  have hcount := h.counted g t ht
  refine ⟨t, ht, hzero, by simpa [hzero] using hcount.symm, fun m hm => ?_⟩
  rw [State.setRx, modLink_link] at hm
  split at hm
  · cases hm
  · rename_i hne
    obtain ⟨u, hu, -, hm'⟩ := h.frames m (by simp) g hm
    rw [ht] at hu
    cases hu
    exact hne (hm'.symm.trans hl)

theorem leaveFrame (l : LinkId) (h : s.Refs es x y) : (s.setRx l .idle).Refs es x y :=
  h.setLink fun _ hg => by cases hg

theorem trackSerial {is : List CircuitId} {g : Nat} (h : s.Routed g is) (l : LinkId) (serial : Nat) :
    (s.trackSerial l serial).Routed g is := by
  have hfault {u : State} (hu : u.Routed g is) {code : FaultCode}
      (hc : ∀ src : Fin 26, code.belongs src = decide (src.val < 8)) : (u.recordFault (linkSource l) code).Routed g is :=
    ⟨hu.refs.linkFault l hc, hu.stands.of_takes (by simp), fun i hi e he => hu.clear i hi e (by simpa using he)⟩
  have htest : (s.testSerial l serial).Routed g is := by
    unfold State.testSerial
    split
    · exact h
    · split
      · exact h
      · split
        · exact (hfault h fun _ => rfl).countLink _ _ _
        · exact hfault h fun _ => rfl
  exact ⟨htest.refs.modLink fun _ => rfl, htest.stands.of_takes rfl, htest.clear⟩

theorem accept {l : LinkId} {g : Nat} (h : s.Refs [] none none) (hx : (s.link l).rx.handle? = some g) :
    ((s.setRx l .idle).accept l g).Refs [] none none := by
  obtain ⟨t, ht, hzero, hrefs, hno⟩ := h.frame_record hx
  have hidle : (s.setRx l .idle).Refs [] none none := h.leaveFrame l
  have htaken : (s.setRx l .idle).take? g = some t := ht
  have hstamped : ((s.setRx l .idle).stampReady g).Routed g allCircuits := by
    unfold State.stampReady State.modTake
    rw [htaken]
    refine ⟨hidle.putTake_owed htaken ?_ (fun _ hne => absurd rfl hne) (fun _ => rfl) (fun m _ hm => absurd hm (hno m))
      (fun _ _ => rfl) (fun _ _ _ => by simp), ⟨_, take?_putTake_self .., rfl⟩, fun i _ e he hg => ?_⟩
    · simp [hrefs]
    · have hpos := (s.refsTo_pos_iff g).2 ⟨i, by
        rw [Circuit.mem_handles_iff, Circuit.refsTo_eq]
        exact Nat.add_pos_left (refsIn_pos.2 ⟨e, he, hg⟩) _⟩
      omega
  unfold State.accept
  rw [htaken]
  exact ((trackSerial hstamped l _).countLink _ _ _).route

theorem discard {l : LinkId} {g : Nat} (h : s.Refs [] none none) (hx : (s.link l).rx.handle? = some g) :
    ((s.setRx l .idle).discard l g).Refs [] none none := by
  obtain ⟨t, ht, -, hrefs, hno⟩ := h.frame_record hx
  exact ((h.leaveFrame l).withdraw l).freeTake (fs := []) (by simp [hrefs]) (fun _ _ => rfl) (fun _ _ => id) ⟨t, ht⟩
    fun m _ => hno m

/-- The frame of a link dropped with its record; the link itself leaves the frame after it (R23). -/
theorem resetLink (l : LinkId) (h : s.Refs [] none none) : (s.resetLink l).Refs [] none none := by
  have hdropped : (s.dropFrame l).Refs [] none (some l) := by
    have hwithdrawn : (s.withdraw l).Refs [] none (some l) :=
      { h.withdraw l with frames := fun m _ => (h.withdraw l).frames m (by simp) }
    have hfree {g : Nat} (hx : (s.link l).rx.handle? = some g) : (s.discard l g).Refs [] none (some l) := by
      obtain ⟨t, ht, -, hrefs, hno⟩ := h.frame_record hx
      refine hwithdrawn.freeTake (fs := []) (by simp [hrefs]) (fun _ _ => rfl) (fun _ _ => id) ⟨t, ht⟩ fun m hm hg => hno m ?_
      rw [State.setRx, modLink_link, if_neg fun hml => hm (congrArg some hml.symm)]
      exact hg
    unfold State.dropFrame
    split
    case h_1 hx | h_2 hx => exact hfree (by rw [hx]; rfl)
    all_goals exact hwithdrawn
  unfold State.resetLink
  dsimp only
  rw [State.modLink_refreshHold]
  have hsame := hdropped
  refine { hsame with frames := fun m _ g hg => ?_ }
  rw [setLink_link] at hg
  split at hg
  · rw [Link.refreshHold_holdOnly] at hg
    dsimp only at hg
    split at hg <;> cases hg
  · rename_i hm
    exact hdropped.frames m (fun he => hm (Option.some.inj he).symm) g hg

theorem openTake {l : LinkId} {t : Take} (hlt : Takes.lowestFree s.store.takes 0 < Config.takeRecords) (ht : t.Opened l)
    (h : s.Refs [] none none) :
    ((s.putTake (Takes.lowestFree s.store.takes 0) t).setRx l (.text (Takes.lowestFree s.store.takes 0) false)).Refs []
      none none := by
  obtain ⟨hstate, hlink, -, hrefs⟩ := ht
  let n := Takes.lowestFree s.store.takes 0
  have hnone : s.take? n = none := Takes.get_lowestFree_wf h.wf
  have hother : ∀ {j}, j ≠ n → (s.putTake n t).take? j = s.take? j := fun hj => take?_putTake_other s t hj
  have hback : ∀ {j u}, (s.putTake n t).take? j = some u → (j = n ∧ u = t) ∨ (j ≠ n ∧ s.take? j = some u) := by
    intro j u hu
    by_cases hj : j = n
    · subst hj
      rw [take?_putTake_self] at hu
      cases hu
      exact .inl ⟨rfl, rfl⟩
    · exact .inr ⟨hj, hother hj ▸ hu⟩
  have hunnamed : s.refsTo n = 0 := by
    refine Nat.eq_zero_of_not_pos fun hpos => ?_
    obtain ⟨u, hu⟩ := h.listed n (Nat.add_pos_left hpos _)
    rw [hnone] at hu
    cases hu
  have hlisted : ∀ {j u}, s.take? j = some u → (s.putTake n t).take? j = some u := fun {j u} hu => by
    by_cases hj : j = n
    · subst hj
      rw [hnone] at hu
      cases hu
    · rw [hother hj, hu]
  exact
    { wf := Takes.wf_put t h.wf hlt
      counted := fun j u hu => by
        rcases hback hu with ⟨rfl, rfl⟩ | ⟨-, hu⟩
        · simp [hrefs, hunnamed]
        · simpa using h.counted j u hu
      ready := fun j u hu hr hx => by
        rcases hback hu with ⟨rfl, rfl⟩ | ⟨-, hu⟩
        · rw [hstate] at hr
          cases hr
        · exact h.ready j u hu hr hx
      filling := fun j u hu hf => by
        rcases hback hu with ⟨rfl, rfl⟩ | ⟨-, hu⟩
        · exact hrefs
        · exact h.filling j u hu hf
      listed := fun j hj => by
        obtain ⟨u, hu⟩ := h.listed j (by simpa using hj)
        exact ⟨u, hlisted hu⟩
      frames := fun m _ j hj => by
        rw [State.setRx, modLink_link] at hj
        split at hj
        · rename_i hm
          cases hj
          exact ⟨t, take?_putTake_self .., hstate, hlink.trans hm.symm⟩
        · obtain ⟨u, hu, hrest⟩ := h.frames m (by simp) j hj
          exact ⟨u, hlisted hu, hrest⟩ }

end State.Refs

end Sys2Proof.Machine
end

section
/-! O56, concluded: character-time ends and answer-backs under the reference law, and the law under every step. -/

namespace Sys2Proof.Machine

open Sys2Proof

/-! ### Takes that leave the line -/

theorem Link.refreshHold_rx (low : Bool) (k : Link) : (k.refreshHold low).rx = k.rx := by
  rw [k.refreshHold_holdOnly]

theorem State.endFlight_flight (s : State) (i : CircuitId) (f : Flight) :
    ((s.endFlight i f).circuit i).flight = none := by
  have hdropped : ((s.modCircuit i fun c => { c with flight := none }).dropRef f.entry.handle).circuit i =
      { s.circuit i with flight := none } := by
    unfold circuit
    rw [dropRef_circuits]
    exact modCircuit_circuit_self s i _
  simp [endFlight, countCircuit, Circuit.count, hdropped]

theorem State.takeEnd_flight (s : State) (i : CircuitId) (f : Flight) : ((s.takeEnd i f).circuit i).flight = none := by
  simp only [takeEnd, countCircuit, modCircuit_circuit, if_true, Circuit.applyStaged, Circuit.count]
  exact s.endFlight_flight i f

theorem State.returnTake_flight (s : State) (i : CircuitId) (f : Flight) (p : ReadPos) :
    ((s.returnTake i f p).circuit i).flight = none := by
  unfold returnTake
  split <;> simp [countCircuit, Circuit.count]

theorem State.settleTake_flight (s : State) (i : CircuitId) (f : Flight) :
    ((s.settleTake i f).circuit i).flight = none := by
  unfold settleTake
  split
  · exact s.takeEnd_flight i f
  · split
    · exact s.endFlight_flight i f
    · exact s.returnTake_flight i f _

namespace State.Refs

variable {x : Option Nat} {y : Option LinkId} {s : State} {i : CircuitId}

/-- The flight landed, its reference is owed. -/
theorem land {f : Flight} (hf : (s.circuit i).flight = some f) (h : s.Refs [] x y) :
    (s.modCircuit i fun c => { c with flight := none }).Refs [f.entry] x y := by
  refine h.setCircuit fun g => ?_
  simp only [Circuit.refsTo_eq, Circuit.flightRef, hf, refsIn_cons, refsIn_nil, Option.map_some, Option.map_none,
    Option.some.injEq, reduceCtorEq, if_false]
  omega

theorem endFlight {f : Flight} (hf : (s.circuit i).flight = some f) (h : s.Refs [] x y) :
    (s.endFlight i f).Refs [] x y :=
  (h.land hf).dropRef.countCircuit _ _ _

theorem takeEnd {f : Flight} (hf : (s.circuit i).flight = some f) (h : s.Refs [] x y) : (s.takeEnd i f).Refs [] x y :=
  ((h.endFlight hf).countCircuit i .takesSent 1).entries ⟨rfl, rfl⟩

theorem returnTake {f : Flight} (hf : (s.circuit i).flight = some f) (p : ReadPos) (h : s.Refs [] x y) :
    (s.returnTake i f p).Refs [] x y := by
  have hnamed : 0 < s.refsTo f.entry.handle + refsIn [] f.entry.handle :=
    Nat.add_pos_left ((s.refsTo_pos_iff _).2 ⟨i, by simp [Circuit.handles, hf]⟩) _
  obtain ⟨t, ht⟩ := h.listed _ hnamed
  unfold State.returnTake
  rw [ht]
  refine countCircuit (h.setCircuit fun g => ?_) _ _ _
  have hq := refsIn_placeResumed (s.circuit i).queue
    { f.entry with resume := some p, estimate := estimate (s.circuit i).active.form (t.length - p.pos) } g
  simp only [Circuit.refsTo_eq, Circuit.flightRef, hf, refsIn_nil, Option.map_some, Option.map_none, Option.some.injEq,
    reduceCtorEq, if_false] at hq ⊢
  omega

theorem settleTake {f : Flight} (hf : (s.circuit i).flight = some f) (h : s.Refs [] x y) :
    (s.settleTake i f).Refs [] x y := by
  unfold State.settleTake
  split
  · exact h.takeEnd hf
  · split
    · exact h.endFlight hf
    · exact h.returnTake hf _

/-! ### Head selection and characters -/

theorem dropStale (i : CircuitId) (n : Nat) (h : s.Refs [] x y) : (dropStale n s i).Refs [] x y := by
  induction n generalizing s with
  | zero => exact h
  | succ n ih =>
    unfold Machine.dropStale
    split
    · exact h
    · split
      · exact ih ((h.removeAt i 0).countCircuit i _ _)
      · exact h

theorem putChar {f : Flight} (hf : (s.circuit i).flight = some f) (ch : FiveUnit) (c : Context) (u : Nat) (start : Bool)
    (h : s.Refs [] x y) : (s.putChar i f ch c u start).Refs [] x y := by
  have hchar : ((s.modCircuit i fun d => { d with slot := .char ch, flight := some { f with ctx := c } }).countCircuit i
      .unprintable u).Refs [] x y :=
    countCircuit (h.entries (c := { s.circuit i with slot := .char ch, flight := some { f with ctx := c } })
      ⟨rfl, by simp [hf]⟩) _ _ _
  unfold State.putChar
  dsimp only
  split
  · unfold State.reportHeaderStart
    split
    · exact hchar
    · split
      · exact hchar
      · exact hchar.modStory _ _
  · exact hchar

theorem emitFirst (i : CircuitId) (h : s.Refs [] x y) : (s.emitFirst i).Refs [] x y := by
  unfold State.emitFirst
  split
  · exact h
  · rename_i f hf
    split
    · exact h.putChar hf _ _ _ _
    · exact h
    · exact h

theorem sendOrIdle (i : CircuitId) (h : s.Refs [] x y) : (s.sendOrIdle i).Refs [] x y := by
  unfold State.sendOrIdle
  split
  · exact emitFirst i (h.entries ⟨rfl, rfl⟩)
  · exact h.entries ⟨rfl, rfl⟩

theorem intoFlight (lead stopPending : Bool) (hf : (s.circuit i).flight = none) (h : s.Refs [] x y) :
    (s.intoFlight i lead stopPending).Refs [] x y := by
  rcases s.intoFlight_cases i lead stopPending with he | ⟨e, rest, t, hq, -, he⟩ <;> rw [he]
  · exact h
  · refine h.setCircuit fun g => ?_
    simp only [Circuit.refsTo_eq, Circuit.flightRef, hf, hq, refsIn_cons, refsIn_nil, Option.map_some, Option.map_none,
      Option.some.injEq, reduceCtorEq, if_false]

theorem headSelect_sendOrIdle (lead stopPending : Bool) (hf : (s.circuit i).flight = none) (h : s.Refs [] x y) :
    ((s.headSelect i lead stopPending).sendOrIdle i).Refs [] x y := by
  have hsame : s.SameFlight i (Machine.dropStale (s.circuit i).queue.length s i) :=
    dropStale_keeps (routingKeeps_sameFlight s i) i _ ⟨rfl, Iff.rfl⟩
  exact sendOrIdle i (intoFlight lead stopPending (hsame.2.2 hf) (h.dropStale i _))

/-! ### A character-time end -/

theorem sendingEnd {f : Flight} (hf : (s.circuit i).flight = some f) (h : s.Refs [] x y) :
    (s.sendingEnd i f).Refs [] x y := by
  have hsettled := s.settleTake_flight i f
  unfold State.sendingEnd
  split
  · exact (h.settleTake hf).entries (Circuit.SameEntries.enterStoppedAtEnd hsettled)
  · split
    · exact (h.settleTake hf).entries ⟨rfl, by rw [hsettled]; rfl⟩
    · split
      · exact h.putChar hf _ _ _ _
      · split
        · exact (h.takeEnd hf).entries (Circuit.SameEntries.enterStoppedAtEnd (s.takeEnd_flight i f))
        · exact headSelect_sendOrIdle _ _ (s.takeEnd_flight i f) (h.takeEnd hf)
      · refine headSelect_sendOrIdle _ _ ?_ ((h.returnTake hf _).countCircuit i _ _)
        rw [State.countCircuit, modCircuit_circuit_self]
        exact s.returnTake_flight i f _

theorem characterEnd (i : CircuitId) (hsends : (s.circuit i).FlightSends) (h : s.Refs [] x y) :
    (s.characterEnd i).Refs [] x y := by
  unfold State.characterEnd
  split
  case h_1 | h_2 =>
    exact h.entries (.of_flight _ (s.circuit i).stopModeAtEnd_sameQueue (s.circuit i).stopModeAtEnd_sameState.2.1)
  case h_3 => exact h.entries ⟨rfl, rfl⟩
  case h_4 => exact h.entries (.identifyingEnd _)
  case h_5 hs =>
    split
    · exact h.entries ⟨rfl, rfl⟩
    · exact h.headSelect_sendOrIdle _ _ (hsends.none_of hs (by decide))
  case h_6 =>
    split
    · exact h.sendingEnd ‹_›
    · exact h.entries (.endAbandoned ‹_›)

theorem characterTimeEnd (i : CircuitId) (hsends : (s.circuit i).FlightSends) (h : s.Refs [] x y) :
    (s.characterTimeEnd i).Refs [] x y := by
  unfold State.characterTimeEnd
  split
  · exact (h.characterEnd i hsends).entries (.relatch _)
  · exact h

/-! ### Orders, return line and answer-back -/

theorem circuitFault {code : FaultCode} (i : CircuitId) (h : s.Refs [] x y)
    (hc : ∀ src : Fin 26, code.belongs src = decide (8 ≤ src.val ∧ src.val < 24) := by intro; rfl) :
    (s.recordFault (circuitSource i) code).Refs [] x y :=
  (faultKeeps_refs [] x y).recordFault (FaultCode.belongs_circuitSource i hc) h

theorem detectIfDue (i : CircuitId) (hsends : (s.circuit i).FlightSends) (h : s.Refs [] x y) :
    (s.detectIfDue i).Refs [] x y := by
  unfold State.detectIfDue
  split
  · refine ((h.circuitFault i).countCircuit i .receiverBreaks 1).entries (.broken ?_)
    rw [State.countCircuit, modCircuit_circuit_self, recordFault_circuit]
    exact hsends
  · exact h

theorem restoreIfDue (i : CircuitId) (h : s.Refs [] x y) : (s.restoreIfDue i).Refs [] x y := by
  unfold State.restoreIfDue
  split
  · exact h.entries (.intoService _)
  · exact h

theorem faultedWith {code : FaultCode} (i : CircuitId) (hw : (s.circuit i).window ≠ none) (h : s.Refs [] x y)
    (hc : ∀ src : Fin 26, code.belongs src = decide (8 ≤ src.val ∧ src.val < 24) := by intro; rfl) :
    ((s.recordFault (circuitSource i) code).modCircuit i (·.enterFaulted)).Refs [] x y :=
  (h.circuitFault i hc).entries (.answerMove (.faulted (by simpa using hw)))

theorem answerback {w : Window} (code : Code5) (hw : (s.circuit i).window = some w) (h : s.Refs [] x y) :
    (s.answerback i w code).Refs [] x y := by
  have heard (rcv : Option Reception) (cs : ShiftCase) (buf : List RxChar) :
      (s.setCircuit i { s.circuit i with receiving := rcv, tracked := cs, buffer := buf }).Refs [] x y :=
    h.entries ⟨rfl, rfl⟩
  unfold State.answerback
  dsimp only
  split
  · rename_i c _
    have hmerged : ((s.modCircuit i fun c => { c with receiving := none }).modCircuit i fun d =>
        { d with tracked := c }) = s.setCircuit i { s.circuit i with receiving := none, tracked := c } := by
      simp [State.modCircuit]
    rw [hmerged]
    exact heard none c _
  · exact heard none _ _
  · rename_i ch _
    have hmerged : ((s.modCircuit i fun c => { c with receiving := none }).modCircuit i fun c =>
        { c with buffer := c.buffer ++ [ch] }) = s.setCircuit i
          { s.circuit i with receiving := none, buffer := (s.circuit i).buffer ++ [ch] } := by
      simp [State.modCircuit]
    rw [hmerged]
    split
    · split
      · exact (heard none _ _).entries (.answerMove (.identified (by simp [hw])))
      · exact (heard none _ _).faultedWith i (by simp [hw])
    · exact heard none _ _

theorem answerbackCharacter (i : CircuitId) (code : Code5) (h : s.Refs [] x y) :
    (s.answerbackCharacter i code).Refs [] x y := by
  unfold State.answerbackCharacter
  split
  · split
    · exact h.answerback code ‹_›
    · exact h
  · exact h

theorem noAnswerback (i : CircuitId) (h : s.Refs [] x y) : (s.noAnswerback i).Refs [] x y := by
  unfold State.noAnswerback
  split
  · rename_i hexpired
    refine h.faultedWith i fun hw => ?_
    simp [Circuit.windowExpired, hw] at hexpired
  · exact h

/-! ### What time, reset, arrival and the writes leave -/

/-- Nothing is listed and nothing is named. -/
theorem of_empty (htakes : s.store.takes = []) (hcircuits : ∀ i g, (s.circuit i).refsTo g = 0)
    (hlinks : ∀ l, (s.link l).rx.handle? = none) : s.Refs [] none none := by
  have hnone (g : Nat) : s.take? g = none := by simp [take?, htakes, Takes.get]
  have hzero (g : Nat) : s.refsTo g = 0 := by simp [refsTo_eq_sum, hcircuits]
  exact
    { wf := by simp [htakes, Takes.wf]
      counted := fun g t ht => by simp [hnone] at ht
      ready := fun g t ht => by simp [hnone] at ht
      filling := fun g t ht => by simp [hnone] at ht
      listed := fun g hg => by simp [hzero] at hg
      frames := fun l _ g hg => by simp [hlinks] at hg }

theorem hardwareReset (straps : BitVec 6) : (s.hardwareReset straps).Refs [] none none := by
  refine of_empty rfl (fun i g => ?_) fun l => ?_
  · have hi : (s.hardwareReset straps).circuit i = Circuit.reset (s.circuit i).returnMark := by
      simp [State.hardwareReset, State.circuit]
    rw [hi]
    rfl
  · fin_cases l <;> rfl

theorem copyRestart : s.copyRestart.Refs [] none none := by
  refine of_empty rfl (fun i g => ?_) fun l => ?_
  · rw [s.copyRestart_circuit]
    rfl
  · rw [s.copyRestart_link]
    simp only [Link.copyRestart, Link.refreshHold_rx]
    split <;> rfl

theorem assertReset (h : s.Refs es x y) : s.assertReset.Refs es x y := by
  refine h.of_same rfl (fun i g => ?_) fun l g hg => ?_
  · have hi : s.assertReset.circuit i = (s.circuit i).cutLine := by simp [State.assertReset, State.circuit]
    rw [hi]
    rfl
  · have hl : s.assertReset.link l = { s.link l with sendRate := none } := by simp [State.assertReset, State.link]
    rwa [hl] at hg

theorem tick (h : s.Refs es x y) : s.tick.Refs es x y := by
  refine h.of_same rfl (fun i g => ?_) fun l g hg => ?_
  · have hi : s.tick.circuit i = (s.circuit i).tick := by simp [State.tick, State.circuit]
    rw [hi]
    rfl
  · have hl : s.tick.link l = (s.link l).tick := by simp [State.tick, State.link]
    rwa [hl] at hg

theorem hears {l : LinkId} {k : Link} (h : s.Refs es x y) (hk : k.rx = (s.link l).rx) : (s.setLink l k).Refs es x y :=
  h.setLink fun _ hg => hk ▸ hg

theorem askSegment (l : LinkId) (p : Priority) (h : s.Refs es x y) : (s.askSegment l p).Refs es x y :=
  h.of_same rfl (fun _ _ => rfl) fun _ _ hg => hg

theorem mark {f : Take → Take} (g : Nat) (hf : ∀ t : Take, t.Marks (f t)) (h : s.Refs es x y) :
    (s.modTake g f).Refs es x y :=
  h.modTake fun t => by
    rw [hf t]
    exact ⟨rfl, rfl, rfl⟩

theorem switch {l : LinkId} {k : Link} (hk : (s.link l).Switched k) (h : s.Refs es x y) :
    (s.setLink l (k.refreshHold s.store.low)).Refs es x y := by
  refine h.setLink fun g hg => ?_
  rw [Link.refreshHold_rx] at hg
  rcases hk.2 with ⟨hrx, -⟩ | ⟨-, hnone⟩
  · rwa [hrx] at hg
  · rw [hnone] at hg
    cases hg

theorem appended {g : Nat} {t : Take} (b : Byte) (ht : s.take? g = some t) (h : s.Refs es x y) :
    (s.putTake g (t.append b)).Refs es x y := by
  refine h.putTake ht ?_
  exact ⟨rfl, rfl, rfl⟩

end State.Refs

/-! ### The law under every step -/

/-- The reference law, with the takes in flight that it needs: only SENDING circuits have one. -/
def State.Counts (s : State) : Prop := s.Refs [] none none ∧ s.Sends

theorem State.Refs.parse {l : LinkId} : ParseKeeps l fun s => s.Refs [] none none where
  toFaultKeeps := faultKeeps_refs [] none none
  linkCounters _ h := h.modLink fun _ => rfl
  parse hk h := h.setLink hk.2.2
  openTake _ hlt ht h := h.openTake hlt ht
  mark g _ hf h := h.mark g hf
  append b ht _ h := h.appended b ht
  grant g b _ h := h.grantSegment g b
  accept hx h := h.accept hx
  discard hx h := h.discard hx
  withdraw h := h.withdraw l

theorem ParseKeeps.and {l : LinkId} {P Q : State → Prop} (hP : ParseKeeps l P) (hQ : ParseKeeps l Q) :
    ParseKeeps l fun s => P s ∧ Q s where
  number n h := ⟨hP.number n h.1, hQ.number n h.2⟩
  setFault hb h := ⟨hP.setFault hb h.1, hQ.setFault hb h.2⟩
  push b hl h := ⟨hP.push b hl h.1, hQ.push b hl h.2⟩
  linkCounters n h := ⟨hP.linkCounters n h.1, hQ.linkCounters n h.2⟩
  parse hk h := ⟨hP.parse hk h.1, hQ.parse hk h.2⟩
  openTake hl hlt ht h := ⟨hP.openTake hl hlt ht h.1, hQ.openTake hl hlt ht h.2⟩
  mark g _ hf h := ⟨hP.mark g hf h.1, hQ.mark g hf h.2⟩
  append b ht hr h := ⟨hP.append b ht hr h.1, hQ.append b ht hr h.2⟩
  grant g b hfree h := ⟨hP.grant g b hfree h.1, hQ.grant g b hfree h.2⟩
  accept hx h := ⟨hP.accept hx h.1, hQ.accept hx h.2⟩
  discard hx h := ⟨hP.discard hx h.1, hQ.discard hx h.2⟩
  withdraw h := ⟨hP.withdraw h.1, hQ.withdraw h.2⟩

theorem hearingKeeps_counts : HearingKeeps State.Counts where
  parse l := State.Refs.parse.and (updateKeeps_sends.parse l)
  hears hk hrx h := ⟨h.1.hears hrx, updateKeeps_sends.hears hk h.2⟩
  ask l p hp h := ⟨h.1.askSegment l p, updateKeeps_sends.ask l hp h.2⟩
  serve hw h := ⟨h.1.grantWaiting _, updateKeeps_sends.grantWaiting hw h.2⟩

theorem commandKeeps_counts : CommandKeeps State.Counts :=
  let sends := updateKeeps_sends.commands
  { number := fun n h => ⟨(faultKeeps_refs _ _ _).number n h.1, sends.number n h.2⟩
    setFault := fun hb h => ⟨(faultKeeps_refs _ _ _).setFault hb h.1, sends.setFault hb h.2⟩
    push := fun b hl h => ⟨(faultKeeps_refs _ _ _).push b hl h.1, sends.push b hl h.2⟩
    linkCounters := fun l n h => ⟨h.1.modLink fun _ => rfl, sends.linkCounters l n h.2⟩
    counters := fun i n h => ⟨h.1.entries ⟨rfl, rfl⟩, sends.counters i n h.2⟩
    start := fun i h => ⟨h.1.entries (.start _), sends.start i h.2⟩
    stop := fun i h => ⟨h.1.entries (.stop (h.2 i)), sends.stop i h.2⟩
    stopAtEnd := fun i h => ⟨h.1.entries (.stopAtEnd (h.2 i)), sends.stopAtEnd i h.2⟩
    detectIfDue := fun i h => ⟨h.1.detectIfDue i (h.2 i), sends.detectIfDue i h.2⟩
    restoreIfDue := fun i h => ⟨h.1.restoreIfDue i, sends.restoreIfDue i h.2⟩
    flush := fun i h => ⟨h.1.flush i, sends.flush i h.2⟩
    spikeAll := fun gs h => ⟨h.1.spikeAll gs, sends.spikeAll gs h.2⟩
    clock := fun c hc h => ⟨h.1.of_same rfl (fun _ _ => rfl) fun _ _ => id, sends.clock c hc h.2⟩
    service := fun rs x m n hle h => ⟨h.1.of_same rfl (fun _ _ => rfl) fun _ _ => id, sends.service rs x m n hle h.2⟩
    watchList := fun ps hle h => ⟨h.1.of_same rfl (fun _ _ => rfl) fun _ _ => id, sends.watchList ps hle h.2⟩
    watchTimer := fun x h => ⟨h.1.of_same rfl (fun _ _ => rfl) fun _ _ => id, sends.watchTimer x h.2⟩
    clearFaults := fun h => ⟨h.1.of_same rfl (fun _ _ => rfl) fun _ _ => id, sends.clearFaults h.2⟩
    reserveGrants := fun n h => ⟨h.1.of_same rfl (fun _ _ => rfl) fun _ _ => id, sends.reserveGrants n h.2⟩
    restart := fun h => ⟨.copyRestart, sends.restart h.2⟩
    settings := fun g hg h => ⟨h.1.of_same rfl (fun _ _ => rfl) fun _ _ => id, sends.settings g hg h.2⟩
    route := fun n f hf h => ⟨h.1.of_same rfl (fun _ _ => rfl) fun _ _ => id, sends.route n f hf h.2⟩
    subst := fun n _ hm h => ⟨h.1.of_same rfl (fun _ _ => rfl) fun _ _ => id, sends.subst n hm h.2⟩
    setting := fun {s} r lo hi ho h =>
      ⟨State.Refs.storeWritten (s := { s with store := s.store.withSettings r lo hi })
        _ (h.1.of_same rfl (fun _ _ => rfl) fun _ _ => id), sends.setting r lo hi ho h.2⟩
    switch := fun hk h => ⟨h.1.switch hk, sends.switch hk h.2⟩
    linkProfile := fun l p hp hc h => ⟨h.1.modLink fun _ => rfl, sends.linkProfile l p hp hc h.2⟩
    holdCapable := fun {s} l b h =>
      ⟨(h.1.modLink (f := fun k => { k with profile := { k.profile with holdCapable := b } }) fun _ => rfl).modLink
        (f := (·.refreshHold s.store.low)) fun _ => Link.refreshHold_rx .., sends.holdCapable l b h.2⟩
    silence := fun l h => ⟨h.1.modLink fun _ => rfl, sends.silence l h.2⟩
    write := fun hw h => ⟨h.1.entries (.writeMove hw), sends.write hw h.2⟩
    hearing := hearingKeeps_counts
    resetLink := fun l h => ⟨h.1.resetLink l, sends.resetLink l h.2⟩
    pending := fun cs h => ⟨h.1.of_same rfl (fun _ _ => rfl) fun _ _ => id, sends.pending cs h.2⟩
    reset := fun straps h => ⟨.hardwareReset straps, sends.reset straps h.2⟩
    assert := fun h => ⟨h.1.assertReset, sends.assert h.2⟩
    pin := fun i h => ⟨h.1.entries ⟨rfl, rfl⟩, sends.pin i h.2⟩
    levelChange := fun i h => ⟨h.1.entries ⟨rfl, rfl⟩, sends.levelChange i h.2⟩
    tick := fun h => ⟨h.1.tick, sends.tick h.2⟩
    frameSent := fun l h =>
      ⟨h.1.modLink fun k => by unfold Link.frameSent; split <;> rfl, sends.frameSent l h.2⟩ }

/-- The law after a step. The answer-back alone can leave a state other than SENDING with the law but not its premise. -/
theorem State.Refs.step {s t : State} (he : step s = .next t) (h : s.Counts) : t.Refs [] none none := by
  unfold Machine.step at he
  split at he
  · cases he
    exact h.1
  · rename_i c rest _
    have hrest : State.Counts { s with pending := rest } := commandKeeps_counts.pending rest h
    by_cases hanswer : ∃ i code, c = .answerbackCharacter i code
    · obtain ⟨i, code, rfl⟩ := hanswer
      cases he
      exact CommandKeeps.live (hrest.1.answerbackCharacter i code) hrest.1
    · by_cases hexpiry : ∃ i, c = .noAnswerback i
      · obtain ⟨i, rfl⟩ := hexpiry
        cases he
        exact CommandKeeps.live (hrest.1.noAnswerback i) hrest.1
      · exact (commandKeeps_counts.exec he
          (fun i _ hs => ⟨hs.1.characterTimeEnd i (hs.2 i), updateKeeps_sends.characterTimeEnd i hs.2⟩)
          (fun i code hc => absurd ⟨i, code, hc⟩ hanswer) (fun i hc => absurd ⟨i, hc⟩ hexpiry) hrest).1

/-- Settles O56. -/
theorem stepsKeepReferences : Obligations.StepsKeepReferences := by
  intro s t he hwf hsends hframes hexact
  have hs : s.Refs [] none none := (State.refs_iff hwf).2 ⟨hframes, hexact⟩
  have ht := State.Refs.step he ⟨hs, hsends⟩
  exact (State.refs_iff ht.wf).1 ht

end Sys2Proof.Machine
end

section
/-! The step, reset, time and the encodings (O1 to O6). -/

namespace Sys2Proof.Machine

open Sys2Proof

/-! ### Steps -/

theorem step_of_pending {s : State} {c : Instr} {rest : List Instr} (h : s.pending = c :: rest) :
    step s = exec c { s with pending := rest } := by
  unfold step
  rw [h]

theorem step_of_idle {s : State} (h : s.pending = []) : step s = .next s := by
  unfold step
  rw [h]

/-- Settles O1. -/
theorem stepRunsFrontCommand : Obligations.StepRunsFrontCommand :=
  ⟨fun _ _ _ h => step_of_pending h, fun _ h => step_of_idle h⟩

/-! ### Reset (R2, R41, R116, R176, R186) -/

/-- Settles O2, law by law: all are finite facts about the one reset state. -/
theorem resetIsSound : Obligations.ResetIsSound := by
  refine ⟨?queues, ?backlogs, ?flights, ?windows, ?pacers, ?frames, ?refs, ?segments, ?low, ?holds, ?faults, ?capacities,
    ?stories, ?recents, ?settled, ?waits, ?profiles, ?links, ?settings, ?subst⟩
  case settings =>
    refine ⟨fun n => ?_, by decide⟩
    simp [State.reset, RouteEntry.reset]
  case subst => exact ⟨fun n => by simp [State.reset, SubstEntry.reset], fun m n _ hm => absurd (by simp [State.reset, SubstEntry.reset]) hm⟩
  all_goals decide

@[simp] theorem State.live_of_released {s : State} (h : s.resetHeld = false) (f : State → State) : s.live f = f s := by
  simp [live, h]

@[simp] theorem State.live_of_held {s : State} (h : s.resetHeld = true) (f : State → State) : s.live f = s := by
  simp [live, h]

@[simp] theorem State.hardwareReset_circuit (s : State) (straps : BitVec 6) (i : CircuitId) :
    (s.hardwareReset straps).circuit i = Circuit.reset (s.circuit i).returnMark := by
  simp [hardwareReset, circuit]

@[simp] theorem State.hardwareReset_link (s : State) (straps : BitVec 6) (l : LinkId) :
    (s.hardwareReset straps).link l = Link.reset l := by
  fin_cases l <;> rfl

theorem State.hardwareReset_ownCode (s : State) (straps : BitVec 6) :
    (s.hardwareReset straps).ownCode = if straps = 63 then 62 else straps.toNat := by
  have hown : (s.hardwareReset straps).ownCode = min 62 straps.toNat := rfl
  rw [hown]
  split
  · rename_i h
    rw [h]
    rfl
  · bv_omega

@[simp] theorem State.assertReset_circuit (s : State) (i : CircuitId) :
    s.assertReset.circuit i = (s.circuit i).cutLine := by
  simp [assertReset, circuit]

@[simp] theorem State.assertReset_link (s : State) (l : LinkId) :
    s.assertReset.link l = { s.link l with sendRate := none } := by
  simp [assertReset, link]

/-- While the reset input is asserted no command but these two has an effect. -/
theorem exec_of_resetHeld {s : State} (h : s.resetHeld = true) (c : Instr) (hreset : ∀ straps, c ≠ .hardwareReset straps)
    (hlevel : ∀ i, c ≠ .returnLineLevelChange i) : exec c s = .next s := by
  cases c
  case hardwareReset straps => exact absurd rfl (hreset straps)
  case returnLineLevelChange i => exact absurd rfl (hlevel i)
  all_goals exact congrArg Host.Outcome.next (State.live_of_held h _)

theorem State.returnLevelChange_of_held {s : State} (h : s.resetHeld = true) (i : CircuitId) :
    s.returnLevelChange i = s.setCircuit i { s.circuit i with returnMark := !(s.circuit i).returnMark } := by
  simp [returnLevelChange, h, modCircuit]

/-- Settles O3. -/
theorem resetInputAndRelease : Obligations.ResetInputAndRelease := by
  refine ⟨fun straps s => ⟨s.hardwareReset straps, rfl, ?_⟩, fun s h => ?_, fun c s h => exec_of_resetHeld h c,
    fun i s h => congrArg Host.Outcome.next (State.returnLevelChange_of_held h i)⟩
  · have hlink (l : LinkId) : (s.hardwareReset straps).link l = Link.reset l := s.hardwareReset_link straps l
    have hcircuit (i : CircuitId) := s.hardwareReset_circuit straps i
    refine ⟨s.hardwareReset_ownCode straps, rfl, rfl, rfl, rfl, rfl, fun l => ?_, ⟨rfl, rfl, rfl, rfl, rfl, rfl, rfl, rfl⟩, fun n => ?_, rfl, fun n => ?_,
      hcircuit, rfl, rfl, rfl, rfl, rfl, rfl, rfl, fun n => ?_, rfl⟩
    · rw [hlink]
      exact ⟨rfl, rfl, rfl, rfl, rfl, rfl, rfl, rfl, rfl, rfl, rfl, rfl, rfl, rfl⟩
    all_goals simp [State.hardwareReset, State.reset, RouteEntry.reset, SubstEntry.reset]
  · refine ⟨s.assertReset, congrArg Host.Outcome.next (State.live_of_released h _), rfl, s.assertReset_circuit, s.assertReset_link⟩

/-! ### Time (R141, R142, R146, R169) -/

@[simp] theorem State.tick_circuit (s : State) (i : CircuitId) : s.tick.circuit i = (s.circuit i).tick := by
  simp [tick, circuit]

@[simp] theorem State.tick_link (s : State) (l : LinkId) : s.tick.link l = (s.link l).tick := by
  simp [tick, link]

/-- Settles O4. -/
theorem tickCountsOnce : Obligations.TickCountsOnce := by
  refine ⟨fun s h => ⟨s.tick, congrArg Host.Outcome.next (State.live_of_released h _), ?ms, fun l => ?link, fun i => ?circuit,
    rfl⟩, by decide⟩
  case ms => exact BitVec.toNat_add s.ms 1
  case link =>
    rw [s.tick_link]
    have hcount : (if (s.link l).hold then (s.link l).holdTicks + 1 else (s.link l).holdTicks) =
        (s.link l).holdTicks + if (s.link l).hold then 1 else 0 := by split <;> rfl
    rw [Link.tick, hcount]
  case circuit =>
    rw [s.tick_circuit]
    unfold Circuit.tick
    cases hr : (s.circuit i).receiving <;> rfl

theorem DayClock.nextSecond_time (c : DayClock) (h : c.inRange) :
    c.nextSecond.hours * 3600 + c.nextSecond.minutes * 60 + c.nextSecond.seconds =
      (c.hours * 3600 + c.minutes * 60 + c.seconds + 1) % 86400 := by
  obtain ⟨hh, hm, hs⟩ := h
  unfold nextSecond
  split
  · dsimp only
    omega
  · split
    · dsimp only
      omega
    · split <;> dsimp only <;> omega

theorem limit_fst_zero (hi n : Nat) : (limit 0 hi n).1 = min hi n := Nat.zero_max _

theorem limit_snd_zero (hi n : Nat) : (limit 0 hi n).2 = decide (hi < n) := by
  simp only [limit, Nat.not_lt_zero, false_or]

/-- The byte of a value limited from above. -/
theorem num1_limit (hi : Nat) (b : Byte) :
    num1 (limit 0 hi b.toNat).1 = [if hi < b.toNat then BitVec.ofNat 8 hi else b] := by
  rw [limit_fst_zero, num1]
  split
  · rw [Nat.min_eq_left (by omega)]
  · rw [Nat.min_eq_right (by omega), BitVec.ofNat_toNat, BitVec.setWidth_eq]

/-- CLOCK SET as performed. -/
theorem State.perform_clockSet (s : State) (hh mm ss : Byte) : s.perform 0x0B [hh, mm, ss] =
    .answered .done (decide (23 < hh.toNat ∨ 59 < mm.toNat ∨ 59 < ss.toNat))
      [if 23 < hh.toNat then 23 else hh, if 59 < mm.toNat then 59 else mm, if 59 < ss.toNat then 59 else ss]
      { s with clock := { hours := min 23 hh.toNat, minutes := min 59 mm.toNat, seconds := min 59 ss.toNat, ticks := 0 } } := by
  have hflag : ((limit 0 23 hh.toNat).2 || (limit 0 59 mm.toNat).2 || (limit 0 59 ss.toNat).2) =
      decide (23 < hh.toNat ∨ 59 < mm.toNat ∨ 59 < ss.toNat) := by
    simp only [limit_snd_zero, Bool.decide_or, Bool.or_assoc]
  have hperform : s.perform 0x0B [hh, mm, ss] = s.clockSet hh.toNat mm.toNat ss.toNat := rfl
  rw [hperform, clockSet, hflag, num1_limit, num1_limit, num1_limit]
  simp only [limit_fst_zero]
  rfl

/-- Settles O5. -/
theorem dayClockCountsAndSets : Obligations.DayClockCountsAndSets := by
  refine ⟨⟨fun s h hticks hh hm hs => ?_, fun s h hticks => ?_⟩, fun s h hh mm ss hi => ?_⟩
  · have hrange := DayClock.nextSecond_inRange s.clock (n := s.clock.ticks - 1000) ⟨hh, hm, hs⟩
    refine ⟨{ s.clock.nextSecond with ticks := s.clock.ticks - 1000 },
      (congrArg Host.Outcome.next (State.live_of_released h _)).trans ?_, rfl, hrange.1, hrange.2.1, hrange.2.2,
      s.clock.nextSecond_time ⟨hh, hm, hs⟩⟩
    simp [State.daySecond, hticks]
  · refine (congrArg Host.Outcome.next (State.live_of_released h _)).trans ?_
    simp [State.daySecond, Nat.not_le.2 hticks]
  · exact congrArg Host.Outcome.next
      (State.request_answers (t := { s with clock := _ }) hi hi.2.1 hi.2.2 (State.perform_clockSet _ hh mm ss))

/-! ### Encodings (R14, R93, R143, R182) -/

theorem hexValue_hexDigit {n : Nat} (h : n < 16) : hexValue (hexDigit n) = some n := by
  have hall : ∀ m : Fin 16, hexValue (hexDigit m.val) = some m.val := by decide
  exact hall ⟨n, h⟩

theorem mapM_hexValue_hexBytes (bs : List Byte) :
    (hexBytes bs).mapM hexValue = some (bs.flatMap fun b => [b.toNat / 16, b.toNat % 16]) := by
  induction bs with
  | nil => rfl
  | cons b bs ih =>
    have hhi : hexValue (hexDigit (b.toNat / 16)) = some (b.toNat / 16) := hexValue_hexDigit (by omega)
    have hlo : hexValue (hexDigit (b.toNat % 16)) = some (b.toNat % 16) := hexValue_hexDigit (by omega)
    have hcons : hexBytes (b :: bs) = hexDigit (b.toNat / 16) :: hexDigit (b.toNat % 16) :: hexBytes bs := rfl
    simp [hcons, hhi, hlo, ih]

theorem pairDigits_halves (bs : List Byte) :
    pairDigits (bs.flatMap fun b => [b.toNat / 16, b.toNat % 16]) = some bs := by
  induction bs with
  | nil => rfl
  | cons b bs ih =>
    have hb : BitVec.ofNat 8 (16 * (b.toNat / 16) + b.toNat % 16) = b := by
      rw [Nat.div_add_mod, BitVec.ofNat_toNat, BitVec.setWidth_eq]
    simp [pairDigits, ih, hb]

/-- Hexadecimal digits read back. -/
theorem hexBytes_readBack (bs : List Byte) : ((hexBytes bs).mapM hexValue).bind pairDigits = some bs := by
  rw [mapM_hexValue_hexBytes, Option.bind_some, pairDigits_halves]

/-- The code of each of the word characters reads back in its case: the chart is a bijection on them. -/
theorem decodeReturn_unitOf : ∀ b : Byte, isWordChar b = true →
    decodeReturn (if isLetter b then .letters else .figures) (unitOf b).code = .collect (.printed b) := by
  decide +kernel

theorem Slot.level_start (f : FiveUnit) {n : Nat} (h : n < 2) : (Slot.char f).level n = false := by
  simp [level, h]

theorem Slot.level_stop (f : FiveUnit) {n : Nat} (h : 12 ≤ n) : (Slot.char f).level n = true := by
  have h2 : ¬n < 2 := by omega
  have h12 : ¬n < 12 := by omega
  simp [level, h2, h12]

theorem Slot.level_bit (f : FiveUnit) {n bit : Nat} (hb : bit < 5) (h : n = 2 + 2 * bit ∨ n = 3 + 2 * bit) :
    (Slot.char f).level n = f.code.getMsbD bit := by
  have h2 : ¬n < 2 := by omega
  have h12 : n < 12 := by omega
  have hbit : (n - 2) / 2 = bit := by omega
  simp [level, h2, h12, hbit]

/-- Settles O6. -/
theorem encodingsReadBack : Obligations.EncodingsReadBack :=
  ⟨hexBytes_readBack, decodeReturn_unitOf, fun f _ =>
    ⟨Slot.level_start f, Slot.level_stop f, fun _ hb h => Slot.level_bit f hb h⟩⟩

end Sys2Proof.Machine
end

section
/-! Reception byte by byte: faults recorded beside what a link does else, draining one byte at a time, and the arrival of a
byte on a link that has drained all before it. With them, O8. -/

namespace Sys2Proof.Machine

open Sys2Proof

/-! ### Updates of one link, and faults beside them -/

theorem State.modLink_modLink (s : State) (l : LinkId) (f g : Link → Link) :
    (s.modLink l f).modLink l g = s.modLink l fun k => g (f k) := by
  simp [modLink]

theorem State.setLink_modLink (s : State) (l : LinkId) (k : Link) (f : Link → Link) :
    (s.setLink l k).modLink l f = s.setLink l (f k) := by
  simp [modLink]

theorem State.setLink_comm (s : State) {l m : LinkId} (h : l ≠ m) (k k' : Link) :
    (s.setLink l k).setLink m k' = (s.setLink m k').setLink l k := by
  have hne : l.val ≠ m.val := fun e => h (Fin.ext e)
  simp only [setLink]
  rw [Vector.set_comm _ _ hne]

theorem State.modLink_comm (s : State) {l m : LinkId} {f g : Link → Link} (h : ∀ k, f (g k) = g (f k)) :
    (s.modLink l f).modLink m g = (s.modLink m g).modLink l f := by
  by_cases hl : l = m
  · subst hl
    simp only [modLink_modLink, h]
  · simp only [modLink, setLink_link_ne _ (Ne.symm hl), setLink_link_ne _ hl]
    exact s.setLink_comm hl _ _

/-- A link with another reply queue, in transmission at another rate. -/
def Link.withReplies (k : Link) (rs : List (List Byte)) (rate : Option Rate) : Link :=
  { k with replies := rs, sendRate := rate }

/-- A change of a link that neither touches nor reads its return direction, and keeps its profile. -/
def Link.Aside (f : Link → Link) : Prop :=
  ∀ k : Link, (f k).profile = k.profile ∧ ∀ rs rate, f (k.withReplies rs rate) = (f k).withReplies rs rate

theorem Link.Aside.replies {f : Link → Link} (hf : Link.Aside f) (k : Link) : (f k).replies = k.replies := by
  have hsame := congrArg Link.replies ((hf k).2 k.replies k.sendRate)
  exact hsame

theorem Link.Aside.sendRate {f : Link → Link} (hf : Link.Aside f) (k : Link) : (f k).sendRate = k.sendRate := by
  have hsame := congrArg Link.sendRate ((hf k).2 k.replies k.sendRate)
  exact hsame

theorem Link.Aside.pushFrame {f : Link → Link} (hf : Link.Aside f) (k : Link) (frame : List Byte) :
    f (k.pushFrame frame) = (f k).pushFrame frame := by
  have hpush (k : Link) : k.pushFrame frame =
      k.withReplies (k.replies ++ [frame]) (if k.replies.isEmpty then some k.profile.rate else k.sendRate) := rfl
  rw [hpush, (hf k).2, hpush, hf.replies, (hf k).1, hf.sendRate]

namespace State

variable {s : State} {l : LinkId} {f : Link → Link}

theorem modLink_link_aside (hf : Link.Aside f) (m : LinkId) :
    ((s.modLink l f).link m).replies = (s.link m).replies ∧ ((s.modLink l f).link m).profile = (s.link m).profile := by
  rw [modLink_link]
  split
  · exact ⟨hf.replies _, (hf _).1⟩
  · exact ⟨rfl, rfl⟩

theorem queueFrame_modLink (hf : Link.Aside f) (m : LinkId) (frame : List Byte) :
    (s.modLink l f).queueFrame m frame = (s.queueFrame m frame).modLink l f := by
  unfold queueFrame
  rw [(modLink_link_aside hf m).1]
  split
  · rfl
  · exact s.modLink_comm fun k => hf.pushFrame k frame

theorem sendBody_modLink (hf : Link.Aside f) (m : LinkId) (body : List Byte) :
    (s.modLink l f).sendBody m body = (s.sendBody m body).modLink l f := by
  unfold sendBody
  rw [(modLink_link_aside hf m).2, queueFrame_modLink hf]

theorem notice_modLink (hf : Link.Aside f) (kind : Byte) (fields : List Byte) :
    (s.modLink l f).notice kind fields = (s.notice kind fields).modLink l f :=
  sendBody_modLink (s := { s with noticeNumber := s.noticeNumber + 1 }) hf _ _

theorem recordFault_modLink (hf : Link.Aside f) (src : Fin 26) (code : FaultCode) :
    (s.modLink l f).recordFault src code = (s.recordFault src code).modLink l f := by
  have hset : (s.modLink l f).setFault src code = (s.setFault src code).modLink l f := rfl
  unfold recordFault
  rw [modLink_settings, hset]
  split
  · exact notice_modLink hf _ _
  · rfl

theorem queueFrame_modStore (g : Store → Store) (m : LinkId) (frame : List Byte) :
    (s.modStore g).queueFrame m frame = (s.queueFrame m frame).modStore g := by
  unfold queueFrame
  rw [modStore_link]
  split <;> rfl

theorem recordFault_modStore (g : Store → Store) (src : Fin 26) (code : FaultCode) :
    (s.modStore g).recordFault src code = (s.recordFault src code).modStore g := by
  unfold recordFault
  rw [modStore_settings]
  split
  · exact queueFrame_modStore (s := { s.setFault src code with noticeNumber := s.noticeNumber + 1 }) g _ _
  · rfl

end State

/-! ### Draining one byte at a time (R3, R4) -/

theorem drainAll_of_settled {s : State} (h : s.drainOne = none) (n : Nat) : drainAll n s = s := by
  cases n <;> simp [drainAll, h]

/-- Once every link has drained, more fuel changes nothing. -/
theorem drainAll_of_le {n m : Nat} {s : State} (hn : s.loads ≤ n) (hm : n ≤ m) : drainAll m s = drainAll n s := by
  induction n generalizing s m with
  | zero =>
    have hpos := Finset.single_le_sum (f := s.load) (fun _ _ => Nat.zero_le _) (Finset.mem_univ (0 : LinkId))
    have hload := Link.load_pos (s.waits 0) (s.link 0)
    have hle : s.load 0 ≤ 0 := hpos.trans hn
    exact absurd hload (Nat.not_le.2 (Nat.lt_succ_of_le hle))
  | succ n ih =>
    obtain ⟨m, rfl⟩ := Nat.exists_eq_add_one_of_ne_zero (Nat.ne_zero_of_lt hm)
    unfold drainAll
    cases hd : s.drainOne with
    | none => rfl
    | some u =>
      have hlt := State.drainOne_loads hd
      exact ih (by omega) (by omega)

theorem drainAll_eq_settle {n : Nat} {s : State} (hn : s.loads ≤ n) : drainAll n s = s.settle := by
  rw [State.settle, ← drainAll_of_le hn (Nat.le_max_left n (2 * s.fifoBytes + 16)),
    drainAll_of_le s.loads_le (Nat.le_max_right n (2 * s.fifoBytes + 16))]

theorem State.settle_of_drainOne {s u : State} (h : s.drainOne = some u) : s.settle = u.settle := by
  have hlt := State.drainOne_loads h
  have hle := s.loads_le
  rw [State.settle, drainAll]
  simp only [h]
  exact drainAll_eq_settle (by omega)

/-- Every link but one has drained. -/
abbrev State.OthersSettled (s : State) (l : LinkId) : Prop := ∀ m, m ≠ l → (s.link m).fifo = [] ∨ s.waits m = true

theorem State.drainOne_of_others {s : State} {l : LinkId} {b : Byte} {rest : List Byte} (ho : s.OthersSettled l)
    (hw : s.waits l = false) (hf : (s.link l).fifo = b :: rest) : s.drainOne = some (s.drainByte l b) := by
  have hcan : s.canDrain l = true := by simp [canDrain, hf, hw]
  have hfind : allLinks.find? s.canDrain = some l := by
    cases hfound : allLinks.find? s.canDrain with
    | none => exact absurd hcan (List.find?_eq_none.1 hfound l (allLinks_mem l))
    | some m =>
      have hm := List.find?_some hfound
      by_contra hne
      rcases ho m fun h => hne (congrArg some h) with hm' | hm' <;> simp [canDrain, hm'] at hm
  simp [drainOne, hfind, hf]

theorem State.settle_drainByte {s : State} {l : LinkId} {b : Byte} {rest : List Byte} (ho : s.OthersSettled l)
    (hw : s.waits l = false) (hf : (s.link l).fifo = b :: rest) : s.settle = (s.drainByte l b).settle :=
  settle_of_drainOne (drainOne_of_others ho hw hf)

theorem State.settled.others {s : State} (h : s.settled) (l : LinkId) : s.OthersSettled l := fun m _ => h m

theorem State.OthersSettled.modLink {s : State} {l : LinkId} (h : s.OthersSettled l) (f : Link → Link) :
    (s.modLink l f).OthersSettled l := fun m hm => by
  simpa [modLink_link, hm, waits] using h m hm

theorem State.OthersSettled.settled {s : State} {l : LinkId} (h : s.OthersSettled l) (hl : (s.link l).fifo = []) :
    s.settled := fun m => by
  by_cases hm : m = l
  · exact .inl (hm ▸ hl)
  · exact h m hm

/-- The bytes of a FIFO taken into the check and dropped. -/
def Link.emptied (k : Link) : Link :=
  { k with fifo := [], crc := if k.profile.check then crcBytes k.profile.poly k.crc k.fifo else k.crc }

/-- The bytes of a FIFO counted as stray and dropped. -/
def Link.strayed (k : Link) : Link := ({ k with fifo := [] } : Link).count .stray k.fifo.length

theorem Link.fifo_empty {k : Link} (hf : k.fifo = []) : ({ k with fifo := [] } : Link) = k := by
  cases k
  cases hf
  rfl

theorem Link.emptied_nil {k : Link} (hf : k.fifo = []) : k.emptied = k := by
  simp only [emptied, hf, crcBytes, List.foldl_nil, ite_self]
  exact fifo_empty hf

theorem Link.emptied_drainHead (k : Link) : k.drainHead.emptied = k.emptied := by
  unfold drainHead
  cases hf : k.fifo with
  | nil => rfl
  | cons b rest =>
    cases hc : k.profile.check <;> simp [emptied, takeCrc, hc, hf, crcBytes]

theorem satPlus_zero (c : Counter) : satPlus c 0 = c := by
  have := c.isLt
  rw [satPlus, Nat.add_zero, Nat.min_eq_right (by omega), BitVec.ofNat_toNat, BitVec.setWidth_eq]

theorem satPlus_satPlus (c : Counter) (m n : Nat) : satPlus (satPlus c m) n = satPlus c (m + n) := by
  have hm : (satPlus c m).toNat = min 65535 (c.toNat + m) := by
    rw [satPlus, BitVec.toNat_ofNat]
    omega
  rw [satPlus, hm, satPlus]
  congr 1
  omega

theorem Link.strayed_nil {k : Link} (hf : k.fifo = []) : k.strayed = k := by
  simp only [strayed, hf, List.length_nil, count, LinkCounters.get, LinkCounters.set, satPlus_zero]
  exact fifo_empty hf

theorem Link.strayed_cons {k : Link} {b : Byte} {rest : List Byte} (hf : k.fifo = b :: rest) :
    (({ k with fifo := rest } : Link).count .stray 1).strayed = k.strayed := by
  simp [strayed, count, LinkCounters.get, LinkCounters.set, satPlus_satPlus, hf, Nat.add_comm]

theorem State.textByte_closed (s : State) (l : LinkId) (hd : Nat) {b : Byte} (hbegin : b ≠ byteBegin)
    (hend : b ≠ byteEnd) : s.textByte l hd true b = s.pop l := by
  unfold textByte
  rw [if_neg hbegin, if_neg hend, if_pos rfl]

/-- Closed text drained to its end: every byte is taken into the check and dropped (R5). -/
theorem State.settle_closedText {s : State} {l : LinkId} {hd : Nat} (ho : s.OthersSettled l) (hw : s.waits l = false)
    (hx : (s.link l).rx = .text hd true) (hb : ∀ b ∈ (s.link l).fifo, b ≠ byteBegin ∧ b ≠ byteEnd) :
    s.settle = s.modLink l Link.emptied := by
  generalize hf : (s.link l).fifo = bs at hb
  induction bs generalizing s with
  | nil => rw [settle_of_settled (ho.settled hf), modLink, Link.emptied_nil hf, setLink_self]
  | cons b rest ih =>
    obtain ⟨hbegin, hend⟩ := hb b List.mem_cons_self
    have hdrain : s.drainByte l b = s.pop l := by
      unfold drainByte
      rw [hx]
      exact s.textByte_closed l hd hbegin hend
    have hrest : (s.pop l).settle = (s.pop l).modLink l Link.emptied :=
      ih (ho.modLink _) hw (by simp [pop, hx]) (by simp [pop, Link.drainHead_fifo, hf])
        fun b hb' => hb b (List.mem_cons_of_mem _ hb')
    rw [settle_drainByte ho hw hf, hdrain, hrest, pop, modLink_modLink]
    simp only [Link.emptied_drainHead]

/-- Bytes that are no BEGIN drained from IDLE: each is counted as stray (R6). -/
theorem State.settle_idle {s : State} {l : LinkId} (ho : s.OthersSettled l) (hw : s.waits l = false)
    (hx : (s.link l).rx = .idle) (hb : ∀ b ∈ (s.link l).fifo, b ≠ byteBegin) : s.settle = s.modLink l Link.strayed := by
  generalize hf : (s.link l).fifo = bs at hb
  induction bs generalizing s with
  | nil => rw [settle_of_settled (ho.settled hf), modLink, Link.strayed_nil hf, setLink_self]
  | cons b rest ih =>
    let u := (s.popUncovered l).countLink l .stray 1
    have hu : u = s.setLink l (({ s.link l with fifo := rest } : Link).count .stray 1) := by
      simp [u, popUncovered, countLink, modLink, hf]
    have hdrain : s.drainByte l b = u := by
      unfold drainByte
      rw [hx]
      exact if_neg (hb b List.mem_cons_self)
    have hrest : u.settle = u.modLink l Link.strayed :=
      ih ((ho.modLink _).modLink _) hw (by simp [hu, Link.count, hx]) (by simp [hu, Link.count])
        fun b hb' => hb b (List.mem_cons_of_mem _ hb')
    rw [settle_drainByte ho hw hf, hdrain, hrest, hu, setLink_modLink, Link.strayed_cons hf, modLink]

/-! ### A byte arriving on a link that has drained (R3, R19) -/

/-- The silence timing of a link restarted by a byte (R19). -/
abbrev Link.stirred (k : Link) : Link := { k with silenceTicks := 0, silent := false }

/-- The link after a byte that its check covers. -/
abbrev Link.covered (k : Link) (b : Byte) : Link :=
  { k with
    silenceTicks := 0, silent := false, crc := if k.profile.check then crcByte k.profile.poly k.crc b else k.crc }

/-- The byte in the FIFO, not yet drained. -/
abbrev State.received (s : State) (l : LinkId) (b : Byte) : State := s.setLink l { (s.link l).stirred with fifo := [b] }

theorem Link.takeCrc_eq (k : Link) (b : Byte) :
    k.takeCrc b = { k with crc := if k.profile.check then crcByte k.profile.poly k.crc b else k.crc } := by
  unfold takeCrc
  split <;> rfl

section

variable {s : State} {l : LinkId}

theorem State.received_pop (hf : (s.link l).fifo = []) (b : Byte) :
    (s.received l b).pop l = s.setLink l ((s.link l).covered b) := by
  rw [pop, setLink_modLink]
  simp only [Link.drainHead, Link.takeCrc_eq]
  rw [← hf]

theorem State.received_popUncovered (hf : (s.link l).fifo = []) (b : Byte) :
    (s.received l b).popUncovered l = s.setLink l (s.link l).stirred := by
  rw [popUncovered, setLink_modLink]
  simp only [List.tail_cons]
  rw [← hf]

theorem State.settled.fifo (h : s.settled) (hw : s.waits l = false) : (s.link l).fifo = [] :=
  (h l).resolve_right (by simp [hw])

theorem State.byteArrives_eq (hs : s.settled) (hw : s.waits l = false) (hx : (s.link l).rx ≠ .disabled) (b : Byte) :
    s.byteArrives l b = ((s.received l b).drainByte l b).settle := by
  have hf := hs.fifo hw
  have hreceived : (s.modLink l fun k => { k with silenceTicks := 0, silent := false }).modLink l
      (fun k => { k with fifo := k.fifo ++ [b] }) = s.received l b := by
    simp [modLink, hf]
  unfold byteArrives
  simp only [hx, if_false, modLink_link_self, hf, List.length_nil, hreceived]
  exact settle_drainByte (rest := []) ((hs.others l).modLink fun k => { k.stirred with fifo := [b] }) hw (by simp)

theorem exec_byteArrives (hr : s.resetHeld = false) (hs : s.settled) (hw : s.waits l = false)
    (hx : (s.link l).rx ≠ .disabled) (b : Byte) :
    exec (.byteArrives l b) s = .next ((s.received l b).drainByte l b).settle :=
  congrArg Host.Outcome.next ((State.live_of_released hr _).trans (State.byteArrives_eq hs hw hx b))

theorem exec_byteArrives_of_settled {u : State} (hr : s.resetHeld = false) (hs : s.settled) (hw : s.waits l = false)
    (hx : (s.link l).rx ≠ .disabled) {b : Byte} (hu : (s.received l b).drainByte l b = u) (hset : u.settled) :
    exec (.byteArrives l b) s = .next u := by
  rw [exec_byteArrives hr hs hw hx, hu, State.settle_of_settled hset]

/-! ### O8: bytes outside frames, and bytes lost -/

theorem State.byteArrives_disabled (hx : (s.link l).rx = .disabled) (b : Byte) : s.byteArrives l b = s := by
  simp [byteArrives, hx]

theorem State.received_drainByte_idle (hf : (s.link l).fifo = []) (hx : (s.link l).rx = .idle) (b : Byte) :
    (s.received l b).drainByte l b = s.setLink l
      (if b = byteBegin then { (s.link l).stirred with crc := (s.link l).profile.init, rx := .header .unclassed }
      else (s.link l).stirred.count .stray 1) := by
  have hidle : ((s.received l b).link l).rx = .idle := by simp [hx]
  unfold drainByte
  rw [hidle]
  dsimp only
  rw [received_popUncovered hf]
  split <;> simp only [beginFrame, countLink, setLink_modLink]

end

theorem Link.aside_stirred : Link.Aside Link.stirred := fun _ => ⟨rfl, fun _ _ => rfl⟩

/-- A byte lost in TEXT: OVERRUN, a character lost, the request withdrawn, the take marked and the text closed (R5). -/
theorem State.overrun_text {s : State} {l : LinkId} {hd : Nat} {closed : Bool} {t : Take}
    (hx : (s.link l).rx = .text hd closed) (ht : s.take? hd = some t) :
    s.overrun l = ((((s.recordFault (linkSource l) .overrun).modLink l fun k =>
      { (k.count .charsLost 1) with rx := .text hd true }).putTake hd { t with truncated := true }).withdraw l) := by
  have htake : (((s.recordFault (linkSource l) .overrun).countLink l .charsLost 1).withdraw l).take? hd = some t :=
    (s.recordFault_take? _ _ hd).trans ht
  have hmarked : ∀ (u : State) (v : Take), (((u.countLink l .charsLost 1).withdraw l).putTake hd v).setRx l (.text hd true) =
      ((((u.countLink l .charsLost 1).setRx l (.text hd true)).putTake hd v).withdraw l) := fun _ _ => rfl
  unfold overrun
  simp only [hx, closeText, modTake, htake]
  rw [hmarked, countLink, setRx, modLink_modLink]

/-- Settles O8. -/
theorem bytesOutsideFramesOrLost : Obligations.BytesOutsideFramesOrLost := by
  refine ⟨fun s l b hr => ⟨fun hx => ?disabled, fun hx hs hw => ?idle⟩, ?lost⟩
  case disabled => exact congrArg Host.Outcome.next ((State.live_of_released hr _).trans (State.byteArrives_disabled hx b))
  case idle =>
    refine exec_byteArrives_of_settled hr hs hw (by simp [hx]) (State.received_drainByte_idle (hs.fifo hw) hx b) ?_
    exact State.setLink_settled hs (.inl (by split <;> exact hs.fifo hw))
  case lost =>
    intro s l b hd closed t hr hs hx ht hlen hbytes
    let r := s.recordFault (linkSource l) .overrun
    let u := (s.modLink l Link.stirred).overrun l
    have hu : u = ((r.modLink l fun k => { (k.stirred.count .charsLost 1) with rx := .text hd true }).putTake hd
        { t with truncated := true }).withdraw l := by
      have hoverrun := State.overrun_text (s := s.modLink l Link.stirred) (l := l) (closed := closed) (by simpa using hx) ht
      rw [State.recordFault_modLink Link.aside_stirred, State.modLink_modLink] at hoverrun
      exact hoverrun
    have harrives : s.byteArrives l b = u.settle := by
      have hfull : Config.fifoBytes ≤ ((s.modLink l fun k => { k with silenceTicks := 0, silent := false }).link l).fifo.length := by
        simpa using hlen
      unfold State.byteArrives
      simp only [hx, reduceCtorEq, if_false]
      rw [if_pos hfull]
    have hfifo : (u.link l).fifo = (s.link l).fifo := by
      obtain ⟨rs, rate, he⟩ := s.recordFault_link (linkSource l) .overrun l
      simp [hu, State.withdraw, r, he, Link.count]
    have hothers : u.OthersSettled l := fun m hm => by
      obtain ⟨rs, rate, he⟩ := s.recordFault_link (linkSource l) .overrun m
      have hmf : (u.link m).fifo = (s.link m).fifo := by simp [hu, State.withdraw, r, State.modLink_link, hm, he]
      have hmw : u.waits m = s.waits m := by
        rw [hu, State.withdraw_waits_ne _ hm]
        exact s.recordFault_waits _ _ m
      rw [hmf, hmw]
      exact hs m
    have hsettle := State.settle_closedText (hd := hd) hothers (by rw [hu]; exact State.withdraw_waits _ l)
      (by simp [hu, State.withdraw]) (by rw [hfifo]; exact hbytes)
    refine (congrArg Host.Outcome.next ((State.live_of_released hr _).trans (harrives.trans (hsettle.trans ?_))))
    have hlate (v : State) (f : Link → Link) : ((v.putTake hd { t with truncated := true }).withdraw l).modLink l f =
        ((v.modLink l f).putTake hd { t with truncated := true }).withdraw l := rfl
    rw [hu, hlate, State.modLink_modLink, State.countLink, State.modLink_modLink]
    rfl

end Sys2Proof.Machine
end

section
/-! The store: grants, the arbiter and text bytes stored (O9, O15). -/

namespace Sys2Proof.Machine

open Sys2Proof

/-! ### Grants (R26 to R28) -/

theorem State.testLowEntry_quiet {s : State} (h : s.store.low = true ∨ s.store.lowWater < s.store.free) :
    s.testLowEntry = s := by
  unfold testLowEntry
  refine if_neg fun ⟨hlow, hfree⟩ => ?_
  rcases h with h | h
  · simp [hlow] at h
  · omega

/-- The store with one segment granted, a grant from within the reserve counted (R28). -/
def Store.oneGranted (st : Store) : Store :=
  { st with
    free := st.free - 1
    reserveGrants := if st.free ≤ st.reserve then satPlus st.reserveGrants 1 else st.reserveGrants }

/-- A grant noted before LOW is tested: RESERVE IN USE is recorded where it comes down to the reserve (R28). -/
def State.noted (s : State) : State :=
  if s.store.free = s.store.reserve + 1 then (s.modStore Store.oneGranted).recordFault storeSource .reserveInUse
  else s.modStore Store.oneGranted

theorem State.noteGrant_eq (s : State) : s.noteGrant = s.noted.testLowEntry := by
  unfold noteGrant noted
  by_cases hcross : s.store.free = s.store.reserve + 1
  · have hover : ¬s.store.free ≤ s.store.reserve := by omega
    have hgranted : s.store.oneGranted = { s.store with free := s.store.free - 1 } := by simp [Store.oneGranted, hover]
    simp only [hcross, if_true, modStore, hgranted, show ¬s.store.reserve + 1 ≤ s.store.reserve by omega, if_false]
  · simp only [hcross, if_false, modStore, Store.oneGranted]
    split <;> rfl

@[simp] theorem State.noted_store (s : State) : s.noted.store = s.store.oneGranted := by
  unfold noted
  split <;> simp

/-- A grant that neither comes down to the reserve nor lowers the free count to low water (R26, R28). -/
theorem State.noteGrant_quiet {s : State} (hreserve : s.store.reserve + 1 < s.store.free)
    (hlow : s.store.low = true ∨ s.store.lowWater + 1 < s.store.free) :
    s.noteGrant = s.modStore fun st => { st with free := st.free - 1 } := by
  have hover : ¬s.store.free ≤ s.store.reserve := by omega
  have hnoted : s.noted = s.modStore fun st => { st with free := st.free - 1 } := by
    rw [noted, if_neg (by omega)]
    simp [modStore, Store.oneGranted, hover]
  rw [noteGrant_eq, testLowEntry_quiet, hnoted]
  rw [noted_store]
  exact hlow.imp_right fun h => by simp only [Store.oneGranted]; omega

theorem Store.eligible_iff (st : Store) (p : Priority) : st.eligible p = true ↔
    if p = .flash ∨ p = .bulletin then 0 < st.free else st.reserve < st.free := by
  cases p <;> simp [eligible, Priority.num]

/-! ### Faults and hold lines at the entry into LOW (R20, R26) -/

/-- A fault recorded stands in its entry, but for one of the Service Unit, which a full queue overwrites. -/
theorem State.recordFault_get (s : State) {src : Fin 26} (hsrc : src ≠ serviceSource) (code : FaultCode) :
    (s.recordFault src code).faults[src] = some code := by
  have hset : (s.setFault src code).faults[src] = some code := by simp [setFault]
  unfold recordFault notice sendBody
  split
  · rcases State.queueFrame_cases _ _ _ with ⟨-, he⟩ | ⟨-, he⟩ <;> rw [he]
    · exact hset
    · rw [setFault_get, if_neg hsrc]
      exact hset
  · exact hset

theorem State.refreshHolds_link (s : State) (l : LinkId) :
    s.refreshHolds.link l = (s.link l).refreshHold s.store.low := by
  simp [refreshHolds, link]

theorem Link.refreshHold_hold (low : Bool) (k : Link) : (k.refreshHold low).hold = k.holdWanted low := by
  unfold refreshHold
  split
  · exact (‹k.holdWanted low = k.hold›).symm
  · rfl

/-- Entry into LOW: STORE LOW recorded, every hold line as LOW calls for (R20, R26). -/
theorem State.testLowEntry_enters {s : State} (hlow : s.store.low = false) (hfree : s.store.free ≤ s.store.lowWater) :
    s.testLowEntry.store.low = true ∧ s.testLowEntry.faults[storeSource] = some .storeLow ∧
      ∀ l : LinkId, (s.testLowEntry.link l).hold = (s.link l).holdWanted true := by
  have henter : s.testLowEntry =
      ((s.modStore fun st => { st with low := true }).recordFault storeSource .storeLow).refreshHolds := by
    rw [testLowEntry, if_pos ⟨hlow, hfree⟩]
  refine ⟨by rw [henter]; simp [refreshHolds], ?_, fun l => ?_⟩
  · rw [henter]
    exact recordFault_get _ (by decide) _
  · obtain ⟨rs, rate, he⟩ := (s.modStore fun st => { st with low := true }).recordFault_link storeSource .storeLow l
    rw [henter, refreshHolds_link, Link.refreshHold_hold, he, recordFault_store]
    rfl

theorem State.noted_link (s : State) (l : LinkId) :
    ∃ rs rate, s.noted.link l = { s.link l with replies := rs, sendRate := rate } := by
  unfold noted
  split
  · exact (s.modStore Store.oneGranted).recordFault_link _ _ l
  · exact ⟨_, _, rfl⟩

/-! ### The arbiter (R29) -/

/-- One waiting request is served no later than another. -/
def WaitingRequest.Before (a b : WaitingRequest) : Prop :=
  a.prio.num < b.prio.num ∨ (a.prio.num = b.prio.num ∧ a.link.val ≤ b.link.val)

theorem WaitingRequest.Before.refl (a : WaitingRequest) : a.Before a := .inr ⟨rfl, le_rfl⟩

theorem WaitingRequest.Before.trans {a b c : WaitingRequest} (h : a.Before b) (h' : b.Before c) : a.Before c := by
  unfold Before at *
  omega

theorem preferred_before (a b : WaitingRequest) : (preferred a b).Before a ∧ (preferred a b).Before b := by
  unfold preferred WaitingRequest.Before
  split <;> omega

theorem foldl_preferred_before (ws : List WaitingRequest) (a : WaitingRequest) :
    (ws.foldl preferred a).Before a ∧ ∀ v ∈ ws, (ws.foldl preferred a).Before v := by
  induction ws generalizing a with
  | nil => exact ⟨.refl a, by simp⟩
  | cons b ws ih =>
    obtain ⟨hhead, hrest⟩ := ih (preferred a b)
    obtain ⟨ha, hb⟩ := preferred_before a b
    refine ⟨hhead.trans ha, fun v hv => ?_⟩
    rcases List.mem_cons.1 hv with rfl | hv
    · exact hhead.trans hb
    · exact hrest v hv

/-- The request served comes before every eligible one (R29). -/
theorem Store.nextServed_before {st : Store} {w : WaitingRequest} (hw : st.nextServed = some w) :
    ∀ v ∈ st.waiting, st.eligible v.prio = true → w.Before v := by
  intro v hv he
  have hmem : v ∈ st.waiting.filter fun w => st.eligible w.prio := List.mem_filter.2 ⟨hv, he⟩
  unfold nextServed at hw
  split at hw
  · cases hw
  · rename_i u us hf
    cases hw
    rw [hf] at hmem
    obtain ⟨hhead, hrest⟩ := foldl_preferred_before us u
    rcases List.mem_cons.1 hmem with rfl | hm
    · exact hhead
    · exact hrest v hm

/-- A segment granted to a link whose FIFO holds one byte, with no bookkeeping due (R27, R29). -/
theorem State.segmentGrant_quiet {s : State} {w : WaitingRequest} {hd : Nat} {closed : Bool} {b : Byte} {t : Take}
    (hs : s.settled) (hw : s.store.nextServed = some w) (hx : (s.link w.link).rx = .text hd closed)
    (hf : (s.link w.link).fifo = [b]) (ht : s.take? hd = some t) (hreserve : s.store.reserve + 1 < s.store.free)
    (hlow : s.store.low = true ∨ s.store.lowWater + 1 < s.store.free) :
    s.segmentGrant = ((s.modLink w.link fun k =>
      { k with fifo := [], crc := if k.profile.check then crcByte k.profile.poly k.crc b else k.crc }).putTake hd
        (t.appendNew (fold b))).modStore fun st =>
          { st with free := st.free - 1, waiting := st.waiting.filter fun v => v.link != w.link } := by
  let u := (s.withdraw w.link).modLink w.link (·.drainHead)
  have hu : u = (s.withdraw w.link).modLink w.link fun k =>
      { k with fifo := [], crc := if k.profile.check then crcByte k.profile.poly k.crc b else k.crc } := by
    have hlink : (s.withdraw w.link).link w.link = s.link w.link := rfl
    simp only [u, modLink, hlink, Link.drainHead, hf, Link.takeCrc_eq]
  have hgrant : s.grantWaiting w = (u.putTake hd (t.appendNew (fold b))).modStore fun st =>
      { st with free := st.free - 1 } := by
    have htake : u.take? hd = some t := ht
    have hsegment : s.grantWaiting w = u.grantSegment hd (fold b) := by
      unfold grantWaiting
      rw [hx, hf]
    rw [hsegment, grantSegment, htake]
    exact noteGrant_quiet (s := u.putTake hd (t.appendNew (fold b))) hreserve hlow
  have hsettled : (s.grantWaiting w).settled := fun m => by
    rw [hgrant]
    by_cases hm : m = w.link
    · exact .inl (by simp [hu, hm])
    · have hwaits := s.withdraw_waits_ne hm
      rcases hs m with h | h
      · have hother : (u.link m).fifo = (s.link m).fifo := by
          rw [hu, modLink_link, if_neg hm]
          rfl
        exact .inl (hother.trans h)
      · exact .inr (hwaits.trans h)
  have hserve : s.segmentGrant = (s.grantWaiting w).settle := by
    unfold segmentGrant
    rw [hw]
  rw [hserve, settle_of_settled hsettled, hgrant, hu]
  rfl

/-- Settles O15. -/
theorem segmentGrants : Obligations.SegmentGrants := by
  refine ⟨⟨Store.eligible_iff, fun s _ => ⟨fun hlow => ?quiet, fun hlow hfree => ?low⟩⟩, fun s w hw =>
    ⟨(Store.nextServed_mem hw).1, (Store.nextServed_mem hw).2, Store.nextServed_before hw⟩, ?grant, ?none⟩
  case quiet =>
    rw [s.noteGrant_eq, State.testLowEntry_quiet (by simpa [Store.oneGranted] using hlow)]
    rfl
  case low =>
    obtain ⟨hin, hfault, hhold⟩ := State.testLowEntry_enters (s := s.noted) (by simpa [Store.oneGranted] using hlow)
      (by simpa [Store.oneGranted] using hfree)
    refine ⟨_, s.noteGrant_eq, hin, by simp [Store.oneGranted], hfault, fun l => ?_⟩
    obtain ⟨rs, rate, he⟩ := s.noted_link l
    rw [hhold, he, Link.holdWanted, Bool.true_and]
  case grant =>
    intro s w hd closed b t hr hs hw hx hf ht hreserve hlow
    exact congrArg Host.Outcome.next ((State.live_of_released hr _).trans
      (State.segmentGrant_quiet hs hw hx hf ht hreserve hlow))
  case none =>
    intro s hr hw
    refine congrArg Host.Outcome.next ((State.live_of_released hr _).trans ?_)
    unfold State.segmentGrant
    rw [hw]

/-! ### Text bytes (R3, R11, R27) -/

section

variable {s : State} {l : LinkId} {hd : Nat} {b : Byte}

theorem State.received_drainByte_text {closed : Bool} (hx : (s.link l).rx = .text hd closed) (b : Byte) :
    (s.received l b).drainByte l b = (s.received l b).textByte l hd closed b := by
  unfold drainByte
  rw [setLink_link_self, hx]

theorem State.textByte_open (hbegin : b ≠ byteBegin) (hend : b ≠ byteEnd) :
    s.textByte l hd false b = if s.storable b then s.storeByte l hd b else (s.pop l).countLink l .ignored 1 := by
  unfold textByte
  rw [if_neg hbegin, if_neg hend, if_neg Bool.false_ne_true]

theorem Take.hasRoom_eq (t : Take) : t.hasRoom = decide (t.length < 64 * t.chain.length) := rfl

/-- The branches of a storable byte, by the length of the take, its room and the grant rule (R11, R27). -/
theorem State.storeByte_eq {t : Take} (ht : s.take? hd = some t) : s.storeByte l hd b =
    if 4095 ≤ t.length then (s.pop l).closeText l hd
    else if t.length < 64 * t.chain.length then (s.pop l).putTake hd (t.append (fold b))
    else if s.store.eligible t.prio then (s.pop l).grantSegment hd (fold b)
    else s.askSegment l t.prio := by
  unfold storeByte
  simp only [ht, Take.hasRoom_eq, decide_eq_true_eq]

theorem isLower_eq (b : Byte) : isLower b = decide (0x61 ≤ b.toNat ∧ b.toNat ≤ 0x7A) := rfl

theorem substLookup_isSome (tbl : Vector SubstEntry 32) (b : Byte) :
    (substLookup tbl b).isSome = true ↔ ∃ n : Fin 32, tbl[n].source = some b := by
  simp only [substLookup, Option.isSome_map, List.find?_isSome, Vector.mem_toList_iff, Vector.mem_iff_getElem, beq_iff_eq]
  constructor
  · rintro ⟨_, ⟨n, hn, rfl⟩, hb⟩
    exact ⟨⟨n, hn⟩, hb⟩
  · rintro ⟨n, hb⟩
    exact ⟨_, ⟨n, n.isLt, rfl⟩, hb⟩

theorem State.storable_iff (s : State) (b : Byte) : s.storable b = true ↔
    ((0x20 ≤ b.toNat ∧ b.toNat ≤ 0x7E) ∨ b = 0x0A ∨ (0x80 ≤ b.toNat ∧ ∃ n : Fin 32, s.subst[n].source = some b)) := by
  simp only [storable, isHigh, Bool.or_eq_true, Bool.and_eq_true, decide_eq_true_eq, substLookup_isSome, or_assoc]

end

/-- Settles O9. -/
theorem textBytesStored : Obligations.TextBytesStored := by
  refine ⟨?closed, ?text, fun s b => ⟨s.storable_iff b, ?_⟩⟩
  case closed =>
    intro s l b hd hr hs hw hx hbegin hend
    have hf := hs.fifo hw
    refine exec_byteArrives_of_settled hr hs hw (by simp [hx]) ?_ (State.setLink_settled hs (.inl hf))
    rw [State.received_drainByte_text hx, State.textByte_closed _ l hd hbegin hend, State.received_pop hf]
  case text =>
    intro s l b hd t hr hs hw hx ht hbegin hend
    have hf := hs.fifo hw
    have hpop := State.received_pop hf b
    have htext := State.textByte_open (s := s.received l b) (l := l) (hd := hd) hbegin hend
    have hstore (h : s.storable b = true) : (s.received l b).drainByte l b = (s.received l b).storeByte l hd b := by
      rw [State.received_drainByte_text hx, htext]
      exact if_pos h
    have htake : (s.received l b).take? hd = some t := ht
    have hsettled (k : Link) (hk : k.fifo = []) : (s.setLink l k).settled := State.setLink_settled hs (.inl hk)
    refine ⟨fun hb hlen hroom => ?room, fun hb hlen hfull hel hreserve hlow => ?grant, fun hb hlen hfull hel => ?waits,
      fun hb hlen => ?full, fun hb => ?ignored⟩
    case room =>
      refine exec_byteArrives_of_settled hr hs hw (by simp [hx]) ?_ (hsettled _ hf)
      rw [hstore hb, State.storeByte_eq htake, if_neg (by omega), if_pos hroom, hpop]
      rfl
    case grant =>
      refine exec_byteArrives_of_settled hr hs hw (by simp [hx]) ?_ (hsettled _ hf)
      have htaken : (s.setLink l ((s.link l).covered b)).take? hd = some t := ht
      rw [hstore hb, State.storeByte_eq htake, if_neg (by omega), if_neg (by omega), State.setLink_store, if_pos hel, hpop,
        State.grantSegment, htaken]
      exact State.noteGrant_quiet (s := (s.setLink l ((s.link l).covered b)).putTake hd (t.appendNew (fold b))) hreserve hlow
    case waits =>
      refine exec_byteArrives_of_settled hr hs hw (by simp [hx]) ?_ fun m => ?_
      · rw [hstore hb, State.storeByte_eq htake, if_neg (by omega), if_neg (by omega), State.setLink_store, hel,
          if_neg Bool.false_ne_true]
        rfl
      · by_cases hm : m = l
        · exact .inr (by simp [State.waits, hm])
        · rcases hs m with h | h
          · exact .inl (by simpa [State.setLink_link_ne _ hm] using h)
          · exact .inr (by simp only [State.waits, State.modStore, State.setLink_store, List.any_append] at h ⊢; simp [h])
    case full =>
      refine exec_byteArrives_of_settled hr hs hw (by simp [hx]) ?_ (hsettled _ hf)
      have htaken : (s.setLink l ((s.link l).covered b)).take? hd = some t := ht
      rw [hstore hb, State.storeByte_eq htake, if_pos hlen, hpop, State.closeText, State.modTake, htaken]
      exact congrArg (State.putTake · hd { t with truncated := true }) 
        (s.setLink_modLink l ((s.link l).covered b) fun k => { k with rx := .text hd true })
    case ignored =>
      refine exec_byteArrives_of_settled hr hs hw (by simp [hx]) ?_ ?_
      · rw [State.received_drainByte_text hx, htext, hpop]
        have hno : (s.received l b).storable b = false := hb
        exact if_neg (by rw [hno]; exact Bool.false_ne_true)
      · rw [State.countLink, State.setLink_modLink]
        exact hsettled _ hf
  · simp only [fold, isLower_eq, decide_eq_true_eq]

end Sys2Proof.Machine
end

section
/-! Headers: what goes wrong in one, and copy and service frames byte by byte (O7, O10, O12). -/

namespace Sys2Proof.Machine

open Sys2Proof

/-! ### Digits and station codes (R8, R14, R15) -/

theorem decimalValue_eq_some_iff (b : Byte) (d : Nat) : decimalValue b = some d ↔ d < 10 ∧ b.toNat = 0x30 + d := by
  unfold decimalValue
  split
  · rw [Option.some.injEq]
    omega
  · simp only [reduceCtorEq, false_iff]
    omega

theorem hexValue_eq_some_iff (b : Byte) (d : Nat) : hexValue b = some d ↔
    (d < 10 ∧ b.toNat = 0x30 + d) ∨ (10 ≤ d ∧ d < 16 ∧ b.toNat = 0x41 + (d - 10)) := by
  unfold hexValue
  split
  · rw [Option.some.injEq]
    omega
  · split
    · rw [Option.some.injEq]
      omega
    · simp only [reduceCtorEq, false_iff]
      omega

theorem plain_of_hexValue {b : Byte} {d : Nat} (h : hexValue b = some d) : b ≠ byteBegin ∧ b ≠ byteEnd := by
  have hvalue := (hexValue_eq_some_iff b d).1 h
  have hbegin : byteBegin.toNat = 1 := rfl
  have hend : byteEnd.toNat = 3 := rfl
  constructor <;> (rintro rfl; omega)

/-- Of three tests in order the first that holds decides. -/
theorem firstMatch_iff {A B C : Prop} [Decidable A] [Decidable B] [Decidable C] :
    let m : Option MatchCode := if A then some .own else if B then some .second else if C then some .general else none
    (m = some .own ↔ A) ∧ (m = some .second ↔ (¬A ∧ B)) ∧ (m = some .general ↔ (¬A ∧ ¬B ∧ C)) ∧
      (m = none ↔ (¬A ∧ ¬B ∧ ¬C)) := by
  by_cases hA : A
  · simp [hA]
  · by_cases hB : B
    · simp [hA, hB]
    · by_cases hC : C <;> simp [hA, hB, hC]

/-! ### One header byte (R8, R9, R14, R17, R18) -/

section

variable {s : State} {l : LinkId} {x : Header} {b : Byte}

theorem State.received_drainByte_header (hf : (s.link l).fifo = []) (hx : (s.link l).rx = .header x) (b : Byte) :
    (s.received l b).drainByte l b = (s.setLink l ((s.link l).covered b)).headerByte l x b := by
  unfold drainByte
  rw [setLink_link_self, hx]
  dsimp only
  rw [received_pop hf]

/-- A header byte on a link that has drained: where the state it leaves has nothing to drain, it is the next one. -/
theorem exec_headerByte {u : State} (hr : s.resetHeld = false) (hs : s.settled) (hw : s.waits l = false)
    (hx : (s.link l).rx = .header x) (hu : (s.setLink l ((s.link l).covered b)).headerByte l x b = u)
    (hsame : (s.setLink l ((s.link l).covered b)).SameWaits u) : exec (.byteArrives l b) s = .next u := by
  have hf := hs.fifo hw
  refine exec_byteArrives_of_settled hr hs hw (by simp [hx]) ((State.received_drainByte_header hf hx b).trans hu) ?_
  exact (State.setLink_settled (k := (s.link l).covered b) hs (.inl hf)).of_sameWaits hsame

theorem State.headerByte_plain (hbegin : b ≠ byteBegin) (hend : b ≠ byteEnd) (x : Header) : s.headerByte l x b =
    match x with
    | .unclassed => s.classByte l b
    | .copy c => s.copyHeaderByte l c b
    | .service v => s.serviceHeaderByte l v b :=
  (if_neg hbegin).trans (if_neg hend)

theorem State.headerByte_end (x : Header) : s.headerByte l x byteEnd = s.endInHeader l x := by
  unfold headerByte
  rw [if_neg (by decide), if_pos rfl]

/-- FORMAT recorded and counted (R9). -/
abbrev State.formatted (s : State) (l : LinkId) : State := (s.recordFault (linkSource l) .format).countLink l .formatFaults 1

theorem State.SameWaits.recordFault {t : State} (h : s.SameWaits t) (l : LinkId) (code : FaultCode)
    (hc : ∀ src : Fin 26, code.belongs src = decide (src.val < 8) := by intro; rfl) :
    s.SameWaits (t.recordFault (linkSource l) code) :=
  (faultKeeps_sameWaits s).recordFault (FaultCode.belongs_linkSource l hc) h

theorem State.SameWaits.setRx {t : State} (h : s.SameWaits t) (l : LinkId) (r : Rx) : s.SameWaits (t.setRx l r) :=
  modLink_sameWaits (fun _ => rfl) h

theorem State.SameWaits.countLink {t : State} (h : s.SameWaits t) (l : LinkId) (p : LinkPoint) (n : Nat) :
    s.SameWaits (t.countLink l p n) := modLink_sameWaits (fun _ => rfl) h

theorem State.SameWaits.formatted {t : State} (h : s.SameWaits t) (l : LinkId) : s.SameWaits (t.formatted l) :=
  (h.recordFault l .format).countLink l _ _

theorem State.setRx_setRx (s : State) (l : LinkId) (r r' : Rx) : (s.setRx l r).setRx l r' = s.setRx l r' :=
  s.modLink_modLink l _ _

/-- A byte that is malformed where it stands: no class, TEXT after no slug, a field or slug byte that is none, or a byte of
a service header that is no digit or one too many (R8, R9, R14). -/
def Header.Refuses (x : Header) (b : Byte) : Prop :=
  (x = .unclassed ∧ b ≠ 0x43 ∧ b ≠ 0x53) ∨
    (∃ h, x = .copy h ∧ b = byteText ∧ h.slug = []) ∨
    (∃ h, x = .copy h ∧ b ≠ byteText ∧ ((1 ≤ h.pos ∧ h.pos ≤ 5) ∨ h.pos = 8 ∨ h.pos = 9) ∧ decimalValue b = none) ∨
    (∃ h, x = .copy h ∧ b ≠ byteText ∧ 10 ≤ h.pos ∧ h.slug.length < 12 ∧ slugByte b = none) ∨
    ∃ v, x = .service v ∧ (hexValue b = none ∨ 138 ≤ v.digits.length)

theorem CopyHeader.field_number {h : CopyHeader} (hpos : (1 ≤ h.pos ∧ h.pos ≤ 5) ∨ h.pos = 8 ∨ h.pos = 9)
    (hb : decimalValue b = none) : h.field b = none := by
  unfold field
  rw [hb]
  split
  · rfl
  · split
    · rfl
    · rw [if_neg (by omega), if_neg (by omega)]
      split
      · rfl
      · rw [if_pos (by omega)]
        rfl

theorem CopyHeader.field_slug {h : CopyHeader} (hpos : 10 ≤ h.pos) (hlen : h.slug.length < 12) :
    h.field b = (slugByte b).map fun c => { h with pos := h.pos + 1, slug := h.slug ++ [c] } := by
  unfold field
  rw [if_neg (by omega), if_neg (by omega), if_neg (by omega), if_neg (by omega), if_neg (by omega), if_neg (by omega)]
  exact if_pos hlen

theorem State.headerByte_refuses (hbegin : b ≠ byteBegin) (hend : b ≠ byteEnd) (hx : x.Refuses b) :
    s.headerByte l x b = (s.formatted l).setRx l (.discarding false) := by
  rw [headerByte_plain hbegin hend]
  rcases hx with ⟨rfl, h43, h53⟩ | ⟨h, rfl, rfl, hslug⟩ | ⟨h, rfl, htext, hpos, hb⟩ | ⟨h, rfl, htext, hpos, hlen, hb⟩ |
    ⟨v, rfl, hv⟩
  · simp only [classByte, h43, h53, if_false]
    rfl
  · simp only [copyHeaderByte, if_true, hslug, List.isEmpty_nil]
    rfl
  · simp only [copyHeaderByte, htext, if_false, CopyHeader.field_number hpos hb]
    rfl
  · simp only [copyHeaderByte, htext, if_false, CopyHeader.field_slug hpos hlen, hb]
    rfl
  · simp only [serviceHeaderByte]
    cases hd : hexValue b with
    | none => rfl
    | some d =>
      have hlong : serviceHeaderDigits + Config.paramDigits < (v.digits ++ [d]).length := by
        have h138 : 138 ≤ v.digits.length := hv.resolve_left (by simp [hd])
        simpa [Config.paramDigits] using Nat.lt_succ_of_le h138
      simp only [serviceDigit, hlong, if_true]
      rfl

theorem pairDigits_length {ds : List Nat} {bs : List Byte} (h : pairDigits ds = some bs) : ds.length = 2 * bs.length := by
  induction bs generalizing ds with
  | nil =>
    match ds, h with
    | [], _ => rfl
    | hi :: lo :: rest, h => simp [pairDigits] at h
  | cons b bs ih =>
    match ds, h with
    | hi :: lo :: rest, h =>
      simp only [pairDigits, Option.map_eq_some_iff, List.cons.injEq] at h
      obtain ⟨cs, hcs, -, rfl⟩ := h
      simp only [List.length_cons, ih hcs]
      omega

/-- END comes too soon for a service header without a matched code, with fewer digits than the fixed ones, or with one
left over. -/
theorem ServiceHeader.request_none {v : ServiceHeader}
    (h : v.matched = none ∨ v.digits.length < 10 ∨ v.digits.length % 2 = 1) : v.request l = none := by
  unfold request
  split
  · rename_i m code kind serial hi lo params hm hd
    have hlen := pairDigits_length hd
    simp only [List.length_cons] at hlen
    rcases h with h | h | h
    · rw [hm] at h
      cases h
    all_goals omega
  · rfl

theorem State.endInHeader_refuses (hx : x = .unclassed ∨ (∃ h, x = .copy h) ∨
      ∃ v, x = .service v ∧ (v.matched = none ∨ v.digits.length < 10 ∨ v.digits.length % 2 = 1)) :
    s.endInHeader l x = (s.formatted l).setRx l (if (s.link l).profile.check then .discarding true else .idle) := by
  have hcheck : ((s.refuseFormat l).link l).profile.check = (s.link l).profile.check := by
    obtain ⟨rs, rate, he⟩ := s.recordFault_link (linkSource l) .format l
    simp [refuseFormat, setRx, countLink, Link.count, he]
  have hend : (s.refuseFormat l).endDiscarded l =
      (s.formatted l).setRx l (if (s.link l).profile.check then .discarding true else .idle) := by
    rw [endDiscarded, hcheck]
    exact setRx_setRx _ _ _ _
  rcases hx with rfl | ⟨h, rfl⟩ | ⟨v, rfl, hv⟩
  · exact hend
  · exact hend
  · simp only [endInHeader, ServiceHeader.request_none hv]
    exact hend

theorem State.completeHeader_duplicate {h : CopyHeader} (hd : (s.link l).profile.dupSuppress = true)
    (hm : h.serial ∈ (s.link l).recent) :
    s.completeHeader l h = (s.countLink l .duplicates 1).setRx l (.discarding false) := by
  unfold completeHeader
  exact if_pos ⟨hd, List.contains_iff_mem.2 hm⟩

theorem State.completeHeader_noRecord {h : CopyHeader}
    (hd : (s.link l).profile.dupSuppress = false ∨ h.serial ∉ (s.link l).recent)
    (hfree : 512 ≤ Takes.lowestFree s.store.takes 0) :
    s.completeHeader l h = (s.recordFault (linkSource l) .noRecord).setRx l (.discarding false) := by
  have hnone : s.allocate (h.take l (s.link l).profile.tag) = none := if_neg (Nat.not_lt.2 hfree)
  unfold completeHeader
  rw [if_neg, hnone]
  rintro ⟨hon, hm⟩
  rcases hd with hd | hd
  · simp [hon] at hd
  · exact hd (List.contains_iff_mem.1 hm)

theorem State.completeHeader_opens {h : CopyHeader}
    (hd : (s.link l).profile.dupSuppress = false ∨ h.serial ∉ (s.link l).recent)
    (hfree : Takes.lowestFree s.store.takes 0 < 512) :
    s.completeHeader l h = (s.putTake (Takes.lowestFree s.store.takes 0) (h.take l (s.link l).profile.tag)).setRx l
      (.text (Takes.lowestFree s.store.takes 0) false) := by
  have hsome : s.allocate (h.take l (s.link l).profile.tag) = some (Takes.lowestFree s.store.takes 0,
      s.putTake (Takes.lowestFree s.store.takes 0) (h.take l (s.link l).profile.tag)) := if_pos hfree
  unfold completeHeader
  rw [if_neg, hsome]
  rintro ⟨hon, hm⟩
  rcases hd with hd | hd
  · simp [hon] at hd
  · exact hd (List.contains_iff_mem.1 hm)

theorem State.copyHeaderByte_text {h : CopyHeader} (hslug : h.slug ≠ []) :
    s.copyHeaderByte l h byteText = s.completeHeader l h := by
  unfold copyHeaderByte
  rw [if_pos rfl, if_neg (by simpa using hslug)]

theorem State.misplacedBegin_header (hx : (s.link l).rx = .header x) :
    s.misplacedBegin l = (s.recordFault (linkSource l) .abandoned).modLink l fun k =>
      { k with crc := k.profile.init, rx := .header .unclassed } := by
  have habandon : s.abandonFrame l = (s.recordFault (linkSource l) .abandoned).setRx l .idle := by
    unfold abandonFrame
    rw [hx]
  rw [misplacedBegin, habandon, beginFrame, setRx, modLink_modLink]

end

/-! ### DISCARDING (R6, R9) -/

theorem State.received_drainByte_discarding {s : State} {l : LinkId} (hf : (s.link l).fifo = []) {due : Bool}
    (hx : (s.link l).rx = .discarding due) (b : Byte) :
    let k := s.link l
    let crc := if k.profile.check then crcByte k.profile.poly k.crc b else k.crc
    (s.received l b).drainByte l b = s.setLink l
      (if due then { k.stirred with rx := .idle }
      else if b = byteBegin then { k.stirred with crc := k.profile.init, rx := .header .unclassed }
      else if b = byteEnd then { k.stirred with crc := crc, rx := if k.profile.check then .discarding true else .idle }
      else { k.stirred with crc := crc }) := by
  have hrx : ((s.received l b).link l).rx = .discarding due := by simp [hx]
  unfold drainByte
  simp only [hrx]
  rw [received_pop hf, received_popUncovered hf]
  cases due with
  | true =>
    simp only [discardingByte, if_true]
    exact s.setLink_modLink l _ _
  | false =>
    simp only [discardingByte, Bool.false_eq_true, if_false]
    split
    · exact s.setLink_modLink l _ _
    · split
      · unfold endDiscarded setRx
        rw [setLink_link_self, setLink_modLink]
      · rfl

/-- Settles O12. -/
theorem headersRefused : Obligations.HeadersRefused := by
  refine ⟨fun s l x b hr hs hw hx => ?header, fun s l due b hr hs hw hx => ?discarding, fun s code => firstMatch_iff,
    fun b d => ⟨decimalValue_eq_some_iff b d, hexValue_eq_some_iff b d⟩⟩
  case discarding =>
    have hf := hs.fifo hw
    exact exec_byteArrives_of_settled hr hs hw (by simp [hx]) (State.received_drainByte_discarding hf hx b)
      (State.setLink_settled hs (.inl (by split_ifs <;> exact hf)))
  case header =>
    let heard := s.setLink l ((s.link l).covered b)
    have hnext {u : State} (hu : heard.headerByte l x b = u) (hsame : heard.SameWaits u) :
        exec (.byteArrives l b) s = .next u := exec_headerByte hr hs hw hx hu hsame
    have hsame : heard.SameWaits heard := .refl _
    have hheard : heard.link l = (s.link l).covered b := s.setLink_link_self l _
    refine ⟨fun hbegin hend hrefuses => ?refused, fun hend hshort => ?ended, fun hun hb hno => ?service,
      fun v hi lo hv hdigits hlo hmatch => ?station, fun h hh hb hslug hdup hmem => ?duplicate,
      fun h hh hb hslug hdup hfree => ?noRecord, fun hb => ?begins⟩
    case refused => exact hnext (State.headerByte_refuses hbegin hend hrefuses) ((hsame.formatted l).setRx l _)
    case ended =>
      refine hnext ?_ ((hsame.formatted l).setRx l _)
      have hcheck : (heard.link l).profile = (s.link l).profile := by rw [hheard]
      subst hend
      rw [State.headerByte_end, State.endInHeader_refuses hshort, hcheck]
      rfl
    case service =>
      refine hnext ?_ ((hsame.countLink l _ _).setRx l _)
      subst hun hb
      have hdenied : ¬((heard.link l).profile.check = true ∧ (heard.link l).profile.servicePermitted = true) := by
        rw [hheard, ← Bool.and_eq_true, hno]
        exact Bool.false_ne_true
      rw [State.headerByte_plain (by decide) (by decide)]
      exact (if_neg (by decide)).trans ((if_pos rfl).trans (if_neg hdenied))
    case station =>
      have hplain := plain_of_hexValue hlo
      refine hnext ?_ (hsame.setRx l _)
      subst hv
      rw [State.headerByte_plain hplain.1 hplain.2]
      have hno : heard.matchStation (16 * hi + lo) = none := hmatch
      simp only [State.serviceHeaderByte, hlo, State.serviceDigit, hdigits, List.cons_append, List.nil_append, hno]
      exact if_neg (show ¬138 < 2 by decide)
    case duplicate =>
      refine hnext ?_ ((hsame.countLink l _ _).setRx l _)
      subst hh hb
      rw [State.headerByte_plain (by decide) (by decide)]
      exact (State.copyHeaderByte_text hslug).trans
        (State.completeHeader_duplicate (by rw [hheard]; exact hdup) (by rw [hheard]; exact hmem))
    case noRecord =>
      refine hnext ?_ ((hsame.recordFault l .noRecord).setRx l _)
      subst hh hb
      rw [State.headerByte_plain (by decide) (by decide)]
      exact (State.copyHeaderByte_text hslug).trans
        (State.completeHeader_noRecord (by rw [hheard]; exact hdup) hfree)
    case begins =>
      refine hnext ?_ (State.modLink_sameWaits (fun _ => rfl) (hsame.recordFault l .abandoned))
      subst hb
      have hmisplaced : heard.headerByte l x byteBegin = heard.misplacedBegin l := if_pos rfl
      rw [hmisplaced, State.misplacedBegin_header (x := x) (by rw [hheard]; exact hx)]

end Sys2Proof.Machine
end

section
/-! Copy and service headers byte by byte: a run of header bytes leaves the header they spell (O7, O10). -/

namespace Sys2Proof.Machine

open Sys2Proof

/-! ### Runs of bytes -/

theorem State.arrivals_cons {s t : State} {l : LinkId} {b : Byte} {bs : List Byte}
    (h : exec (.byteArrives l b) s = .next t) : s.arrivals l (b :: bs) = t.arrivals l bs := by
  simp only [arrivals, h]

theorem State.arrivals_single {s t : State} {l : LinkId} {b : Byte} (h : exec (.byteArrives l b) s = .next t) :
    s.arrivals l [b] = some t := arrivals_cons h

/-- A link in a header, with a check value. -/
def Link.heading (k : Link) (crc : Byte) (x : Header) : Link :=
  { k with silenceTicks := 0, silent := false, crc := crc, rx := .header x }

/-- The check value of a link after bytes. -/
def Link.crcAfter (k : Link) (crc : Byte) (bs : List Byte) : Byte :=
  if k.profile.check then crcBytes k.profile.poly crc bs else crc

theorem Link.crcAfter_append (k : Link) (crc : Byte) (bs cs : List Byte) :
    k.crcAfter (k.crcAfter crc bs) cs = k.crcAfter crc (bs ++ cs) := by
  cases h : k.profile.check <;> simp [crcAfter, h, crcBytes]

theorem Link.crcAfter_nil (k : Link) (crc : Byte) : k.crcAfter crc [] = crc := by
  simp [crcAfter, crcBytes]

/-- A byte that is neither BEGIN nor END nor TEXT. -/
def Plain (b : Byte) : Prop := b ≠ byteBegin ∧ b ≠ byteEnd ∧ b ≠ byteText

theorem plain_of_lt {b : Byte} (h : 3 < b.toNat) : Plain b := by
  have hbegin : byteBegin.toNat = 1 := rfl
  have htext : byteText.toNat = 2 := rfl
  have hend : byteEnd.toNat = 3 := rfl
  refine ⟨?_, ?_, ?_⟩ <;> (rintro rfl; omega)

section

variable {s : State} {l : LinkId} (hr : s.resetHeld = false) (hs : s.settled) (hw : s.waits l = false)
  (hf : (s.link l).fifo = [])
include hr hs hw hf

theorem State.arrivals_begin {bs : List Byte} (hx : (s.link l).rx = .idle) : s.arrivals l (byteBegin :: bs) =
    (s.setLink l ((s.link l).heading (s.link l).profile.init .unclassed)).arrivals l bs :=
  arrivals_cons (exec_byteArrives_of_settled hr hs hw (by simp [hx])
    ((State.received_drainByte_idle hf hx byteBegin).trans (by rw [if_pos rfl]; rfl)) (State.setLink_settled hs (.inl hf)))

/-- A header byte that puts the link in another state, where header and link profile decide which. -/
theorem State.exec_heading {x : Header} {r : Rx} {b crc : Byte}
    (hstep : ∀ k : Link, k.profile = (s.link l).profile →
      (s.setLink l k).headerByte l x b = (s.setLink l k).setRx l r) :
    exec (.byteArrives l b) (s.setLink l ((s.link l).heading crc x)) = .next (s.setLink l
      { (s.link l) with silenceTicks := 0, silent := false, crc := (s.link l).crcAfter crc [b], rx := r }) := by
  let k := (s.link l).heading crc x
  have hheard : (s.setLink l k).setLink l (((s.setLink l k).link l).covered b) = s.setLink l (k.covered b) := by
    rw [setLink_link_self, setLink_setLink]
  have hnext : s.setLink l { (s.link l) with
        silenceTicks := 0, silent := false, crc := (s.link l).crcAfter crc [b], rx := r } =
      (s.setLink l (k.covered b)).setRx l r := (s.setLink_modLink l (k.covered b) fun k => { k with rx := r }).symm
  rw [hnext]
  refine exec_headerByte (x := x) hr (setLink_settled hs (.inl hf)) hw (by simp [Link.heading]) ?_ ?_
  · rw [hheard]
    exact hstep _ rfl
  · rw [hheard]
    exact modLink_sameWaits (fun _ => rfl) (.refl _)

/-- A byte that takes one header to another. -/
theorem State.arrivals_header {x y : Header} {b crc : Byte} {bs : List Byte}
    (hstep : ∀ k : Link, k.profile = (s.link l).profile →
      (s.setLink l k).headerByte l x b = (s.setLink l k).setRx l (.header y)) :
    (s.setLink l ((s.link l).heading crc x)).arrivals l (b :: bs) =
      (s.setLink l ((s.link l).heading ((s.link l).crcAfter crc [b]) y)).arrivals l bs :=
  arrivals_cons (exec_heading hr hs hw hf hstep)

/-! ### Copy headers -/

/-- The header fields that bytes make. -/
def CopyHeader.fields (h : CopyHeader) (bs : List Byte) : Option CopyHeader := bs.foldlM CopyHeader.field h

omit hr hs hw hf in
theorem State.headerByte_field {h h' : CopyHeader} {b : Byte} (hb : Plain b) (hfield : h.field b = some h') :
    s.headerByte l (.copy h) b = s.setRx l (.header (.copy h')) := by
  obtain ⟨hbegin, hend, htext⟩ := hb
  rw [headerByte_plain hbegin hend]
  simp only [copyHeaderByte, htext, if_false, hfield]

theorem State.arrivals_fields {h h' : CopyHeader} {bs rest : List Byte} {crc : Byte} (hb : ∀ b ∈ bs, Plain b)
    (hfields : h.fields bs = some h') :
    (s.setLink l ((s.link l).heading crc (.copy h))).arrivals l (bs ++ rest) =
      (s.setLink l ((s.link l).heading ((s.link l).crcAfter crc bs) (.copy h'))).arrivals l rest := by
  induction bs generalizing h crc with
  | nil =>
    cases hfields
    rw [Link.crcAfter_nil, List.nil_append]
  | cons b bs ih =>
    simp only [CopyHeader.fields, List.foldlM_cons, Option.bind_eq_bind, Option.bind_eq_some_iff] at hfields
    obtain ⟨h1, hfield, hrest⟩ := hfields
    rw [List.cons_append, arrivals_header hr hs hw hf fun k _ => headerByte_field (hb b List.mem_cons_self) hfield,
      ih (fun c hc => hb c (List.mem_cons_of_mem _ hc)) hrest, Link.crcAfter_append]
    rfl

end

theorem decimalValue_digitByte (n : Nat) : decimalValue (digitByte n) = some (n % 10) := by
  have hlt : n % 10 < 10 := Nat.mod_lt _ (by decide)
  rw [decimalValue_eq_some_iff, digitByte, BitVec.toNat_ofNat]
  omega

theorem plain_digitByte (n : Nat) : Plain (digitByte n) := by
  have hdigit := (decimalValue_eq_some_iff _ _).1 (decimalValue_digitByte n)
  exact plain_of_lt (by omega)

/-- The bytes of a copy header before its slug (R8). -/
def headerFields (d serial : Nat) (cat disp : Byte) (part : Nat) : List Byte :=
  [digitByte d, digitByte (serial / 1000), digitByte (serial / 100), digitByte (serial / 10), digitByte serial, cat, disp,
    digitByte (part / 10), digitByte part]

theorem CopyHeader.fields_fresh {d serial part : Nat} (hd : d < 10) (hserial : serial < 10000) (hpart : part < 100)
    (cat disp : Byte) : CopyHeader.fresh.fields (headerFields d serial cat disp part) =
      some { pos := 10, prio := .ofNum d, serial := serial, category := categoryOf cat, disp := dispositionOf disp
             part := max 1 part, slug := [] } := by
  have hdigits : 10 * (10 * (10 * (10 * 0 + serial / 1000 % 10) + serial / 100 % 10) + serial / 10 % 10) + serial % 10 =
      serial := by omega
  have hpair : 10 * (part / 10 % 10) + part % 10 = part := by omega
  simp [fields, headerFields, field, fresh, decimalValue_digitByte, Nat.mod_eq_of_lt hd, hpair] at hdigits ⊢
  exact hdigits

theorem slugByte_eq (b : Byte) : slugByte b =
    (if decide (0x41 ≤ b.toNat ∧ b.toNat ≤ 0x5A) || decide ((0x30 ≤ b.toNat ∧ b.toNat ≤ 0x39) ∨ b = 0x2D) then some b
      else if decide (0x61 ≤ b.toNat ∧ b.toNat ≤ 0x7A) then some (b - 0x20) else none) := by
  have hall : ∀ n : Fin 256, let b : Byte := BitVec.ofFin n; slugByte b =
    (if decide (0x41 ≤ b.toNat ∧ b.toNat ≤ 0x5A) || decide ((0x30 ≤ b.toNat ∧ b.toNat ≤ 0x39) ∨ b = 0x2D) then some b
      else if decide (0x61 ≤ b.toNat ∧ b.toNat ≤ 0x7A) then some (b - 0x20) else none) := by decide +kernel
  exact hall b.toFin

theorem categoryOf_val (b : Byte) : (categoryOf b).val =
    (if decide (0x41 ≤ b.toNat ∧ b.toNat ≤ 0x5A) then b.toNat - 0x41
      else if decide (0x61 ≤ b.toNat ∧ b.toNat ≤ 0x7A) then b.toNat - 0x61 else 26) := by
  have hall : ∀ n : Fin 256, let b : Byte := BitVec.ofFin n; (categoryOf b).val =
    (if decide (0x41 ≤ b.toNat ∧ b.toNat ≤ 0x5A) then b.toNat - 0x41
      else if decide (0x61 ≤ b.toNat ∧ b.toNat ≤ 0x7A) then b.toNat - 0x61 else 26) := by decide +kernel
  exact hall b.toFin

theorem slugByte_isSome {c : Byte} (h : (slugByte c).isSome = true) : slugByte c = some (fold c) ∧ Plain c := by
  have hall : ∀ n : Fin 256, let c : Byte := BitVec.ofFin n; (slugByte c).isSome = true → 3 < c.toNat := by decide +kernel
  refine ⟨?_, plain_of_lt (hall c.toFin h)⟩
  unfold slugByte at h ⊢
  split at h
  · exact if_pos ‹_›
  · cases h

theorem CopyHeader.fields_slug {h : CopyHeader} {slug : List Byte} (hpos : 10 ≤ h.pos)
    (hlen : h.slug.length + slug.length ≤ 12) (hslug : ∀ c ∈ slug, (slugByte c).isSome = true) :
    h.fields slug = some { h with pos := h.pos + slug.length, slug := h.slug ++ slug.map fold } := by
  induction slug generalizing h with
  | nil => simp [fields]
  | cons c cs ih =>
    simp only [List.length_cons] at hlen
    have hfield := CopyHeader.field_slug (h := h) (b := c) hpos (by omega)
    rw [(slugByte_isSome (hslug c List.mem_cons_self)).1, Option.map_some] at hfield
    have hrest := ih (h := { h with pos := h.pos + 1, slug := h.slug ++ [fold c] }) (by simp only; omega)
      (by simp only [List.length_append, List.length_singleton]; omega) fun b hb => hslug b (List.mem_cons_of_mem _ hb)
    rw [fields] at hrest ⊢
    rw [List.foldlM_cons, hfield, Option.bind_eq_bind, Option.bind_some, hrest]
    simp only [List.length_cons, List.map_cons, List.append_assoc, List.singleton_append]
    congr 2
    omega

theorem State.headerByte_class {s : State} {l : LinkId} :
    s.headerByte l .unclassed 0x43#8 = s.setRx l (.header (.copy .fresh)) := rfl

/-- Settles O10. -/
theorem copyHeaderOpensTake : Obligations.CopyHeaderOpensTake := by
  refine ⟨?opens, fun b => ⟨categoryOf_val b, slugByte_eq b⟩⟩
  intro s l d serial cat disp part slug hr hall hw hx hcat hdisp hne hlen hslug hdup hfree
  have hs : s.settled := fun m => .inl (hall m)
  have hf := hall l
  have hplain {b : Byte} (hb : 3 < b.toNat ∨ b = 0) : Plain b := by
    rcases hb with hb | rfl
    · exact plain_of_lt hb
    · exact ⟨by decide, by decide, by decide⟩
  let k := s.link l
  let fs := headerFields d.val serial.val cat disp part.val
  let h : CopyHeader :=
    { pos := 10 + slug.length, prio := .ofNum d.val, serial := serial.val, category := categoryOf cat
      disp := dispositionOf disp, part := max 1 part.val, slug := slug.map fold }
  have hfields : CopyHeader.fresh.fields (fs ++ slug) = some h := by
    have hhead := CopyHeader.fields_fresh d.isLt serial.isLt part.isLt cat disp
    rw [CopyHeader.fields] at hhead ⊢
    rw [List.foldlM_append, hhead, Option.bind_eq_bind, Option.bind_some]
    exact CopyHeader.fields_slug le_rfl (by simpa using hlen) hslug
  have hbytes : ∀ b ∈ fs ++ slug, Plain b := by
    intro b hb
    rcases List.mem_append.1 hb with hb | hb
    · simp only [fs, headerFields, List.mem_cons, List.not_mem_nil, or_false] at hb
      rcases hb with rfl | rfl | rfl | rfl | rfl | rfl | rfl | rfl | rfl
      case inr.inr.inr.inr.inr.inl => exact hplain hcat
      case inr.inr.inr.inr.inr.inr.inl => exact hplain hdisp
      all_goals exact plain_digitByte _
    · exact (slugByte_isSome (hslug b hb)).2
  have hrun : s.arrivals l (byteBegin :: 0x43#8 :: ((fs ++ slug) ++ [byteText])) =
      (s.setLink l (k.heading (k.crcAfter k.profile.init ([0x43#8] ++ (fs ++ slug))) (.copy h))).arrivals l [byteText] := by
    rw [State.arrivals_begin hr hs hw hf hx, State.arrivals_header hr hs hw hf fun k _ => State.headerByte_class,
      State.arrivals_fields hr hs hw hf hbytes hfields, Link.crcAfter_append]
  let heading := k.heading (k.crcAfter k.profile.init ([0x43#8] ++ (fs ++ slug))) (.copy h)
  let n := Takes.lowestFree s.store.takes 0
  let heard : State := s.setLink l (heading.covered byteText)
  have hheard : (s.setLink l heading).setLink l (((s.setLink l heading).link l).covered byteText) = heard := by
    rw [State.setLink_link_self, State.setLink_setLink]
  have hlink : heard.link l = heading.covered byteText := s.setLink_link_self l _
  have htext : heard.headerByte l (.copy h) byteText =
      (heard.putTake n (h.take l (heard.link l).profile.tag)).setRx l (.text n false) :=
    (State.headerByte_plain (by decide) (by decide) _).trans
      ((State.copyHeaderByte_text (by simpa [h] using hne)).trans
        (State.completeHeader_opens (by rw [hlink]; exact hdup) hfree))
  have hlast : (s.setLink l heading).arrivals l [byteText] =
      some ((heard.putTake n (h.take l k.profile.tag)).setRx l (.text n false)) := by
    refine State.arrivals_single (exec_headerByte (x := .copy h) hr (State.setLink_settled hs (.inl hf)) hw
      (by simp [heading, Link.heading]) ?_ ?_)
    · rw [hheard, htext, hlink]
      rfl
    · rw [hheard]
      exact State.modLink_sameWaits (fun _ => rfl) (.refl heard)
  refine (hrun.trans hlast).trans (congrArg some ?_)
  have hlate : (heard.putTake n (h.take l k.profile.tag)).setRx l (.text n false) =
      (heard.setRx l (.text n false)).putTake n (h.take l k.profile.tag) := rfl
  rw [hlate, State.setRx, State.setLink_modLink]
  have hcrc : (heading.covered byteText).crc = k.crcAfter k.profile.init ([0x43#8] ++ (fs ++ slug) ++ [byteText]) := by
    rw [← Link.crcAfter_append]
    rfl
  exact congrArg (fun crc : Byte => (s.setLink l
    { k with silenceTicks := 0, silent := false, rx := .text n false, crc := crc }).putTake n (h.take l k.profile.tag)) hcrc

end Sys2Proof.Machine
end

section
/-! A service frame byte by byte has the effect of the request it spells (O7). -/

namespace Sys2Proof.Machine

open Sys2Proof

/-! ### Digits of a service header (R14, R15) -/

/-- The halves of bytes, high half first: the digits that spell them. -/
def halves (bs : List Byte) : List Nat := bs.flatMap fun b => [b.toNat / 16, b.toNat % 16]

theorem halves_length (bs : List Byte) : (halves bs).length = 2 * bs.length := by
  induction bs with
  | nil => rfl
  | cons b bs ih =>
    have hcons : halves (b :: bs) = b.toNat / 16 :: b.toNat % 16 :: halves bs := rfl
    simp only [hcons, List.length_cons, ih]
    omega

theorem State.headerByte_digit {s : State} {l : LinkId} {v : ServiceHeader} {b : Byte} {d : Nat}
    (hb : hexValue b = some d) : s.headerByte l (.service v) b = s.serviceDigit l v d := by
  obtain ⟨hbegin, hend⟩ := plain_of_hexValue hb
  rw [headerByte_plain hbegin hend]
  simp only [serviceHeaderByte, hb]

theorem State.serviceDigit_first {s : State} {l : LinkId} {v : ServiceHeader} (hv : v.digits = []) (d : Nat) :
    s.serviceDigit l v d = s.setRx l (.header (.service { v with digits := [d] })) := by
  unfold serviceDigit
  rw [hv]
  exact if_neg (show ¬138 < 1 by decide)

theorem State.serviceDigit_matched {s : State} {l : LinkId} {v : ServiceHeader} {hi lo : Nat} {m : MatchCode}
    (hv : v.digits = [hi]) (hm : s.matchStation (16 * hi + lo) = some m) :
    s.serviceDigit l v lo = s.setRx l (.header (.service { matched := some m, digits := [hi, lo] })) := by
  unfold serviceDigit
  rw [hv]
  refine (if_neg (show ¬138 < 2 by decide)).trans ?_
  simp only [List.cons_append, List.nil_append, hm]

theorem State.serviceDigit_later {s : State} {l : LinkId} {v : ServiceHeader} (hlong : 2 ≤ v.digits.length)
    (hroom : v.digits.length < 138) (d : Nat) :
    s.serviceDigit l v d = s.setRx l (.header (.service { v with digits := v.digits ++ [d] })) := by
  unfold serviceDigit
  refine (if_neg ?_).trans ?_
  · rw [List.length_append]
    exact Nat.not_lt.2 hroom
  · split
    · rename_i hi lo heq
      have hlen := congrArg List.length heq
      simp only [List.length_append, List.length_cons, List.length_nil] at hlen
      omega
    · rfl

section

variable {s : State} {l : LinkId} (hr : s.resetHeld = false) (hs : s.settled) (hw : s.waits l = false)
  (hf : (s.link l).fifo = [])
include hr hs hw hf

theorem State.arrivals_digits {v : ServiceHeader} {bs : List Byte} {ds : List Nat} {rest : List Byte} {crc : Byte}
    (hds : bs.mapM hexValue = some ds) (hlong : 2 ≤ v.digits.length) (hroom : v.digits.length + ds.length ≤ 138) :
    (s.setLink l ((s.link l).heading crc (.service v))).arrivals l (bs ++ rest) =
      (s.setLink l ((s.link l).heading ((s.link l).crcAfter crc bs)
        (.service { v with digits := v.digits ++ ds }))).arrivals l rest := by
  induction bs generalizing v ds crc with
  | nil =>
    cases hds
    rw [Link.crcAfter_nil, List.nil_append]
    simp
  | cons b bs ih =>
    simp only [List.mapM_cons, Option.bind_eq_bind, Option.bind_eq_some_iff, Option.pure_def, Option.some.injEq] at hds
    obtain ⟨d, hd, es, hes, rfl⟩ := hds
    simp only [List.length_cons] at hroom
    have hstep (k : Link) (_ : k.profile = (s.link l).profile) : (s.setLink l k).headerByte l (.service v) b =
        (s.setLink l k).setRx l (.header (.service { v with digits := v.digits ++ [d] })) :=
      (headerByte_digit hd).trans (serviceDigit_later hlong (by omega) d)
    rw [List.cons_append, arrivals_header hr hs hw hf hstep, ih hes (by simp only [List.length_append]; omega)
      (by simp only [List.length_append, List.length_singleton]; omega), Link.crcAfter_append]
    simp only [List.append_assoc, List.singleton_append]

/-- The first two digits are those of the station code, which matches (R15). -/
theorem State.arrivals_station {code : Byte} {m : MatchCode} {rest : List Byte} {crc : Byte}
    (hm : s.matchStation code.toNat = some m) :
    (s.setLink l ((s.link l).heading crc (.service { matched := none, digits := [] }))).arrivals l (hexByte code ++ rest) =
      (s.setLink l ((s.link l).heading ((s.link l).crcAfter crc (hexByte code))
        (.service { matched := some m, digits := halves [code] }))).arrivals l rest := by
  have hhi : hexValue (hexDigit (code.toNat / 16)) = some (code.toNat / 16) := hexValue_hexDigit (by omega)
  have hlo : hexValue (hexDigit (code.toNat % 16)) = some (code.toNat % 16) := hexValue_hexDigit (by omega)
  have hfirst (k : Link) (_ : k.profile = (s.link l).profile) := (headerByte_digit (s := s.setLink l k) (l := l) hhi).trans
    (serviceDigit_first (v := { matched := none, digits := [] }) rfl _)
  have hsecond (k : Link) (_ : k.profile = (s.link l).profile) : (s.setLink l k).headerByte l
      (.service { matched := none, digits := [code.toNat / 16] }) (hexDigit (code.toNat % 16)) =
      (s.setLink l k).setRx l (.header (.service { matched := some m, digits := halves [code] })) :=
    (headerByte_digit hlo).trans (serviceDigit_matched rfl (by rw [Nat.div_add_mod]; exact hm))
  have hcode : hexByte code ++ rest = hexDigit (code.toNat / 16) :: hexDigit (code.toNat % 16) :: rest := rfl
  rw [hcode, arrivals_header hr hs hw hf hfirst, arrivals_header hr hs hw hf hsecond, Link.crcAfter_append]
  rfl

end

/-! ### The end of a service frame (R14) -/

theorem timeCheck_num2 (h : ReqHead) : ∃ hi lo : Byte, num2 h.timeCheck.toNat = [hi, lo] ∧
    256 * hi.toNat + lo.toNat = h.timeCheck.toNat := by
  refine ⟨_, _, rfl, ?_⟩
  have := h.timeCheck.isLt
  simp only [BitVec.toNat_ofNat]
  omega

/-- The bytes that a request's frame spells after its class (R184). -/
def requestBytes (h : ReqHead) (code kind : Byte) (ps : List Byte) : List Byte :=
  code :: kind :: h.serial :: num2 h.timeCheck.toNat ++ ps

theorem request_requestBytes (h : ReqHead) (code kind : Byte) (ps : List Byte) :
    ServiceHeader.request { matched := some h.matched, digits := halves (requestBytes h code kind ps) } h.link =
      some (ReqHead.request h kind ps) := by
  obtain ⟨hi, lo, hnum, hvalue⟩ := timeCheck_num2 h
  have hpairs : pairDigits (halves (requestBytes h code kind ps)) = some (code :: kind :: h.serial :: hi :: lo :: ps) := by
    rw [halves, pairDigits_halves, requestBytes, hnum]
    rfl
  unfold ServiceHeader.request
  simp only [hpairs, hvalue, ReqHead.request]

/-- The check byte of a service frame, where it agrees, hands the request over (R14, R154). -/
theorem State.received_drainByte_checkService {s : State} {l : LinkId} {r : Request} (hf : (s.link l).fifo = [])
    (hx : (s.link l).rx = .checkService r) :
    (s.received l (s.link l).crc).drainByte l (s.link l).crc =
      (s.setLink l { (s.link l).stirred with rx := .idle }).handOver r := by
  have hrx : ((s.received l (s.link l).crc).link l).rx = .checkService r := by simp [hx]
  unfold drainByte
  simp only [hrx]
  rw [received_popUncovered hf, checkServiceByte, if_pos (by simp), setRx, setLink_modLink]

theorem State.request_of_released {s : State} (hr : s.resetHeld = false) (h : ReqHead) (kind : Byte) (ps : List Byte) :
    s.request h kind ps = (s.handOver (ReqHead.request h kind ps)).settle := by
  unfold request
  rw [live_of_released hr]

/-- Settles O7. -/
theorem serviceFrameRunsRequest : Obligations.ServiceFrameRunsRequest := by
  intro s h code kind ps hr hall hw hx hcheck hpermit hmatch hlen body poly init
  have hs : s.settled := fun m => .inl (hall m)
  have hf := hall h.link
  let k := s.link h.link
  have hrest : (hexBytes (kind :: h.serial :: num2 h.timeCheck.toNat ++ ps)).mapM hexValue =
      some (halves (kind :: h.serial :: num2 h.timeCheck.toNat ++ ps)) := mapM_hexValue_hexBytes _
  have hcount : (halves (kind :: h.serial :: num2 h.timeCheck.toNat ++ ps)).length ≤ 136 := by
    simp only [halves_length, List.length_append, List.length_cons, num2, List.length_nil]
    omega
  have hclass (c : Link) (hc : c.profile = k.profile) : (s.setLink h.link c).headerByte h.link .unclassed 0x53#8 =
      (s.setLink h.link c).setRx h.link (.header (.service { matched := none, digits := [] })) := by
    have hpermitted : ((s.setLink h.link c).link h.link).profile.check = true ∧
        ((s.setLink h.link c).link h.link).profile.servicePermitted = true := by
      rw [State.setLink_link_self, hc]
      exact ⟨hcheck, hpermit⟩
    exact (State.headerByte_plain (by decide) (by decide) _).trans
      ((if_neg (by decide)).trans ((if_pos rfl).trans (if_pos hpermitted)))
  let crc := k.crcAfter init body
  let v : ServiceHeader := { matched := some h.matched, digits := halves (requestBytes h code kind ps) }
  have hrun (rest : List Byte) : s.arrivals h.link (byteBegin :: (body ++ rest)) =
      (s.setLink h.link (k.heading crc (.service v))).arrivals h.link rest := by
    have hbody : body ++ rest = 0x53#8 :: (hexByte code ++ (hexBytes (kind :: h.serial :: num2 h.timeCheck.toNat ++ ps) ++ rest)) :=
      rfl
    rw [hbody, State.arrivals_begin hr hs hw hf hx, State.arrivals_header hr hs hw hf hclass,
      State.arrivals_station hr hs hw hf hmatch, State.arrivals_digits hr hs hw hf hrest (by simp [halves_length])
        (by simp only [halves_length, List.length_singleton] at hcount ⊢; omega), Link.crcAfter_append, Link.crcAfter_append]
    rfl
  let final := crcBytes poly init (body ++ [byteEnd])
  have hfinal : k.crcAfter crc [byteEnd] = final := by
    rw [Link.crcAfter_append]
    exact if_pos hcheck
  let awaiting : Link :=
    { k with silenceTicks := 0, silent := false, crc := final, rx := .checkService (ReqHead.request h kind ps) }
  have hend : exec (.byteArrives h.link byteEnd) (s.setLink h.link (k.heading crc (.service v))) =
      .next (s.setLink h.link awaiting) := by
    have hstep (c : Link) (_ : c.profile = k.profile) : (s.setLink h.link c).headerByte h.link (.service v) byteEnd =
        (s.setLink h.link c).setRx h.link (.checkService (ReqHead.request h kind ps)) := by
      rw [State.headerByte_end]
      unfold State.endInHeader
      simp only [v, request_requestBytes]
    have hexec := State.exec_heading (crc := crc) hr hs hw hf hstep
    rw [hfinal] at hexec
    exact hexec
  have hcheckByte : exec (.byteArrives h.link final) (s.setLink h.link awaiting) =
      .next ((s.modLink h.link fun k => { k with silenceTicks := 0, silent := false, crc := final }).request h kind ps) := by
    let waiting := s.setLink h.link awaiting
    have hlink : waiting.link h.link = awaiting := s.setLink_link_self h.link awaiting
    have hdrain := State.received_drainByte_checkService (s := waiting) (l := h.link)
      (r := ReqHead.request h kind ps) (by rw [hlink]; exact hf) (by rw [hlink])
    have hidle : waiting.setLink h.link { (waiting.link h.link).stirred with rx := .idle } =
        s.modLink h.link fun k => { k with silenceTicks := 0, silent := false, crc := final } := by
      rw [hlink, State.setLink_setLink, State.modLink, ← hx]
    rw [hidle, hlink] at hdrain
    refine (exec_byteArrives (s := waiting) hr (State.setLink_settled hs (.inl hf)) hw
      (by rw [hlink]; exact Rx.noConfusion) final).trans ?_
    rw [hdrain]
    exact congrArg Host.Outcome.next (State.request_of_released (s := s.modLink h.link fun k =>
      { k with silenceTicks := 0, silent := false, crc := final }) hr h kind ps).symm
  have hframe : composeFrame poly init body = byteBegin :: (body ++ [byteEnd, final]) := rfl
  rw [hframe, hrun, State.arrivals_cons hend, State.arrivals_single hcheckByte]

end Sys2Proof.Machine
end

section
/-! Takes accepted, serial tracking, and the silence and hold timers (O11, O14, O16). -/

namespace Sys2Proof.Machine

open Sys2Proof

/-! ### Serial tracking (R16) -/

theorem joinRecent_eq (recent : List Nat) (serial : Nat) : joinRecent recent serial =
    (recent.filter (· != serial)).drop ((recent.filter (· != serial)).length + 1 - 16) ++ [serial] := by
  simp only [joinRecent, List.length_append, List.length_singleton]
  exact List.drop_append_of_le_length (by simp only [Config.recentSerials]; omega)

theorem filter_ne_of_not_mem {recent : List Nat} {serial : Nat} (h : serial ∉ recent) :
    recent.filter (· != serial) = recent :=
  List.filter_eq_self.2 fun _ hn => bne_iff_ne.2 fun he => h (he ▸ hn)

/-- A serial already in the set moves to its newest place. -/
theorem joinRecent_of_mem {recent : List Nat} {serial : Nat} (h : serial ∈ recent) (hlen : recent.length ≤ 16) :
    joinRecent recent serial = recent.filter (· != serial) ++ [serial] := by
  have hlt : (recent.filter (· != serial)).length < recent.length :=
    List.length_filter_lt_length_iff_exists.2 ⟨serial, h, by simp⟩
  rw [joinRecent_eq, Nat.sub_eq_zero_of_le (by omega), List.drop_zero]

theorem joinRecent_of_room {recent : List Nat} {serial : Nat} (h : serial ∉ recent) (hlen : recent.length < 16) :
    joinRecent recent serial = recent ++ [serial] := by
  rw [joinRecent_eq, filter_ne_of_not_mem h, Nat.sub_eq_zero_of_le (by omega), List.drop_zero]

theorem joinRecent_of_full {recent : List Nat} {serial : Nat} (h : serial ∉ recent) (hlen : recent.length = 16) :
    joinRecent recent serial = recent.tail ++ [serial] := by
  rw [joinRecent_eq, filter_ne_of_not_mem h, hlen, List.drop_one]

theorem State.testSerial_recent (s : State) (l : LinkId) (serial : Nat) :
    ((s.testSerial l serial).link l).recent = (s.link l).recent := by
  have hfault (code : FaultCode) : ((s.recordFault (linkSource l) code).link l).recent = (s.link l).recent := by
    obtain ⟨rs, rate, h⟩ := s.recordFault_link (linkSource l) code l
    rw [h]
  unfold testSerial
  split
  · rfl
  · split
    · rfl
    · split
      · rw [countLink, modLink_link_self]
        exact hfault _
      · exact hfault _

theorem State.trackSerial_eq (s : State) (l : LinkId) (serial : Nat) : s.trackSerial l serial =
    (s.testSerial l serial).modLink l fun k =>
      { k with expected := some ((serial + 1) % 10000), recent := joinRecent (s.link l).recent serial } := by
  rw [trackSerial, modLink, modLink, testSerial_recent]

/-- The serial tests by the distance from the expected serial. -/
theorem State.testSerial_of_distance {s : State} {l : LinkId} {e : Nat} (he : (s.link l).expected = some e) (serial : Nat) :
    s.testSerial l serial =
      if serialDistance serial e = 0 then s
      else if serialDistance serial e ≤ 4999 then
        (s.recordFault (linkSource l) .serialGap).countLink l .serialGap (serialDistance serial e)
      else s.recordFault (linkSource l) .serialRestart := by
  unfold testSerial
  rw [he]

theorem serialDistance_of_ahead {e d : Nat} (he : e < 10000) (hd : d < 10000) : serialDistance ((e + d) % 10000) e = d := by
  unfold serialDistance
  omega

/-- Settles O14. -/
theorem serialTracking : Obligations.SerialTracking := by
  intro s l serial hserial
  refine ⟨s.testSerial l serial, ⟨_, s.trackSerial_eq l serial, ?newest, fun h hlen => ⟨joinRecent_nodup serial h,
    joinRecent_length _ serial⟩, joinRecent_of_mem, joinRecent_of_room, joinRecent_of_full⟩, fun he => ?unset, ?tests⟩
  case newest => rw [joinRecent_eq, List.getLast?_concat]
  case unset =>
    unfold State.testSerial
    rw [he]
  case tests =>
    intro e hlt he
    rw [State.testSerial_of_distance he]
    refine ⟨fun heq => if_pos ?_, fun d h1 h4999 hd => ?_, fun d h5000 h9999 hd => ?_⟩
    · rw [serialDistance, heq]
      omega
    · rw [hd, serialDistance_of_ahead hlt (by omega), if_neg (by omega), if_pos h4999]
    · rw [hd, serialDistance_of_ahead hlt (by omega), if_neg (by omega), if_neg (by omega)]

/-! ### Takes accepted and discarded (R13, R35, R36) -/

theorem Takes.put_put (ts : List (Nat × Take)) (h : Nat) (t u : Take) :
    Takes.put (Takes.put ts h t) h u = Takes.put ts h u := by
  induction ts with
  | nil => simp [Takes.put]
  | cons e rest ih =>
    obtain ⟨k, v⟩ := e
    by_cases hlt : h < k
    · simp [Takes.put, hlt]
    · by_cases heq : h = k
      · subst heq
        simp [Takes.put]
      · simp [Takes.put, hlt, heq, ih]

theorem State.putTake_putTake (s : State) (h : Nat) (t u : Take) : (s.putTake h t).putTake h u = s.putTake h u := by
  simp [putTake, modStore, Takes.put_put]

theorem State.modTake_of_take {s : State} {h : Nat} {t : Take} (ht : s.take? h = some t) (f : Take → Take) :
    s.modTake h f = s.putTake h (f t) := by
  unfold modTake
  rw [ht]

theorem State.modTake_accept {s : State} {l : LinkId} {h : Nat} {t : Take} (ht : s.take? h = some t) (f : Take → Take)
    (hserial : (f t).serial = t.serial) :
    (s.modTake h f).accept l h = (((s.putTake h
      { f t with state := .ready, readyTime := some s.ms, readyClock := some (s.clock.hours, s.clock.minutes), refs := 0 }
      ).trackSerial l t.serial).countLink l .takesAccepted 1).route h := by
  have hput : (s.putTake h (f t)).take? h = some (f t) := take?_putTake_self s h (f t)
  rw [modTake_of_take ht]
  unfold accept
  simp only [hput]
  rw [stampReady, modTake_of_take hput, putTake_putTake, hserial]
  rfl

theorem State.accept_of_take {s : State} {l : LinkId} {h : Nat} {t : Take} (ht : s.take? h = some t) :
    s.accept l h = (((s.putTake h
      { t with state := .ready, readyTime := some s.ms, readyClock := some (s.clock.hours, s.clock.minutes), refs := 0 }
      ).trackSerial l t.serial).countLink l .takesAccepted 1).route h := by
  unfold accept
  simp only [ht]
  rw [stampReady, modTake_of_take ht]

theorem State.runArbiter_of_empty {s : State} (hw : s.store.waiting = []) : s.runArbiter = s := by
  rw [runArbiter, hw]
  rfl

theorem State.testLowExit_of_notLow {s : State} (h : s.store.low = false) : s.testLowExit = s := by
  unfold testLowExit
  exact if_neg fun hlow => by simp [h] at hlow

theorem State.returnSegments_quiet {s : State} (hw : s.store.waiting = []) (hlow : s.store.low = false) (n : Nat) :
    s.returnSegments n = s.modStore fun st => { st with free := st.free + n } := by
  unfold returnSegments
  split
  · rename_i h
    subst h
    rfl
  · rw [testLowExit_of_notLow (by exact hlow), runArbiter_of_empty (by exact hw)]

/-- A record freed where no link waits and the store is not in LOW: its segments return, and nothing follows. -/
theorem State.freeTake_quiet {s : State} {h : Nat} {t : Take} (ht : s.take? h = some t) (hw : s.store.waiting = [])
    (hlow : s.store.low = false) : s.freeTake h = s.modStore fun st =>
      { st with takes := Takes.erase st.takes h, free := st.free + t.chain.length } := by
  unfold freeTake
  simp only [ht]
  rw [returnSegments_quiet (by exact hw) (by exact hlow)]
  rfl

/-! ### The end of a take's text (R12, R13) -/

section

variable {s : State} {l : LinkId} {hd : Nat}

theorem State.textByte_end (s : State) (l : LinkId) (hd : Nat) (closed : Bool) :
    s.textByte l hd closed byteEnd = (s.pop l).endText l hd := by
  unfold textByte
  rw [if_neg (by decide), if_pos rfl]

theorem State.received_drainByte_checkCopy (hf : (s.link l).fifo = []) (hx : (s.link l).rx = .checkCopy hd) (b : Byte) :
    (s.received l b).drainByte l b = (s.setLink l (s.link l).stirred).checkCopyByte l hd b := by
  have hrx : ((s.received l b).link l).rx = .checkCopy hd := by simp [hx]
  unfold drainByte
  simp only [hrx]
  rw [received_popUncovered hf]

end

/-- Settles O11. -/
theorem endAcceptsTake : Obligations.EndAcceptsTake := by
  refine ⟨fun s l hd closed hr hs hw hx hcheck => ?awaits, fun s l b hd t hr hs hw ht hend => ?accepted⟩
  case awaits =>
    have hf := hs.fifo hw
    refine exec_byteArrives_of_settled hr hs hw (by simp [hx]) ?_ (State.setLink_settled hs (.inl hf))
    rw [State.received_drainByte_text hx, State.textByte_end, State.received_pop hf, State.endText,
      if_pos (by simpa using hcheck), State.setRx, State.setLink_modLink]
    simp only [hcheck, if_true]
  case accepted =>
    have hf := hs.fifo hw
    let idle : State := s.modLink l fun k => { k with silenceTicks := 0, silent := false, rx := .idle }
    have haccept : idle.accept l hd = (((idle.putTake hd
        { t with state := .ready, readyTime := some s.ms, readyClock := some (s.clock.hours, s.clock.minutes), refs := 0 }
        ).trackSerial l t.serial).countLink l .takesAccepted 1).route hd := State.accept_of_take ht
    have hidle : (s.setLink l (s.link l).stirred).setRx l .idle = idle := s.setLink_modLink l _ _
    have hdrain : (s.link l).rx ≠ .disabled ∧ (s.received l b).drainByte l b = idle.accept l hd := by
      rcases hend with ⟨⟨closed, hx⟩, hcheck, rfl⟩ | ⟨hx, hb⟩
      · have hcovered : (s.link l).covered byteEnd = (s.link l).stirred := by simp [Link.covered, hcheck]
        refine ⟨by simp [hx], ?_⟩
        rw [State.received_drainByte_text hx, State.textByte_end, State.received_pop hf, hcovered, State.endText,
          if_neg (by simp [hcheck]), hidle]
      · refine ⟨by simp [hx], ?_⟩
        rw [State.received_drainByte_checkCopy hf hx, State.checkCopyByte, if_pos (by simpa using hb), hidle]
    rw [exec_byteArrives hr hs hw hdrain.1, hdrain.2, haccept]

/-! ### The silence and hold timers (R19, R21) -/

section

variable {s : State} {l : LinkId}

theorem exec_silenceExpiry (hr : s.resetHeld = false) (hdue : (s.link l).silenceDue = true) :
    exec (.silenceExpiry l) s = .next ((s.endSilentFrame l).settle.setSilent l) := by
  refine congrArg Host.Outcome.next ((State.live_of_released hr _).trans ?_)
  unfold State.silenceExpiry
  rw [if_pos hdue]

theorem exec_holdExpiry (hr : s.resetHeld = false) : exec (.holdExpiry l) s = .next (s.expireHoldIfDue l) :=
  congrArg Host.Outcome.next (State.live_of_released hr _)

theorem Link.silenceDue_iff (k : Link) : k.silenceDue = true ↔ k.rx ≠ .disabled ∧ k.silent = false ∧
    k.profile.silenceLimit ≠ 0 ∧ k.profile.silenceLimit * 1000 ≤ k.silenceTicks := by
  simp only [silenceDue, Bool.and_eq_true, decide_eq_true_eq, Bool.not_eq_true']
  constructor
  · rintro ⟨⟨hx, hlimit, hticks⟩, hsilent⟩
    exact ⟨hx, hsilent, hlimit, hticks⟩
  · rintro ⟨hx, hsilent, hlimit, hticks⟩
    exact ⟨⟨hx, hlimit, hticks⟩, hsilent⟩

theorem Link.aside_silentIdle : Link.Aside fun k => { k with rx := .idle, silent := true } :=
  fun _ => ⟨rfl, fun _ _ => rfl⟩

theorem Link.aside_count (p : LinkPoint) (n : Nat) : Link.Aside (·.count p n) := fun _ => ⟨rfl, fun _ _ => rfl⟩

theorem State.abandonFrame_header (hx : (∃ x, (s.link l).rx = .header x) ∨ ∃ r, (s.link l).rx = .checkService r) :
    s.endSilentFrame l = (s.recordFault (linkSource l) .abandoned).setRx l .idle := by
  have habandon : s.endSilentFrame l = s.abandonFrame l := by
    unfold endSilentFrame
    rcases hx with ⟨x, hx⟩ | ⟨x, hx⟩ <;> rw [hx]
  rw [habandon, abandonFrame]
  rcases hx with ⟨x, hx⟩ | ⟨x, hx⟩ <;> simp only [hx]

/-- A hold line that has lasted its limit (R21). -/
theorem State.expireHold_eq (hh : (s.link l).hold = true) : s.expireHold l =
    ((s.setLink l { s.link l with hold := false, holdTicks := 0, holdSpent := true }).countLink l .holdExpiries 1).recordFault
      (linkSource l) .holdExpired := by
  have hdropped : (s.modLink l fun k => { k with holdSpent := true }).refreshHold l =
      s.setLink l { s.link l with hold := false, holdTicks := 0, holdSpent := true } := by
    rw [refreshHold, modLink_modLink, modLink]
    simp [Link.refreshHold, Link.holdWanted, hh]
  rw [expireHold, hdropped, countLink, countLink, recordFault_modLink (Link.aside_count _ _)]

/-- A silent frame of copy: ABANDONED, IDLE, and its fate (R17, R19). -/
theorem State.endSilentFrame_copy {hd : Nat} (hx : (∃ closed, (s.link l).rx = .text hd closed) ∨ (s.link l).rx = .checkCopy hd) :
    s.endSilentFrame l = ((s.recordFault (linkSource l) .abandoned).setRx l .idle).endCopy l hd := by
  have habandon : s.endSilentFrame l = s.abandonFrame l := by
    unfold endSilentFrame
    rcases hx with ⟨x, hx⟩ | hx <;> rw [hx]
  rw [habandon, abandonFrame]
  rcases hx with ⟨x, hx⟩ | hx <;> simp only [hx]

end

theorem State.endCopy_mark {s : State} {l : LinkId} {hd : Nat} (h : (s.link l).profile.policy = .mark) :
    s.endCopy l hd = ((s.withdraw l).modTake hd fun t => { t with truncated := true, suspect := true }).accept l hd := by
  unfold endCopy
  rw [h]

theorem State.endCopy_discard {s : State} {l : LinkId} {hd : Nat} (h : (s.link l).profile.policy = .discard) :
    s.endCopy l hd = (s.withdraw l).freeTake hd := by
  unfold endCopy discard
  rw [h]

/-- Settles O16. -/
theorem silenceAndHoldTimers : Obligations.SilenceAndHoldTimers := by
  refine ⟨fun s l hr => ⟨(s.link l).silenceDue_iff, fun hs hdue hx => ?idle, fun hs hdue ⟨due, hx⟩ => ?discarding,
    fun hs hdue hx => ?header, fun hdue => ?quiet, fun hh hlimit => ?hold, fun hno => ?unheld⟩, ?copy⟩
  case idle =>
    have hend : s.endSilentFrame l = s := by
      unfold State.endSilentFrame
      rw [hx]
    rw [exec_silenceExpiry hr hdue, hend, State.settle_of_settled hs]
    rfl
  case discarding =>
    have hend : s.endSilentFrame l = s.setRx l .idle := by
      unfold State.endSilentFrame
      rw [hx]
    rw [exec_silenceExpiry hr hdue, hend, State.settle_of_settled (hs.of_sameWaits ((State.SameWaits.refl s).setRx l _)),
      State.setSilent, State.setRx, State.modLink_modLink]
    rfl
  case header =>
    have hset : (s.setLink l { s.link l with rx := .idle, silent := true }).recordFault (linkSource l) .abandoned =
        (s.recordFault (linkSource l) .abandoned).modLink l fun k => { k with rx := .idle, silent := true } :=
      State.recordFault_modLink Link.aside_silentIdle _ _
    rw [exec_silenceExpiry hr hdue, State.abandonFrame_header hx, State.settle_of_settled
      (hs.of_sameWaits (((State.SameWaits.refl s).recordFault l .abandoned).setRx l _)), hset, State.setSilent, State.setRx,
      State.modLink_modLink]
  case quiet =>
    refine congrArg Host.Outcome.next ((State.live_of_released hr _).trans ?_)
    unfold State.silenceExpiry
    rw [if_neg (by simp [hdue])]
  case hold =>
    rw [exec_holdExpiry hr, State.expireHoldIfDue, if_pos (by simp [Link.holdDue, hh, hlimit]), State.expireHold_eq hh]
  case unheld =>
    rw [exec_holdExpiry hr, State.expireHoldIfDue, if_neg]
    rcases hno with hno | hno <;> simp [Link.holdDue, hno]
  case copy =>
    intro s l hd t hr hs hdue hx ht ended silent
    let abandoned := (s.recordFault (linkSource l) .abandoned).setRx l .idle
    obtain ⟨rs, rate, hlink⟩ := s.recordFault_link (linkSource l) .abandoned l
    have hl : abandoned.link l = { s.link l with replies := rs, sendRate := rate, rx := .idle } := by
      simp only [abandoned, State.setRx, State.modLink_link_self, hlink]
    have htake : ended.take? hd = some t := (s.recordFault_take? _ _ hd).trans ht
    have hended : abandoned.withdraw l = ended := rfl
    refine ⟨fun hp => ?_, fun hp hwaiting hlow hbytes => ?_⟩
    · have hpolicy : (abandoned.link l).profile.policy = .mark := by rw [hl]; exact hp
      rw [exec_silenceExpiry hr hdue, State.endSilentFrame_copy hx, State.endCopy_mark hpolicy, hended,
        State.modTake_accept htake _ rfl]
      simp only [silent, ended, State.modStore_ms, State.modStore_clock, State.modLink_ms, State.modLink_clock,
        State.recordFault_ms, State.recordFault_clock]
      rfl
    · have hpolicy : (abandoned.link l).profile.policy = .discard := by rw [hl]; exact hp
      have hempty : ended.store.waiting = [] := by
        simp only [ended, State.modStore_store, State.modLink_store, State.recordFault_store]
        exact List.filter_eq_nil_iff.2 fun w hw => by simp [hwaiting w hw]
      let freed : State := ended.modStore fun st =>
        { st with takes := Takes.erase st.takes hd, free := st.free + t.chain.length }
      have hfreed : ended.freeTake hd = freed := State.freeTake_quiet htake hempty (by
        simp only [ended, State.modStore_store, State.modLink_store, State.recordFault_store]
        exact hlow)
      have hwaits (m : LinkId) : freed.waits m = false := by
        have hnone : freed.store.waiting = [] := hempty
        simp [State.waits, hnone]
      have hfreedLink : freed.link l = abandoned.link l := rfl
      have hfifo : (freed.link l).fifo = (s.link l).fifo := by rw [hfreedLink, hl]
      have hothers : freed.OthersSettled l := fun m hm => by
        have hm' : (freed.link m).fifo = (s.link m).fifo := by
          obtain ⟨rs, rate, he⟩ := s.recordFault_link (linkSource l) .abandoned m
          have habandoned : freed.link m = abandoned.link m := rfl
          simp only [habandoned, abandoned, State.setRx, State.modLink_link, hm, if_false, he]
        rw [hm']
        refine .inl ((hs m).resolve_right fun hwait => hm ?_)
        obtain ⟨w, hw, he⟩ := List.any_eq_true.1 hwait
        exact (beq_iff_eq.1 he).symm.trans (hwaiting w hw)
      have hstray : freed.modLink l Link.strayed =
          (freed.modLink l fun k => { k with fifo := [] }).countLink l .stray (s.link l).fifo.length := by
        rw [State.countLink, State.modLink_modLink, State.modLink, State.modLink, Link.strayed, hfifo]
      rw [exec_silenceExpiry hr hdue, State.endSilentFrame_copy hx, State.endCopy_discard hpolicy, hended, hfreed,
        State.settle_idle hothers (hwaits l) (by rw [hfreedLink, hl]) (by rw [hfifo]; exact hbytes), hstray]
      rfl

end Sys2Proof.Machine
end


-- ==== sitting 4: answers, reply queues and notices (R158, R159, R175, R176, R179 to R181, R183) ====
section
/-! The return direction: what composing and queueing a frame does, and the three kinds of frame that go through it,
replies, fault notices and watch reports. -/

namespace Sys2Proof.Machine

open Sys2Proof

theorem hexBytes_append (as bs : List Byte) : hexBytes (as ++ bs) = hexBytes as ++ hexBytes bs :=
  List.flatMap_append

theorem hexBytes_cons (b : Byte) (bs : List Byte) : hexBytes (b :: bs) = hexByte b ++ hexBytes bs := rfl

theorem composeFrame_eq (poly init : Byte) (body : List Byte) :
    composeFrame poly init body =
      0x01#8 :: (body ++ [0x03#8] ++ [crcBytes poly init (body ++ [0x03#8])]) := by
  simp [composeFrame]

/-- A link with a frame at the tail of its return direction, begun at once where it found the queue empty (log 17). -/
theorem Link.pushFrame_eq (k : Link) (frame : List Byte) :
    k.pushFrame frame =
      { k with
        replies := k.replies ++ [frame], sendRate := if k.replies = [] then some k.profile.rate else k.sendRate } := by
  simp [Link.pushFrame, List.isEmpty_iff]

theorem State.queueFrame_room {s : State} {l : LinkId} (h : (s.link l).replies.length < 4) (frame : List Byte) :
    s.queueFrame l frame = s.setLink l
      { s.link l with
        replies := (s.link l).replies ++ [frame]
        sendRate := if (s.link l).replies = [] then some (s.link l).profile.rate else (s.link l).sendRate } := by
  rw [← Link.pushFrame_eq]
  exact if_neg (Nat.not_le.2 h)

theorem State.queueFrame_full {s : State} {l : LinkId} (h : 4 ≤ (s.link l).replies.length) (frame : List Byte) :
    s.queueFrame l frame = { s with faults := s.faults.set 25 (some .replyOverflow) } :=
  if_pos h

/-! ### O17 -/

/-- The body of a reply with END behind it, spelled out. -/
theorem replyBody_end (own : Nat) (r : Request) (x : Result) (limited : Bool) (v : List Byte) :
    replyBody own r x limited v ++ [0x03#8] =
      0x52#8 :: (hexByte (BitVec.ofNat 8 own) ++ [MatchCode.digit r.matched] ++ hexByte r.kind ++
        hexByte r.serial ++ hexByte x.code ++ [if limited then 0x31#8 else 0x30#8] ++ v.flatMap hexByte ++ [0x03#8]) := by
  simp [replyBody, num1, hexBytes]

theorem exec_replyFrameSent {s : State} (hr : s.resetHeld = false) (l : LinkId) :
    exec (.replyFrameSent l) s = .next (s.setLink l (s.link l).frameSent) :=
  congrArg Host.Outcome.next (State.live_of_released hr _)

/-- Settles O17: an answer is `complete`, whose frame meets a queue with room or a full one; and the frames of a return
direction leave it by cases on the queue. -/
theorem answersAndReplyQueues : Obligations.AnswersAndReplyQueues := by
  unfold Obligations.AnswersAndReplyQueues
  refine ⟨fun s r x limited v => ?_, fun s l hr => ⟨fun h => ?_, fun f h => ?_, fun f g rest h => ?_⟩⟩
  case refine_1 =>
    intro k body frame left
    have hframe : composeFrame k.profile.poly k.profile.init (replyBody s.ownCode r x limited v) = frame := by
      rw [composeFrame_eq, replyBody_end]
      rfl
    have hc : s.complete r x limited v = left.queueFrame r.link frame := by
      rw [← hframe]
      rfl
    rw [hc]
    split
    · exact State.queueFrame_room (s := left) ‹_› frame
    · exact State.queueFrame_full (s := left) (Nat.le_of_not_lt ‹_›) frame
  all_goals rw [exec_replyFrameSent hr, Link.frameSent, h]
  exact congrArg _ (State.setLink_self s l)

/-! ### O18 -/

/-- The body of a notice with END behind it, spelled out. -/
theorem noticeBody_end (own : Nat) (kind number : Byte) (fields : List Byte) :
    noticeBody own kind number fields ++ [0x03#8] =
      0x4E#8 :: (hexByte (BitVec.ofNat 8 own) ++ hexByte kind ++ hexByte number ++ hexBytes fields ++ [0x03#8]) := by
  simp [noticeBody, num1, hexBytes]

theorem hexBytes_faultNoticeFields (s : State) (src : Fin 26) (code : FaultCode) :
    hexBytes (faultNoticeFields s src code) =
      hexByte (BitVec.ofNat 8 src.val) ++ hexByte code.byte ++ hexByte (BitVec.ofNat 8 s.clock.hours) ++
        hexByte (BitVec.ofNat 8 s.clock.minutes) := by
  simp [faultNoticeFields, num1, hexBytes]

theorem hexBytes_watchValues (s : State) :
    hexBytes s.watchValues =
      hexByte (BitVec.ofNat 8 s.watch.length) ++ s.watch.flatMap fun p => hexBytes (num2 (s.pointValue p)) := by
  simp [State.watchValues, num1, hexBytes, List.flatMap_assoc]

/-- A notice: the number rises and the frame goes to the desk link. -/
theorem State.notice_eq (s : State) (kind : Byte) (fields : List Byte) :
    s.notice kind fields =
      let k := s.link s.settings.deskLink
      let body := 0x4E#8 :: (hexByte (BitVec.ofNat 8 s.ownCode) ++ hexByte kind ++ hexByte (s.noticeNumber + 1) ++
        hexBytes fields ++ [0x03#8])
      ({ s with noticeNumber := s.noticeNumber + 1 } : State).queueFrame s.settings.deskLink
        (0x01#8 :: (body ++ [crcBytes k.profile.poly k.profile.init body])) := by
  unfold State.notice State.sendBody
  rw [composeFrame_eq, noticeBody_end]
  rfl

theorem State.recordFault_silent {s : State} {src : Fin 26} {code : FaultCode}
    (h : s.settings.notices = false ∨ code = .replyOverflow) :
    s.recordFault src code = { s with faults := s.faults.set src (some code) } := by
  refine if_neg fun hn => ?_
  rcases h with h | h
  · exact absurd hn.1 (by simp [h])
  · exact hn.2 h

theorem State.recordFault_noticed {s : State} {src : Fin 26} {code : FaultCode} (h : s.settings.notices = true)
    (hc : code ≠ .replyOverflow) :
    s.recordFault src code = (s.setFault src code).notice 0x01 (faultNoticeFields s src code) :=
  if_pos ⟨h, hc⟩

theorem exec_watchReport_due {s : State} (hr : s.resetHeld = false) {n : Nat} (hn : s.watchTimer = some n)
    (hd : s.settings.watchPeriod * 1000 ≤ n) : exec .watchReport s = .next s.watchReport := by
  have hdue : s.reportDue = true := by simp [State.reportDue, hn, hd]
  exact congrArg Host.Outcome.next ((State.live_of_released hr _).trans (if_pos hdue))

/-- Settles O18: a fault notice and a watch report are both notices, and a notice meets a queue with room or a full
one. -/
theorem faultAndWatchNotices : Obligations.FaultAndWatchNotices := by
  unfold Obligations.FaultAndWatchNotices
  refine ⟨fun s src code => ?_, fun s hr => ⟨fun n hn hd hw => ?_, fun n hn hd hw => ?_, fun hno => ?_⟩⟩
  case refine_1 =>
    intro marked desk k body frame
    have hq (hn : s.settings.notices = true) (hc : code ≠ .replyOverflow) :
        s.recordFault src code =
          ({ marked with noticeNumber := s.noticeNumber + 1 } : State).queueFrame desk frame := by
      rw [State.recordFault_noticed hn hc, State.notice_eq, hexBytes_faultNoticeFields]
      simp only [frame, body, List.append_assoc]
      rfl
    refine ⟨State.recordFault_silent, fun hn hc hroom => ?_, fun hn hc hfull => ?_⟩
    · rw [hq hn hc]
      exact State.queueFrame_room (s := { marked with noticeNumber := s.noticeNumber + 1 }) hroom frame
    · rw [hq hn hc]
      exact State.queueFrame_full (s := { marked with noticeNumber := s.noticeNumber + 1 }) hfull frame
  case refine_2 =>
    rw [exec_watchReport_due hr hn hd, State.watchReport, hw]
    rfl
  case refine_3 =>
    intro k body frame rung
    have hreport : s.watchReport = rung.queueFrame s.settings.deskLink frame := by
      rw [State.watchReport, if_neg (by simpa using hw), State.notice_eq, hexBytes_watchValues]
      simp only [frame, body, List.append_assoc]
      rfl
    rw [exec_watchReport_due hr hn hd, hreport]
    split
    · exact congrArg _ (State.queueFrame_room (s := rung) ‹_› frame)
    · exact congrArg _ (State.queueFrame_full (s := rung) (Nat.le_of_not_lt ‹_›) frame)
  case refine_4 =>
    have hdue : ¬s.reportDue = true := by
      rcases hno with hn | ⟨n, hn, hlt⟩
      · simp [State.reportDue, hn]
      · simp [State.reportDue, hn, hlt]
    exact congrArg Host.Outcome.next ((State.live_of_released hr _).trans (if_neg hdue))

end Sys2Proof.Machine
end


-- ==== sitting 4: the request queue, time checks and retries (R22, R154, R155, R157) ====
section
/-! The request queue at a busy Service Unit, the withdrawal of a request, and the retry of one that waits; with what
LINK ENABLE and LINK DISABLE leave. -/

namespace Sys2Proof.Machine

open Sys2Proof

/-- Every command that carries a request hands it over (R154). -/
theorem exec_of_request {c : Instr} {h : ReqHead} {kind : Byte} {ps : List Byte} (hc : c.request? = some (h, kind, ps))
    (s : State) : exec c s = .next (s.request h kind ps) := by
  cases c <;> cases hc <;> rfl

theorem State.SameWaits.reply {s t : State} (h : s.SameWaits t) (r : Request) (x : Result) (b : Bool) (v : List Byte) :
    s.SameWaits (t.reply r x b v) :=
  (faultKeeps_sameWaits s).queueFrame _ _ h

/-! ### LINK ENABLE and LINK DISABLE -/

/-- A link with its hold line as R20 calls for, spelled out. -/
theorem Link.refreshHold_eq (low : Bool) (k : Link) :
    k.refreshHold low =
      { k with
        hold := k.holdWanted low, holdTicks := if k.holdWanted low = k.hold then k.holdTicks else 0 } := by
  unfold refreshHold
  by_cases h : k.holdWanted low = k.hold
  · simp [h]
  · simp [h]

/-- A link whose line has nothing to hold: the line is down. -/
theorem Link.refreshHold_drops {low : Bool} {k : Link} (h : k.holdWanted low = false) :
    k.refreshHold low = { k with hold := false, holdTicks := if k.hold then 0 else k.holdTicks } := by
  rw [Link.refreshHold_eq, h]
  cases k.hold <;> rfl

theorem State.enableLink_disabled {s : State} {l : LinkId} (h : (s.link l).rx = .disabled) :
    s.enableLink l =
      let k := s.link l
      let up := s.store.low && k.profile.holdCapable && !k.holdSpent
      s.setLink l
        { k with
          rx := .idle, fifo := [], silenceTicks := 0, hold := up, holdTicks := if up = k.hold then k.holdTicks else 0 } := by
  have hup : ({ s.link l with rx := .idle, fifo := [], silenceTicks := 0 } : Link).holdWanted s.store.low =
      (s.store.low && (s.link l).profile.holdCapable && !(s.link l).holdSpent) := by simp [Link.holdWanted]
  unfold enableLink
  rw [if_pos h, State.modLink_refreshHold, Link.refreshHold_eq, hup]

theorem State.enableLink_enabled {s : State} {l : LinkId} (h : (s.link l).rx ≠ .disabled) : s.enableLink l = s :=
  if_neg h

theorem State.disableLink_disabled {s : State} {l : LinkId} (h : (s.link l).rx = .disabled) : s.disableLink l = s :=
  if_pos h

theorem State.disableLink_enabled {s : State} {l : LinkId} (h : (s.link l).rx ≠ .disabled) :
    s.disableLink l = s.setLink l
      { s.link l with
        rx := .disabled, fifo := [], silent := false, hold := false
        holdTicks := if (s.link l).hold then 0 else (s.link l).holdTicks } := by
  have hdown : ({ s.link l with rx := .disabled, fifo := [], silent := false } : Link).holdWanted s.store.low = false := by
    simp [Link.holdWanted]
  unfold disableLink
  rw [if_neg h, State.modLink_refreshHold, Link.refreshHold_drops hdown]

theorem State.linkAct_eq (s : State) (l : LinkId) {f : State → State} {t : State} (h : f s = t) :
    s.linkAct l f = .ok [(t.link l).rx.code] t := by
  rw [← h]
  rfl

/-! ### O21 -/

theorem Rx.betweenFrames_iff (r : Rx) : r.betweenFrames = true ↔ r = .idle ∨ r = .disabled := by
  cases r <;> simp [betweenFrames]

theorem State.request_busy {s : State} (hr : s.resetHeld = false) (hs : s.settled) (hq : s.requests ≠ []) {h : ReqHead}
    {kind : Byte} {ps : List Byte} (hlen : s.requests.length < 8) :
    s.request h kind ps = { s with requests := s.requests ++ [ReqHead.request h kind ps] } := by
  obtain ⟨hfull, _⟩ | ⟨_, hjoins⟩ := s.handOver_busy hq (ReqHead.request h kind ps)
  · exact absurd hfull (Nat.not_le.2 hlen)
  unfold State.request
  rw [State.live_of_released hr, hjoins]
  exact State.settle_of_settled (State.settled_of_eq hs rfl fun _ => rfl)

theorem State.request_overflows {s : State} (hr : s.resetHeld = false) (hs : s.settled) {h : ReqHead} {kind : Byte}
    {ps : List Byte} (hlen : 8 ≤ s.requests.length) :
    s.request h kind ps = s.recordFault serviceSource .requestOverflow := by
  have hover : s.handOver (ReqHead.request h kind ps) = s.recordFault serviceSource .requestOverflow := if_pos hlen
  unfold State.request
  rw [State.live_of_released hr, hover]
  exact State.settle_of_settled (hs.of_sameWaits ((faultKeeps_sameWaits s).recordFault (by decide) (.refl s)))

theorem exec_requestTimedOut {s : State} (hr : s.resetHeld = false) (n : Fin 8) :
    exec (.requestTimedOut n) s = .next (s.requestTimedOut n) :=
  congrArg Host.Outcome.next (State.live_of_released hr _)

theorem State.timeCheckDue_iff {s : State} {n : Nat} {r : Request} (hn : s.requests[n]? = some r) :
    s.timeCheckDue n = true ↔ max 2 r.timeCheck * 10 ≤ r.elapsed := by
  rw [timeCheckDue, hn]
  exact decide_eq_true_iff

theorem State.requestTimedOut_due {s : State} {n : Nat} {r : Request} (hn : s.requests[n]? = some r)
    (hd : max 2 r.timeCheck * 10 ≤ r.elapsed) : s.requestTimedOut n = (s.timeOut n).settle :=
  if_pos ((State.timeCheckDue_iff hn).2 hd)

/-- The state that the withdrawal of a request leaves (R155). -/
def State.withdrawn (s : State) (n : Nat) : State :=
  { s with
    requests := s.requests.eraseIdx n, retryTimer := if n = 0 then none else s.retryTimer
    requestsTimedOut := satPlus s.requestsTimedOut 1 }

theorem State.timeOut_head {s : State} {r : Request} (hn : s.requests[0]? = some r) :
    s.timeOut 0 = ((s.withdrawn 0).reply r .timedOut false []).runQueue := by
  simp [timeOut, hn, withdrawn]

theorem State.timeOut_behind {s : State} {n : Nat} {r : Request} (hn : s.requests[n]? = some r) (h0 : n ≠ 0) :
    s.timeOut n = (s.withdrawn n).reply r .timedOut false [] := by
  simp [timeOut, hn, withdrawn, h0]

theorem State.runQueue_nil {s : State} (h : s.requests = []) : s.runQueue = s := by
  simp [runQueue, h, runRequests]

theorem State.runQueue_waits {s : State} {r : Request} (h : s.requests = [r]) (hp : s.perform r.kind r.params = .waits) :
    s.runQueue = s.startRetry := by
  simp [runQueue, h, runRequests, hp]

theorem State.runQueue_answered {s after : State} {r : Request} (h : s.requests = [r]) {x : Result} {b : Bool}
    {v : List Byte} (hp : s.perform r.kind r.params = .answered x b v after) :
    s.runQueue = after.complete r x b v := by
  simp [runQueue, h, runRequests, hp]

theorem exec_retry {s : State} (hr : s.resetHeld = false) : exec .retry s = .next s.retry :=
  congrArg Host.Outcome.next (State.live_of_released hr _)

theorem State.retry_due {s : State} {x : RetryTimer} (hx : s.retryTimer = some x) (hd : x.limit ≤ x.ticks) :
    s.retry = s.runQueue.settle :=
  if_pos (by simp [retryDue, hx, hd])

/-- Settles O21, by what `handOver`, `timeOut` and `runQueue` do in each case. -/
theorem requestQueueAndTimers : Obligations.RequestQueueAndTimers := by
  unfold Obligations.RequestQueueAndTimers
  refine ⟨fun s c h kind ps hr hs hc => ⟨fun hq hlen => ?busy, fun hlen => ?full⟩,
    fun s n hr hs => ⟨fun r hn hd => ?early, fun hn => ?absent, fun r hn hd hlone => ?lone,
      fun r q rest hq hn hd => ?more⟩, fun s hr => ⟨fun hno => ?quiet, fun x r l hs hx hd hq hk hp => ?due⟩⟩
  case busy => rw [exec_of_request hc, State.request_busy hr hs hq hlen]; rfl
  case full => rw [exec_of_request hc, State.request_overflows hr hs hlen]
  case early =>
    rw [exec_requestTimedOut hr, State.requestTimedOut, if_neg fun h => ?_]
    exact absurd ((State.timeCheckDue_iff hn).1 h) (Nat.not_le.2 hd)
  case absent => rw [exec_requestTimedOut hr, State.requestTimedOut, State.timeCheckDue, hn]; rfl
  case lone =>
    have hleft : { s with
        requests := s.requests.eraseIdx n.val, retryTimer := if n = 0 then none else s.retryTimer
        requestsTimedOut := BitVec.ofNat 16 (min 65535 (s.requestsTimedOut.toNat + 1)) } = s.withdrawn n.val := by
      simp only [State.withdrawn, ← Fin.val_eq_zero_iff]
      rfl
    have hout : s.timeOut n.val = (s.withdrawn n.val).reply r .timedOut false [] := by
      by_cases h0 : n.val = 0
      · rw [h0] at hn ⊢
        have hone := hlone.resolve_left (by simpa using Fin.ext h0)
        rw [State.timeOut_head hn]
        exact State.runQueue_nil (by
          show ((s.withdrawn 0).queueFrame _ _).requests = []
          simp [State.withdrawn, hone])
      · exact State.timeOut_behind hn h0
    have hsame : s.SameWaits (s.withdrawn n.val) := ⟨rfl, fun _ => rfl⟩
    rw [exec_requestTimedOut hr, State.requestTimedOut_due hn hd, hout, hleft,
      State.settle_of_settled (hs.of_sameWaits (hsame.reply r _ _ _))]
  case more =>
    subst hn
    have hget : s.requests[0]? = some r := by simp [hq]
    have hleft : s.withdrawn 0 = { s with
        requests := q :: rest, retryTimer := none
        requestsTimedOut := BitVec.ofNat 16 (min 65535 (s.requestsTimedOut.toNat + 1)) } := by
      simp only [State.withdrawn, hq]
      rfl
    rw [exec_requestTimedOut hr, ← hleft, ← State.timeOut_head hget]
    exact congrArg _ (State.requestTimedOut_due hget hd)
  case quiet =>
    rw [exec_retry hr, State.retry, if_neg]
    rcases hno with hno | ⟨x, hx, hlt⟩
    · simp [State.retryDue, hno]
    · simp [State.retryDue, hx, hlt]
  case due =>
    have hperform : s.perform r.kind r.params =
        if (s.link l).rx.betweenFrames then s.linkAct l (·.disableLink l) else .waits := by
      rw [hk, hp]
      exact s.perform_link l _ 0x02 (toNat_ofNat_link l)
    rw [exec_retry hr, State.retry_due hx hd]
    refine ⟨fun hidle hdisabled => ?_, fun hidle => ?_⟩
    · have hbetween : ¬(s.link l).rx.betweenFrames = true := fun h =>
        ((s.link l).rx.betweenFrames_iff.1 h).elim hidle hdisabled
      rw [if_neg hbetween] at hperform
      rw [State.runQueue_waits hq hperform]
      exact congrArg _ (State.settle_of_settled (State.settled_of_eq hs rfl fun _ => rfl))
    · have hen : (s.link l).rx ≠ .disabled := by simp [hidle]
      have hsettled : (s.disableLink l).settled := by
        rw [State.disableLink_enabled hen]
        exact State.setLink_settled hs (.inl rfl)
      have hcode : ((s.disableLink l).link l).rx.code = 0x00 := by
        rw [State.disableLink_enabled hen, State.setLink_link_self]
        rfl
      rw [if_pos (by simp [hidle, Rx.betweenFrames]), State.linkAct_eq s l rfl, hcode] at hperform
      rw [State.runQueue_answered hq hperform, ← State.disableLink_enabled hen]
      refine congrArg _ (State.settle_of_settled (State.settled_of_eq hsettled ?_ ?_))
      · simp
      · simp

end Sys2Proof.Machine
end


-- ==== sitting 4: table reads and addresses (R150, R156, R161 to R163, R165, R166) ====
section
/-! TABLE READ of every field, the address checks of reads and writes, and what is refused before any effect. -/

namespace Sys2Proof.Machine

open Sys2Proof

theorem State.withHead_readField (s : State) (r : Request) (tb : Table) (n : Nat) (f : Byte) :
    (s.withHead r).readField tb n f = s.readField tb n f := by
  cases tb <;> rfl

section
variable {s : State} {h : ReqHead} {tb : Table} {code index field : Byte} {v : List Byte}

theorem State.perform_read_some (hc : Table.ofCode code = some tb) (hx : index.toNat < tb.entries)
    (hv : s.readField tb index.toNat field = some v) : s.perform 0x02 [code, index, field] = .ok v s := by
  rw [State.perform_read s hc hx, hv]

theorem State.perform_read_none (hc : Table.ofCode code = some tb) (hx : index.toNat < tb.entries)
    (hv : s.readField tb index.toNat field = none) :
    s.perform 0x02 [code, index, field] = s.refuse .badField := by
  rw [State.perform_read s hc hx, hv]

/-- Every listed field of an entry reads as its listed value. -/
theorem exec_tableReads (hi : s.serviceIdle) (hc : Table.ofCode code = some tb) (hx : index.toNat < tb.entries)
    {fields : List (Byte × List Byte)} (hall : ∀ fv ∈ fields, s.readField tb index.toNat fv.1 = some fv.2) :
    ∀ fv ∈ fields,
      exec (.tableRead h code index fv.1) s = .next (s.answer h 0x02 [code, index, fv.1] .done false fv.2) :=
  fun fv hfv => congrArg Host.Outcome.next (State.request_answers hi hi.2.1 hi.2.2
    (State.perform_read_some hc hx ((State.withHead_readField ..).trans (hall fv hfv))))

theorem exec_tableRead_badField (hi : s.serviceIdle) (hc : Table.ofCode code = some tb) (hx : index.toNat < tb.entries)
    (hv : s.readField tb index.toNat field = none) :
    exec (.tableRead h code index field) s = .next (s.answer h 0x02 [code, index, field] .badField false []) :=
  congrArg Host.Outcome.next (State.request_refused hi
    (State.perform_read_none hc hx ((State.withHead_readField ..).trans hv)))

end

/-! ### O23 -/

theorem linkOf_eq {index : Byte} {l : LinkId} (hx : index.toNat = l.val) : linkOf index.toNat = l := by
  rw [hx]
  exact Fin.ofNat_val_eq_self l

theorem State.readField_route (s : State) {m : Nat} {n : Fin 216} (hm : m = n.val) (f : Byte) :
    s.readField .route m f = s.routes[n].readField f := by
  simp [State.readField, hm]

theorem State.readField_subst (s : State) {m : Nat} {n : Fin 32} (hm : m = n.val) (f : Byte) :
    s.readField .subst m f = s.subst[n].readField f := by
  simp [State.readField, hm]

theorem Staged.any_eq (g : Staged) : sw g.any = [if g = .absent then 0x00 else 0x01] := by
  by_cases h : g = .absent <;> simp [sw, Staged.any, h]

theorem Circuit.readField_plain {c : Circuit} {f : Byte} {v w : List Byte} (hf : c.readForm f = none)
    (hp : c.readPlain f = some v) (hv : v ++ [0x00] = w) : c.readField f = some w := by
  simp [readField, hf, hp, sw, ← hv]

/-- Settles O23: each table's fields, in the order of R185, by the reading functions. -/
theorem tableReadsAnswer : Obligations.TableReadsAnswer := by
  intro s h index hi reads
  refine ⟨fun n hx => ?route, fun i hx => ?circuit, fun l hx => ?link, fun n hx => ?subst, fun hx => ?store,
    fun hx => ?service⟩
  case route =>
    refine exec_tableReads (code := 0x01) (tb := .route) hi rfl (by rw [hx]; exact n.isLt) ?_
    simp only [List.forall_mem_cons, s.readField_route hx]
    exact ⟨rfl, rfl, rfl, List.forall_mem_nil _⟩
  case circuit =>
    intro p g
    refine exec_tableReads (code := 0x02) (tb := .circuit) hi rfl (by rw [hx]; exact i.isLt) ?_
    have hread (f : Byte) : s.readField .circuit index.toNat f = (s.circuit i).readField f := by
      rw [State.readField, circuitOf_eq hx]
    simp only [List.cons_append, List.nil_append, List.forall_mem_cons, hread]
    refine ⟨rfl, ?stop, rfl, rfl, rfl, rfl, rfl, rfl, rfl, rfl, rfl, rfl, rfl, ?stopMode, ?idleMode, rfl, rfl, rfl, rfl,
      rfl, rfl, ?level, rfl, rfl, rfl, rfl, rfl, rfl, rfl, rfl, ?state, ?summary, List.forall_mem_nil _⟩
    case stop =>
      have hstop : (s.circuit i).readField 0x02 = some (codeOf stopCodes p.form.stop ++ sw g.stop.isSome) := rfl
      rw [hstop]
      cases p.form.stop <;> rfl
    case stopMode =>
      refine Circuit.readField_plain rfl (v := codeOf stopModeCodes p.stopMode) rfl ?_
      cases p.stopMode <;> rfl
    case idleMode =>
      refine Circuit.readField_plain rfl (v := codeOf idleModeCodes p.idleMode) rfl ?_
      cases p.idleMode <;> rfl
    case level =>
      refine Circuit.readField_plain rfl (v := codeOf breakInCodes p.breakInLevel) rfl ?_
      cases p.breakInLevel <;> rfl
    case state =>
      refine Circuit.readField_plain rfl (v := [(s.circuit i).state.code]) rfl ?_
      cases (s.circuit i).state <;> rfl
    case summary =>
      refine Circuit.readField_plain rfl (v := sw g.any) rfl ?_
      rw [Staged.any_eq]
      rfl
  case link =>
    intro k
    refine exec_tableReads (code := 0x03) (tb := .link) hi rfl (by rw [hx]; exact l.isLt) ?_
    have hread (f : Byte) : s.readField .link index.toNat f = (s.link l).readField f := by
      rw [State.readField, linkOf_eq hx]
    simp only [List.forall_mem_cons, hread]
    refine ⟨rfl, ?rate, rfl, rfl, rfl, ?policy, rfl, rfl, rfl, rfl, rfl, rfl, rfl, rfl, rfl, List.forall_mem_nil _⟩
    case rate =>
      have hrate : (s.link l).readField 0x02 = some (codeOf rateCodes k.profile.rate) := rfl
      rw [hrate]
      cases k.profile.rate <;> rfl
    case policy =>
      have hpolicy : (s.link l).readField 0x06 = some (codeOf policyCodes k.profile.policy) := rfl
      rw [hpolicy]
      cases k.profile.policy <;> rfl
  case subst =>
    refine exec_tableReads (code := 0x04) (tb := .subst) hi rfl (by rw [hx]; exact n.isLt) ?_
    simp only [List.forall_mem_cons, s.readField_subst hx]
    exact ⟨rfl, rfl, List.forall_mem_nil _⟩
  case store =>
    refine exec_tableReads (code := 0x05) (tb := .store) hi rfl (by rw [hx]; decide) ?_
    simp only [List.forall_mem_cons]
    exact ⟨rfl, rfl, rfl, rfl, rfl, List.forall_mem_nil _⟩
  case service =>
    refine exec_tableReads (code := 0x06) (tb := .service) hi rfl (by rw [hx]; decide) ?_
    simp only [List.forall_mem_cons]
    exact ⟨rfl, rfl, rfl, rfl, rfl, rfl, rfl, rfl, rfl, List.forall_mem_nil _⟩

/-! ### O24 -/

/-- Bytes of a range above 0 leave out 0 and what lies above the range. -/
theorem byte_not_mem {f : Byte} {n : Nat} {fs : List Byte} (hf : f = 0x00 ∨ n < f.toNat)
    (hfs : ∀ c ∈ fs, 0 < c.toNat ∧ c.toNat ≤ n) : f ∉ fs := fun hmem => by
  obtain ⟨hpos, hle⟩ := hfs f hmem
  rcases hf with rfl | hlt
  · exact absurd hpos (by decide)
  · omega

theorem Table.ofCode_none {b : Byte} (hb : b ∉ [(0x01 : Byte), 0x02, 0x03, 0x04, 0x05, 0x06]) :
    Table.ofCode b = none := by
  simp only [List.mem_cons, List.not_mem_nil, or_false, not_or, BitVec.ofNat_eq_ofNat] at hb
  simp [Table.ofCode, hb]

section
variable {f : Byte}

/-- The numbers of the CIRCUIT fields that can be written (R185). -/
abbrev circuitWriteFields : List Byte :=
  [0x01, 0x02, 0x03, 0x04, 0x05, 0x06, 0x07, 0x08, 0x09, 0x0A, 0x0B, 0x0C, 0x0D, 0x0E, 0x0F, 0x10, 0x11, 0x12, 0x13, 0x14,
    0x15, 0x16, 0x17, 0x18, 0x19, 0x1A, 0x1B, 0x1C, 0x1D, 0x1E]

theorem RouteEntry.readField_none (e : RouteEntry) (hf : f ∉ [(0x01 : Byte), 0x02, 0x03]) : e.readField f = none := by
  simp only [List.mem_cons, List.not_mem_nil, or_false, not_or, BitVec.ofNat_eq_ofNat] at hf
  simp [readField, hf]

theorem Circuit.readField_none (c : Circuit) (hf : f ∉ circuitWriteFields) (hread : f ∉ [(0x20 : Byte), 0x21]) :
    c.readField f = none := by
  simp only [circuitWriteFields, List.mem_cons, List.not_mem_nil, or_false, not_or, BitVec.ofNat_eq_ofNat] at hf hread
  simp [readField, readForm, readPlain, classField, hf, hread]

theorem Link.readField_none (k : Link) (hf : f ∉ [(0x01 : Byte), 0x02, 0x03, 0x04, 0x05, 0x06, 0x07, 0x08, 0x09, 0x0A,
    0x0B, 0x0C, 0x20, 0x21, 0x22]) : k.readField f = none := by
  simp only [List.mem_cons, List.not_mem_nil, or_false, not_or, BitVec.ofNat_eq_ofNat] at hf
  simp [readField, hf]

theorem SubstEntry.readField_none (e : SubstEntry) (hf : f ∉ [(0x01 : Byte), 0x02]) : e.readField f = none := by
  simp only [List.mem_cons, List.not_mem_nil, or_false, not_or, BitVec.ofNat_eq_ofNat] at hf
  simp [readField, hf]

theorem Store.readField_none (st : Store) (hf : f ∉ [(0x01 : Byte), 0x02, 0x03, 0x20, 0x21]) :
    st.readField f = none := by
  simp only [List.mem_cons, List.not_mem_nil, or_false, not_or, BitVec.ofNat_eq_ofNat] at hf
  simp [readField, hf]

theorem State.readService_none (s : State)
    (hf : f ∉ [(0x01 : Byte), 0x02, 0x03, 0x04, 0x05, 0x06, 0x07, 0x20, 0x21]) : s.readService f = none := by
  simp only [List.mem_cons, List.not_mem_nil, or_false, not_or, BitVec.ofNat_eq_ofNat] at hf
  simp [readService, hf]

variable (s : State) (n : Nat) (v : List Byte)

theorem State.writeRoute_none (hf : f ∉ [(0x01 : Byte), 0x02, 0x03]) : s.writeRoute n f v = none := by
  simp only [List.mem_cons, List.not_mem_nil, or_false, not_or, BitVec.ofNat_eq_ofNat] at hf
  simp [writeRoute, hf]

theorem State.writeCircuit_none (hf : f ∉ circuitWriteFields) : s.writeCircuit n f v = none := by
  simp only [circuitWriteFields, List.mem_cons, List.not_mem_nil, or_false, not_or, BitVec.ofNat_eq_ofNat] at hf
  simp [writeCircuit, writeStagedField, writePlainField, classField, hf]

theorem State.writeLink_none
    (hf : f ∉ [(0x01 : Byte), 0x02, 0x03, 0x04, 0x05, 0x06, 0x07, 0x08, 0x09, 0x0A, 0x0B, 0x0C]) :
    s.writeLink n f v = none := by
  simp only [List.mem_cons, List.not_mem_nil, or_false, not_or, BitVec.ofNat_eq_ofNat] at hf
  simp [writeLink, hf]

theorem State.writeSubst_none (hf : f ∉ [(0x01 : Byte), 0x02]) : s.writeSubst n f v = none := by
  simp only [List.mem_cons, List.not_mem_nil, or_false, not_or, BitVec.ofNat_eq_ofNat] at hf
  simp [writeSubst, hf]

theorem State.writeStore_none (hf : f ∉ [(0x01 : Byte), 0x02, 0x03]) : s.writeStore f v = none := by
  simp only [List.mem_cons, List.not_mem_nil, or_false, not_or, BitVec.ofNat_eq_ofNat] at hf
  simp [writeStore, hf]

theorem State.writeService_none (hf : f ∉ [(0x01 : Byte), 0x02, 0x03, 0x04, 0x05, 0x06, 0x07]) :
    s.writeService f v = none := by
  simp only [List.mem_cons, List.not_mem_nil, or_false, not_or, BitVec.ofNat_eq_ofNat] at hf
  simp [writeService, hf]

end

section
variable {s : State} {h : ReqHead} {tb : Table} {code index field : Byte} {v : List Byte}

theorem State.withTable_none (hc : Table.ofCode code = none) (go : Table → Performed) :
    s.withTable code index go = s.refuse .badTable := by
  rw [withTable, hc]

theorem State.withTable_badIndex (hc : Table.ofCode code = some tb) (hx : tb.entries ≤ index.toNat)
    (go : Table → Performed) : s.withTable code index go = s.refuse .badIndex := by
  rw [withTable, hc]
  exact if_neg (Nat.not_lt.2 hx)

theorem exec_tableRead_badTable (hi : s.serviceIdle) (hc : Table.ofCode code = none) :
    exec (.tableRead h code index field) s = .next (s.answer h 0x02 [code, index, field] .badTable false []) :=
  congrArg Host.Outcome.next (State.request_refused hi (State.withTable_none hc _))

theorem exec_tableRead_badIndex (hi : s.serviceIdle) (hc : Table.ofCode code = some tb) (hx : tb.entries ≤ index.toNat) :
    exec (.tableRead h code index field) s = .next (s.answer h 0x02 [code, index, field] .badIndex false []) :=
  congrArg Host.Outcome.next (State.request_refused hi (State.withTable_badIndex hc hx _))

theorem State.request_writeBadIndex (hi : s.serviceIdle) (hc : Table.ofCode code = some tb)
    (hx : tb.entries ≤ index.toNat) :
    s.request h 0x03 (code :: index :: field :: v) =
      s.answer h 0x03 (code :: index :: field :: v) .badIndex false [] :=
  State.request_refused hi (State.withTable_badIndex hc hx _)

theorem State.request_writeBadField (hi : s.serviceIdle) (hc : Table.ofCode code = some tb)
    (hx : index.toNat < tb.entries) (hw : ∀ u : State, u.writeField tb index.toNat field v = none) :
    s.request h 0x03 (code :: index :: field :: v) =
      s.answer h 0x03 (code :: index :: field :: v) .badField false [] :=
  State.request_refused hi (by rw [State.perform_write _ hc hx, hw])

end

theorem State.perform_unknown (s : State) {kind : Byte} (ps : List Byte)
    (hk : kind ∉ [(0x01 : Byte), 0x02, 0x03, 0x04, 0x05, 0x06, 0x07, 0x08, 0x09, 0x0A, 0x0B, 0x0C]) :
    s.perform kind ps = s.refuse .unknownRequest := by
  simp only [List.mem_cons, List.not_mem_nil, or_false, not_or, BitVec.ofNat_eq_ofNat] at hk
  simp [perform, hk]

theorem list_of_length_lt_three {α : Type} {xs : List α} (h : xs.length < 3) :
    xs = [] ∨ (∃ a, xs = [a]) ∨ ∃ a b, xs = [a, b] := by
  match xs, h with
  | [], _ => exact .inl rfl
  | [a], _ => exact .inr (.inl ⟨a, rfl⟩)
  | [a, b], _ => exact .inr (.inr ⟨a, b, rfl⟩)

/-- Parameters that end before the bytes of the kind (R156). -/
theorem State.perform_short (s : State) (ps : List Byte) :
    ∀ kn ∈ [((0x02 : Byte), 3), (0x03, 3), (0x04, 2), (0x05, 2), (0x06, 3), (0x07, 2), (0x08, 1), (0x09, 1), (0x0B, 3)],
      ps.length < kn.2 → s.perform kn.1 ps = s.refuse .badValue := by
  have hempty (kind : Byte) (hk : ps.length < 1) (hnil : s.perform kind [] = s.refuse .badValue) :
      s.perform kind ps = s.refuse .badValue := by
    rw [List.length_eq_zero_iff.1 (Nat.lt_one_iff.1 hk), hnil]
  have hpair (kind : Byte) (hk : ps.length < 2) (hnil : s.perform kind [] = s.refuse .badValue)
      (hone : ∀ a, s.perform kind [a] = s.refuse .badValue) : s.perform kind ps = s.refuse .badValue := by
    obtain rfl | ⟨a, rfl⟩ | ⟨a, b, rfl⟩ := list_of_length_lt_three (Nat.lt_succ_of_lt hk)
    · exact hnil
    · exact hone a
    · exact absurd hk (by simp)
  have htriple (kind : Byte) (hk : ps.length < 3) (hnil : s.perform kind [] = s.refuse .badValue)
      (hone : ∀ a, s.perform kind [a] = s.refuse .badValue)
      (htwo : ∀ a b, s.perform kind [a, b] = s.refuse .badValue) : s.perform kind ps = s.refuse .badValue := by
    obtain rfl | ⟨a, rfl⟩ | ⟨a, b, rfl⟩ := list_of_length_lt_three hk
    · exact hnil
    · exact hone a
    · exact htwo a b
  simp only [List.forall_mem_cons]
  exact ⟨fun hk => htriple 0x02 hk rfl (fun _ => rfl) fun _ _ => rfl,
    fun hk => htriple 0x03 hk rfl (fun _ => rfl) fun _ _ => rfl, fun hk => hpair 0x04 hk rfl fun _ => rfl,
    fun hk => hpair 0x05 hk rfl fun _ => rfl, fun hk => htriple 0x06 hk rfl (fun _ => rfl) fun _ _ => rfl,
    fun hk => hpair 0x07 hk rfl fun _ => rfl, fun hk => hempty 0x08 hk rfl, fun hk => hempty 0x09 hk rfl,
    fun hk => htriple 0x0B hk rfl (fun _ => rfl) fun _ _ => rfl, List.forall_mem_nil _⟩

theorem State.circuitControl_badIndex (s : State) {n : Byte} (hn : 16 ≤ n.toNat) (action : Byte) :
    s.circuitControl n action = s.refuse .badIndex := if_pos hn

theorem State.circuitControl_badAction (s : State) {n action : Byte} (hn : n.toNat < 16)
    (ha : action ∉ [(0x01 : Byte), 0x02, 0x03, 0x04, 0x05, 0x06]) : s.circuitControl n action = s.refuse .badValue := by
  simp only [List.mem_cons, List.not_mem_nil, or_false, not_or, BitVec.ofNat_eq_ofNat] at ha
  simp [circuitControl, Nat.not_le.2 hn, ha]

theorem State.linkControl_badIndex (s : State) {n : Byte} (hn : 8 ≤ n.toNat) (action : Byte) :
    s.linkControl n action = s.refuse .badIndex := if_pos hn

theorem State.linkControl_badAction (s : State) {n action : Byte} (hn : n.toNat < 8)
    (ha : action ∉ [(0x01 : Byte), 0x02, 0x03]) : s.linkControl n action = s.refuse .badValue := by
  simp only [List.mem_cons, List.not_mem_nil, or_false, not_or, BitVec.ofNat_eq_ofNat] at ha
  simp [linkControl, Nat.not_le.2 hn, ha]

/-- The one entry of STORE and of SERVICE. -/
theorem one_le_toNat {index : Byte} (h : index ≠ 0) : 1 ≤ index.toNat :=
  Nat.one_le_iff_ne_zero.2 fun h0 => h (BitVec.eq_of_toNat_eq h0)

/-- Settles O24: the table, then the index, then the field decide; and of any request the kind and the number of bytes,
of a control request the number, then the action. -/
theorem tableAddressesChecked : Obligations.TableAddressesChecked := by
  unfold Obligations.TableAddressesChecked
  refine ⟨fun s h index field v hi => ⟨fun table ht => ?_, ?_, ?_, fun hx hf => ?_, fun hx => ?_, fun hx => ?_,
    fun hx => ?_, fun hx => ?_, fun hx => ?_, fun hx => ?_, fun hx hf => ?_, fun hx hf => ?_, fun hx hf => ?_,
    fun hx hf => ?_, fun hx hf => ?_, fun hx hf => ?_⟩, fun s h ps hi => ⟨fun kind hk => ?_, fun kn hkn hps => ?_,
      fun n action more hps => ⟨fun hn => ?_, fun hn ha => ?_, fun hn => ?_, fun hn ha => ?_⟩⟩⟩
  · exact exec_tableRead_badTable hi (Table.ofCode_none (byte_not_mem ht (by decide)))
  · simp only [List.forall_mem_cons]
    exact ⟨exec_tableRead_badIndex (tb := .route) hi rfl, exec_tableRead_badIndex (tb := .circuit) hi rfl,
      exec_tableRead_badIndex (tb := .link) hi rfl, exec_tableRead_badIndex (tb := .subst) hi rfl,
      exec_tableRead_badIndex (tb := .store) hi rfl, exec_tableRead_badIndex (tb := .service) hi rfl,
      List.forall_mem_nil _⟩
  · simp only [List.forall_mem_cons]
    exact ⟨fun hx hf => exec_tableRead_badField (tb := .route) hi rfl hx (RouteEntry.readField_none _ hf),
      fun hx hf => exec_tableRead_badField (tb := .link) hi rfl hx (Link.readField_none _ hf),
      fun hx hf => exec_tableRead_badField (tb := .subst) hi rfl hx (SubstEntry.readField_none _ hf),
      fun hx hf => exec_tableRead_badField (tb := .store) hi rfl hx (Store.readField_none _ hf),
      fun hx hf => exec_tableRead_badField (tb := .service) hi rfl hx (State.readService_none _ hf),
      List.forall_mem_nil _⟩
  · have hfields : field ∉ circuitWriteFields ∧ field ∉ [(0x20 : Byte), 0x21] := by
      rcases hf with rfl | rfl | hf
      · decide
      · decide
      · exact ⟨byte_not_mem (.inr hf) (by decide), byte_not_mem (.inr hf) (by decide)⟩
    exact exec_tableRead_badField (tb := .circuit) hi rfl hx (Circuit.readField_none _ hfields.1 hfields.2)
  · exact congrArg _ (State.request_writeBadIndex (tb := .route) hi rfl hx)
  · exact congrArg _ (State.request_writeBadIndex (tb := .circuit) hi rfl hx)
  · exact congrArg _ (State.request_writeBadIndex (tb := .link) hi rfl hx)
  · exact congrArg _ (State.request_writeBadIndex (tb := .subst) hi rfl hx)
  · exact congrArg _ (State.request_writeBadIndex (tb := .store) hi rfl (one_le_toNat hx))
  · exact congrArg _ (State.request_writeBadIndex (tb := .service) hi rfl (one_le_toNat hx))
  · exact congrArg _ (State.request_writeBadField (tb := .circuit) hi rfl hx fun u =>
      u.writeCircuit_none _ _ (byte_not_mem hf (by decide)))
  · exact congrArg _ (State.request_writeBadField (tb := .link) hi rfl hx fun u =>
      u.writeLink_none _ _ (byte_not_mem hf (by decide)))
  · exact congrArg _ (State.request_writeBadField (tb := .service) hi rfl (by rw [hx]; decide) fun u =>
      u.writeService_none _ (byte_not_mem hf (by decide)))
  · exact congrArg _ (State.request_writeBadField (tb := .route) hi rfl hx fun u =>
      u.writeRoute_none _ _ (byte_not_mem hf (by decide)))
  · exact congrArg _ (State.request_writeBadField (tb := .store) hi rfl (by rw [hx]; decide) fun u =>
      u.writeStore_none _ (byte_not_mem hf (by decide)))
  · exact congrArg _ (State.request_writeBadField (tb := .subst) hi rfl hx fun u =>
      u.writeSubst_none _ _ (byte_not_mem hf (by decide)))
  · exact State.request_refused hi (State.perform_unknown _ ps (byte_not_mem hk (by decide)))
  · exact State.request_refused hi (State.perform_short _ ps kn hkn hps)
  all_goals subst hps; refine State.request_refused hi ?_
  · exact State.circuitControl_badIndex _ hn action
  · exact State.circuitControl_badAction _ hn (byte_not_mem ha (by decide))
  · exact State.linkControl_badIndex _ hn action
  · exact State.linkControl_badAction _ hn (byte_not_mem ha (by decide))

end Sys2Proof.Machine
end


-- ==== sitting 4: value forms, and the writes of the ROUTE and SUBST tables (R43, R83 to R85, R163, R182) ====
section
/-! What the readers of value forms make of the bytes of a form, what a TABLE WRITE then does, and the ROUTE and SUBST
tables. -/

namespace Sys2Proof.Machine

open Sys2Proof

/-! ### Values read back (R182) -/

theorem readSwitch_sw (b : Bool) (more : List Byte) : readSwitch (sw b ++ more) = some b := by
  cases b <;> rfl

theorem readSwitch_undefined {b : Byte} (h : 1 < b.toNat) (more : List Byte) : readSwitch (b :: more) = none := by
  have h0 : b ≠ 0x00 := fun hb => by simp [hb] at h
  have h1 : b ≠ 0x01 := fun hb => by simp [hb] at h
  exact (if_neg h0).trans (if_neg h1)

theorem readNum1_num1 {n : Nat} (h : n < 256) (more : List Byte) : readNum1 (num1 n ++ more) = some n :=
  congrArg some (by simp; omega)

theorem readNum2_num2 {n : Nat} (h : n < 65536) (more : List Byte) : readNum2 (num2 n ++ more) = some n :=
  congrArg some (by simp; omega)

theorem readSgn1_sgn1 {a : Int} (hlo : -128 ≤ a) (hhi : a ≤ 127) (more : List Byte) :
    readSgn1 (sgn1 a ++ more) = some a :=
  congrArg some (BitVec.toInt_ofInt_eq_self (by decide) (by simpa using hlo) (by simp; omega))

theorem readString_str {most : Nat} {cs : List Byte} (hm : cs.length ≤ most) (h : cs.length < 256) (more : List Byte) :
    readString most (str cs ++ more) = some cs := by
  have hlen : (BitVec.ofNat 8 cs.length).toNat = cs.length := by simp; omega
  simp [readString, str, hlen, hm]

theorem readString_long {most : Nat} {cs : List Byte} (hm : most < cs.length) (h : cs.length < 256) (more : List Byte) :
    readString most (str cs ++ more) = none := by
  have hlen : (BitVec.ofNat 8 cs.length).toNat = cs.length := by simp; omega
  simp [readString, str, hlen, Nat.not_le.2 hm]

/-- A byte that heads no pair of a list of codes is no choice. -/
theorem readChoice_undefined {α : Type} {codes : List (Byte × α)} {b : Byte} (h : b ∉ codes.map (·.1))
    (more : List Byte) : readChoice codes (b :: more) = none := by
  have hnone : codes.find? (·.1 == b) = none := List.find?_eq_none.2 fun c hc hcb =>
    h (beq_iff_eq.1 hcb ▸ List.mem_map_of_mem hc)
  rw [readChoice, hnone]
  rfl

/-- Bytes up to a bound leave out what lies above it. -/
theorem byte_not_mem_of_lt {b : Byte} {n : Nat} {fs : List Byte} (hb : n < b.toNat) (hfs : ∀ c ∈ fs, c.toNat ≤ n) :
    b ∉ fs := fun hmem => absurd (hfs b hmem) (Nat.not_le.2 hb)

/-! ### Limits (R163) -/

theorem limit_below {lo hi n : Nat} (h : n ≤ hi) : limit lo hi n = (max lo n, decide (n < lo)) := by
  simp [limit, Nat.min_eq_right h, Nat.not_lt.2 h]

theorem limit_above (hi n : Nat) : limit 0 hi n = (min hi n, decide (hi < n)) := by
  simp [limit]

theorem limit_within {hi n : Nat} (h : n ≤ hi) : limit 0 hi n = (n, false) := by
  simp [limit, Nat.min_eq_right h, Nat.not_lt.2 h]

/-! ### A TABLE WRITE of the idle Service Unit (R163) -/

section
variable {s t : State} {h : ReqHead} {tb : Table} {code index field : Byte} {v : List Byte}

theorem Written.exact_some {α : Type} {o : Option α} {x : α} (h : o = some x) (form : α → List Byte) (act : α → State) :
    Written.exact o form act = .taken false false (form x) (act x) := by
  rw [h]
  rfl

theorem Written.exact_none {α : Type} {o : Option α} (h : o = none) (form : α → List Byte) (act : α → State) :
    Written.exact o form act = .refused := by
  rw [h]
  rfl

theorem Written.number_some {o : Option Nat} {n lo hi m : Nat} {limited : Bool} (h : o = some n)
    (hl : limit lo hi n = (m, limited)) (form : Nat → List Byte) (act : Nat → State) :
    Written.number o lo hi form act = .taken false limited (form m) (act m) := by
  rw [h, Written.number, hl]

/-- A write that is taken, at once or staged: its effect is not seen by the queue or by what waits. -/
theorem State.request_written {staged limited : Bool} {held : List Byte} {x : Result}
    (hres : (if staged then Result.staged else .done) = x) (hi : s.serviceIdle)
    (hc : Table.ofCode code = some tb) (hx : index.toNat < tb.entries) (hnow : s.writeWaits tb index.toNat = false)
    (hw : (s.withHead (ReqHead.request h 0x03 (code :: index :: field :: v))).writeField tb index.toNat field v =
      some (.taken staged limited held (t.withHead (ReqHead.request h 0x03 (code :: index :: field :: v)))))
    (hq : t.requests = []) (hs : t.settled) :
    s.request h 0x03 (code :: index :: field :: v) =
      t.answer h 0x03 (code :: index :: field :: v) x limited held := by
  subst hres
  have hnow' (r : Request) : (s.withHead r).writeWaits tb index.toNat = false := hnow
  refine State.request_answers hi hq hs ?_
  rw [State.perform_write _ hc hx, hw]
  exact if_neg (by simp [hnow'])

theorem State.request_writeRefused (hi : s.serviceIdle) (hc : Table.ofCode code = some tb)
    (hx : index.toNat < tb.entries)
    (hw : ∀ r, (s.withHead r).writeField tb index.toNat field v = some .refused) :
    s.request h 0x03 (code :: index :: field :: v) =
      s.answer h 0x03 (code :: index :: field :: v) .badValue false [] :=
  State.request_refused hi (by rw [State.perform_write _ hc hx, hw])

end

/-! ### O25 -/

theorem limitInt_eq (lo hi n : Int) : limitInt lo hi n = (max lo (min hi n), decide (n < lo ∨ hi < n)) := rfl

theorem State.modRoute_eq (s : State) {m : Nat} {n : Fin 216} (hm : m = n.val) (f : RouteEntry → RouteEntry) :
    s.modRoute m f = { s with routes := s.routes.set n (f s.routes[n]) } := by
  simp [State.modRoute, hm]

theorem State.modSubst_eq (s : State) {m : Nat} {n : Fin 32} (hm : m = n.val) (f : SubstEntry → SubstEntry) :
    s.modSubst m f = { s with subst := s.subst.set n (f s.subst[n]) } := by
  simp [State.modSubst, hm]

theorem sourceElsewhere_iff (tbl : Vector SubstEntry 32) {m : Nat} {n : Fin 32} (hm : m = n.val) (b : Byte) :
    sourceElsewhere tbl m b = true ↔ ∃ j : Fin 32, j ≠ n ∧ tbl[j].source = some b := by
  simp [sourceElsewhere, hm]

section
variable {s : State} {h : ReqHead} {index : Byte} (hi : s.serviceIdle)
include hi

/-- A ROUTE write that is taken: the entry of the index takes the change. -/
theorem exec_writeRoute_taken {n : Fin 216} (hx : index.toNat = n.val) {field : Byte} {v held : List Byte}
    {limited : Bool} {f : RouteEntry → RouteEntry}
    (hw : ∀ u : State, u.writeRoute index.toNat field v = some (.taken false limited held (u.modRoute index.toNat f))) :
    exec (.tableWriteRoute h index field v) s = .next
      ({ s with routes := s.routes.set n (f s.routes[n]) }.answer h 0x03 (0x01 :: index :: field :: v) .done limited
        held) := by
  rw [← s.modRoute_eq hx]
  exact congrArg Host.Outcome.next (State.request_written (t := s.modRoute index.toNat f) (code := 0x01)
    (tb := .route) (staged := false) rfl hi rfl (by rw [hx]; exact n.isLt) rfl (hw _) hi.2.1 hi.2.2)

theorem exec_writeSubst_taken {n : Fin 32} (hx : index.toNat = n.val) {field : Byte} {v held : List Byte}
    {f : SubstEntry → SubstEntry}
    (hw : ∀ r, (s.withHead r).writeSubst index.toNat field v =
      some (.taken false false held ((s.withHead r).modSubst index.toNat f))) :
    exec (.tableWriteSubst h index field v) s = .next
      ({ s with subst := s.subst.set n (f s.subst[n]) }.answer h 0x03 (0x04 :: index :: field :: v) .done false
        held) := by
  rw [← s.modSubst_eq hx]
  exact congrArg Host.Outcome.next (State.request_written (t := s.modSubst index.toNat f) (code := 0x04)
    (tb := .subst) (staged := false) rfl hi rfl (by rw [hx]; exact n.isLt) rfl (hw _) hi.2.1 hi.2.2)

theorem exec_writeSubst_refused {n : Fin 32} (hx : index.toNat = n.val) {field : Byte} {v : List Byte}
    (hw : ∀ r, (s.withHead r).writeSubst index.toNat field v = some .refused) :
    exec (.tableWriteSubst h index field v) s = .next
      (s.answer h 0x03 (0x04 :: index :: field :: v) .badValue false []) :=
  congrArg Host.Outcome.next
    (State.request_writeRefused (code := 0x04) (tb := .subst) hi rfl (by rw [hx]; exact n.isLt) hw)

end

theorem State.writeSubst_source (s : State) (n : Nat) (v : List Byte) :
    s.writeSubst n 0x01 v = some (s.writeSource n v) := rfl

theorem State.writeSource_cons {b : Byte} (hb : b ≠ 0x00) (s : State) (n : Nat) (more : List Byte) :
    s.writeSource n (b :: more) =
      if (isNonDirectPrintable b || isHigh b) && !sourceElsewhere s.subst n b then
        .taken false false [b] (s.modSubst n fun e => { e with source := some b })
      else .refused :=
  if_neg hb

/-- A replacement: lawful as read, or refused (R85). -/
theorem State.writeSubst_replacement (s : State) (n : Nat) {v cs : List Byte} (hv : readString 3 v = some cs) :
    s.writeSubst n 0x02 v =
      some (if cs.all isWordChar then .taken false false (str cs) (s.modSubst n fun e => { e with replacement := cs })
        else .refused) := by
  have hfield : s.writeSubst n 0x02 v = some (match readString 3 v with
      | some cs =>
        if cs.all isWordChar then .taken false false (str cs) (s.modSubst n fun e => { e with replacement := cs })
        else .refused
      | none => .refused) := rfl
  rw [hfield, hv]

theorem State.writeSubst_unread (s : State) (n : Nat) {v : List Byte} (hv : readString 3 v = none) :
    s.writeSubst n 0x02 v = some .refused := by
  have hfield : s.writeSubst n 0x02 v = some (match readString 3 v with
      | some cs =>
        if cs.all isWordChar then .taken false false (str cs) (s.modSubst n fun e => { e with replacement := cs })
        else .refused
      | none => .refused) := rfl
  rw [hfield, hv]

/-- Settles O25, field by field: what the reader makes of the value decides. -/
theorem routeAndSubstWrites : Obligations.RouteAndSubstWrites := by
  unfold Obligations.RouteAndSubstWrites
  refine fun s h index more hi => ⟨fun n hx => ?route, fun n hx => ?subst⟩
  case route =>
    intro e done
    refine ⟨fun b => ?_, fun set => ?_, fun a hlo hhi => ?_, fun b hb => ?_⟩
    · exact exec_writeRoute_taken (f := fun e => { e with enabled := b }) hi hx fun u =>
        congrArg some (Written.exact_some (readSwitch_sw b more) ..)
    · have hset : BitVec.ofNat 16 set.toNat = set := by simp
      have hw := exec_writeRoute_taken (h := h) (field := 0x02) (v := num2 set.toNat ++ more) (f := fun e => { e with circuits := BitVec.ofNat 16 set.toNat }) hi hx
        fun u => congrArg some (Written.exact_some (readNum2_num2 set.isLt more) ..)
      rwa [hset] at hw
    · refine exec_writeRoute_taken (f := fun e => { e with adjust := max (-2) (min 2 a) }) hi hx fun u => ?_
      have hfield : u.writeRoute index.toNat 0x03 (sgn1 a ++ more) = some (match readSgn1 (sgn1 a ++ more) with
          | some a =>
            .taken false (limitInt (-2) 2 a).2 (sgn1 (limitInt (-2) 2 a).1)
              (u.modRoute index.toNat fun e => { e with adjust := (limitInt (-2) 2 a).1 })
          | none => .refused) := rfl
      rw [hfield, readSgn1_sgn1 hlo hhi]
      rfl
    · exact congrArg Host.Outcome.next (State.request_writeRefused (code := 0x01) (index := index) (field := 0x01)
        (v := b :: more) (tb := .route) hi rfl (by rw [hx]; exact n.isLt) fun r =>
          congrArg some (Written.exact_none (readSwitch_undefined hb more) ..))
  case subst =>
    intro e done
    have helsewhere (b : Byte) := sourceElsewhere_iff s.subst hx b
    refine ⟨exec_writeSubst_taken (f := fun e => { e with source := none }) hi hx fun r => rfl, fun b hb hother => ?_,
      fun b hb hbad => ?_, fun cs hlen hcs => ?_, fun cs hlen hbad => ?_⟩
    · have h0 : b ≠ 0x00 := by rintro rfl; exact absurd hb (by decide)
      have hfree : sourceElsewhere s.subst index.toNat b = false := Bool.eq_false_iff.2 fun he =>
        let ⟨j, hj, hsource⟩ := (helsewhere b).1 he
        hother j hj hsource
      refine exec_writeSubst_taken (f := fun e => { e with source := some b }) hi hx fun r => ?_
      have hgood : ((isNonDirectPrintable b || isHigh b) && !sourceElsewhere s.subst index.toNat b) = true := by
        simp [hb, hfree]
      rw [State.writeSubst_source]
      exact congrArg some ((State.writeSource_cons h0 ..).trans (if_pos hgood))
    · refine exec_writeSubst_refused hi hx fun r => ?_
      have hbad' : ¬((isNonDirectPrintable b || isHigh b) && !sourceElsewhere s.subst index.toNat b) = true := by
        rcases hbad with hbad | hbad
        · simp [hbad]
        · simp [(helsewhere b).2 hbad]
      rw [State.writeSubst_source]
      exact congrArg some ((State.writeSource_cons hb ..).trans (if_neg hbad'))
    · refine exec_writeSubst_taken (f := fun e => { e with replacement := cs }) hi hx fun r => ?_
      rw [State.writeSubst_replacement _ _ (readString_str hlen (by omega) more), if_pos hcs]
    · refine exec_writeSubst_refused hi hx fun r => ?_
      by_cases hlong : 3 < cs.length
      · exact State.writeSubst_unread _ _ (readString_long hlong hlen more)
      · rw [State.writeSubst_replacement _ _ (readString_str (Nat.not_lt.1 hlong) hlen more), if_neg]
        simp [hbad.resolve_left hlong]

end Sys2Proof.Machine
end


-- ==== sitting 4: writes of the CIRCUIT fields that fix a take's form (R145, R147, R148) ====
section
/-! A staged field is staged while the circuit is SENDING and active at once otherwise; the thirteen of them. -/

namespace Sys2Proof.Machine

open Sys2Proof

section
variable {u : State} {i : CircuitId} {limited : Bool} {held : List Byte} {stage : Staged → Staged} {act : Form → Form}

theorem State.writeForm_sending (h : (u.circuit i).state = .sending) :
    u.writeForm i limited held stage act =
      .taken true limited held (u.setCircuit i { u.circuit i with staged := stage (u.circuit i).staged }) :=
  if_pos h

theorem State.writeForm_idle (h : (u.circuit i).state ≠ .sending) :
    u.writeForm i limited held stage act =
      .taken false limited held (u.setCircuit i
        { u.circuit i with active := { (u.circuit i).active with form := act (u.circuit i).active.form } }) :=
  if_neg h

theorem State.writeFormNum_some {o : Option Nat} {n lo hi m : Nat} {stage : Nat → Staged → Staged}
    {act : Nat → Form → Form} (h : o = some n) (hl : limit lo hi n = (m, limited)) (form : Nat → List Byte) :
    u.writeFormNum i o lo hi form stage act = u.writeForm i limited (form m) (stage m) (act m) := by
  rw [h, State.writeFormNum, hl]

theorem State.writeFormExact_some {α : Type} {o : Option α} {x : α} {stage : α → Staged → Staged} {act : α → Form → Form}
    (h : o = some x) (form : α → List Byte) :
    u.writeFormExact i o form stage act = u.writeForm i false (form x) (stage x) (act x) := by
  rw [h, State.writeFormExact]

theorem State.writeFormExact_none {α : Type} {o : Option α} {stage : α → Staged → Staged} {act : α → Form → Form}
    (h : o = none) (form : α → List Byte) : u.writeFormExact i o form stage act = .refused := by
  rw [h, State.writeFormExact]

end

theorem State.writeField_staged (u : State) {i : CircuitId} {index : Byte} (hx : index.toNat = i.val) {field : Byte}
    {v : List Byte} {w : Written} (h : u.writeStagedField i field v = some w) :
    u.writeField .circuit index.toNat field v = some w := by
  rw [State.writeField, State.writeCircuit, circuitOf_eq hx, h]

section
variable {s : State} {h : ReqHead} {i : CircuitId} {index field : Byte} {v : List Byte} (hi : s.serviceIdle)
  (hx : index.toNat = i.val)
include hi hx

/-- A write of a staged field that is taken (R148). -/
theorem exec_writeForm {limited : Bool} {held : List Byte} {stage : Staged → Staged} {act : Form → Form}
    (hw : ∀ u : State, u.writeStagedField i field v = some (u.writeForm i limited held stage act)) :
    exec (.tableWriteCircuit h index field v) s = .next
      (if (s.circuit i).state = .sending then
        (s.setCircuit i { s.circuit i with staged := stage (s.circuit i).staged }).answer h 0x03
          (0x02 :: index :: field :: v) .staged limited held
      else
        (s.setCircuit i
          { s.circuit i with
            active := { (s.circuit i).active with form := act (s.circuit i).active.form } }).answer h 0x03
          (0x02 :: index :: field :: v) .done limited held) := by
  have hlt : index.toNat < Table.circuit.entries := by rw [hx]; exact i.isLt
  have hwrite (r : Request) := (s.withHead r).writeField_staged hx (hw _)
  split
  · refine congrArg Host.Outcome.next (State.request_written (code := 0x02) (tb := .circuit) (staged := true) rfl hi rfl
      hlt rfl ((hwrite _).trans (congrArg some ((State.writeForm_sending ‹_›).trans ?_))) hi.2.1
      ((State.setCircuit_settled ..).2 hi.2.2))
    rw [State.withHead_setCircuit, State.withHead_circuit]
  · refine congrArg Host.Outcome.next (State.request_written (code := 0x02) (tb := .circuit) (staged := false) rfl hi rfl
      hlt rfl ((hwrite _).trans (congrArg some ((State.writeForm_idle ‹_›).trans ?_))) hi.2.1
      ((State.setCircuit_settled ..).2 hi.2.2))
    rw [State.withHead_setCircuit, State.withHead_circuit]

theorem exec_writeCircuit_refused
    (hw : ∀ r, (s.withHead r).writeField .circuit index.toNat field v = some .refused) :
    exec (.tableWriteCircuit h index field v) s = .next
      (s.answer h 0x03 (0x02 :: index :: field :: v) .badValue false []) :=
  congrArg Host.Outcome.next
    (State.request_writeRefused (code := 0x02) (tb := .circuit) hi rfl (by rw [hx]; exact i.isLt) hw)

/-- A staged field whose value is not read (R148). -/
theorem exec_writeForm_refused (hw : ∀ u : State, u.writeStagedField i field v = some .refused) :
    exec (.tableWriteCircuit h index field v) s = .next
      (s.answer h 0x03 (0x02 :: index :: field :: v) .badValue false []) :=
  exec_writeCircuit_refused hi hx fun _ => State.writeField_staged _ hx (hw _)

end

/-- Settles O26, field by field. -/
theorem circuitFormWrites : Obligations.CircuitFormWrites := by
  unfold Obligations.CircuitFormWrites
  intro s h i index more hi hx c writes refuses g f
  refine ⟨fun n hn => ?_, ?_, fun n hn => ?_, fun n hn => ?_, fun n hn => ?_, fun b => ⟨?_, ?_, ?_⟩, ?_,
    fun b hb => ?_, fun b hb => ⟨?_, ?_, ?_⟩, ?_, fun b => ?_, ?_, ?_, ?_⟩
  · exact exec_writeForm (stage := fun g => { g with period := some (max 4607 n) })
      (act := fun f => { f with period := max 4607 n }) hi hx fun u =>
      congrArg some (State.writeFormNum_some (readNum2_num2 hn more) (limit_below (Nat.le_of_lt_succ hn)) num2)
  · simp only [List.forall_mem_cons]
    refine ⟨?_, ?_, ?_, List.forall_mem_nil _⟩
    · exact exec_writeForm (stage := fun g => { g with stop := some .one }) (act := fun f => { f with stop := .one }) hi hx
        fun u => rfl
    · exact exec_writeForm (stage := fun g => { g with stop := some .oneAndHalf })
        (act := fun f => { f with stop := .oneAndHalf }) hi hx fun u => rfl
    · exact exec_writeForm (stage := fun g => { g with stop := some .two }) (act := fun f => { f with stop := .two }) hi hx
        fun u => rfl
  · exact exec_writeForm (stage := fun g => { g with width := some (max 20 (min 80 n)) })
      (act := fun f => { f with width := max 20 (min 80 n) }) hi hx fun u =>
      congrArg some (State.writeFormNum_some (readNum1_num1 hn more) rfl num1)
  · exact exec_writeForm (stage := fun g => { g with nCR := some (max 1 (min 2 n)) })
      (act := fun f => { f with nCR := max 1 (min 2 n) }) hi hx fun u =>
      congrArg some (State.writeFormNum_some (readNum1_num1 hn more) rfl num1)
  · exact exec_writeForm (stage := fun g => { g with nLF := some (max 1 (min 2 n)) })
      (act := fun f => { f with nLF := max 1 (min 2 n) }) hi hx fun u =>
      congrArg some (State.writeFormNum_some (readNum1_num1 hn more) rfl num1)
  · exact exec_writeForm (stage := fun g => { g with reassert := some b }) (act := fun f => { f with reassert := b }) hi hx
      fun u => congrArg some (State.writeFormExact_some (readSwitch_sw b more) sw)
  · exact exec_writeForm (stage := fun g => { g with unshift := some b }) (act := fun f => { f with unshift := b }) hi hx
      fun u => congrArg some (State.writeFormExact_some (readSwitch_sw b more) sw)
  · exact exec_writeForm (stage := fun g => { g with spacing := some b }) (act := fun f => { f with spacing := b }) hi hx
      fun u => congrArg some (State.writeFormExact_some (readSwitch_sw b more) sw)
  · have hbell (p : Priority) {field : Byte} (hp : classField 0x09 field = some p)
        (hform : ∀ u : State, u.writeStagedField i field =
          fun v => (classField 0x09 field).map fun p =>
            u.writeFormNum i (readNum1 v) 0 15 num1 (fun n g => { g with bells := g.bells.set p (some n) })
              (fun n g => { g with bells := g.bells.set p n })) (n : Nat) (hn : n < 256) :
        writes field (num1 n) (num1 (min 15 n)) (decide (15 < n)) { g with bells := g.bells.set p (some (min 15 n)) }
          { f with bells := f.bells.set p (min 15 n) } :=
      exec_writeForm (stage := fun g => { g with bells := g.bells.set p (some (min 15 n)) })
        (act := fun f => { f with bells := f.bells.set p (min 15 n) }) hi hx fun u => by
          rw [hform u, hp]
          exact congrArg some (State.writeFormNum_some (readNum1_num1 hn more) (limit_above 15 n) num1)
    simp only [List.forall_mem_cons]
    exact ⟨hbell .flash rfl fun _ => rfl, hbell .bulletin rfl fun _ => rfl, hbell .urgent rfl fun _ => rfl,
      hbell .routine rfl fun _ => rfl, hbell .deferred rfl fun _ => rfl, List.forall_mem_nil _⟩
  · exact exec_writeForm_refused hi hx fun u =>
      congrArg some (State.writeFormExact_none (readChoice_undefined (byte_not_mem hb (by decide)) more) _)
  all_goals refine exec_writeForm_refused hi hx fun u => ?_
  · exact congrArg some (State.writeFormExact_none (readSwitch_undefined hb more) _)
  · exact congrArg some (State.writeFormExact_none (readSwitch_undefined hb more) _)
  · exact congrArg some (State.writeFormExact_none (readSwitch_undefined hb more) _)
  all_goals rfl

end Sys2Proof.Machine
end


-- ==== sitting 4: writes of the CIRCUIT fields that apply at once (R117, R126, R127, R129, R144, R147) ====
section
/-! A field that is never staged, written: the profile takes the value, and a stop mode, a break detect time and a restore
time act on the line at once. -/

namespace Sys2Proof.Machine

open Sys2Proof

/-! ### Effects that do not see the request queue -/

theorem State.withHead_queueFrame (s : State) (r : Request) (l : LinkId) (frame : List Byte) :
    (s.withHead r).queueFrame l frame = (s.queueFrame l frame).withHead r := by
  rcases Nat.lt_or_ge (s.link l).replies.length 4 with hlt | hge
  · rw [State.queueFrame_room hlt, State.queueFrame_room (s := s.withHead r) hlt]
    rfl
  · rw [State.queueFrame_full hge, State.queueFrame_full (s := s.withHead r) hge]
    rfl

theorem State.withHead_notice (s : State) (r : Request) (kind : Byte) (fields : List Byte) :
    (s.withHead r).notice kind fields = (s.notice kind fields).withHead r :=
  State.withHead_queueFrame { s with noticeNumber := s.noticeNumber + 1 } r _ _

theorem State.withHead_recordFault (s : State) (r : Request) (src : Fin 26) (code : FaultCode) :
    (s.withHead r).recordFault src code = (s.recordFault src code).withHead r := by
  by_cases hn : s.settings.notices = false ∨ code = .replyOverflow
  · rw [State.recordFault_silent hn, State.recordFault_silent (s := s.withHead r) hn]
    rfl
  · obtain ⟨hon, hc⟩ := not_or.1 hn
    have hon : s.settings.notices = true := by simpa using hon
    rw [State.recordFault_noticed hon hc, State.recordFault_noticed (s := s.withHead r) hon hc]
    exact State.withHead_notice (s.setFault src code) r _ _

theorem State.withHead_detectIfDue (s : State) (r : Request) (i : CircuitId) :
    (s.withHead r).detectIfDue i = (s.detectIfDue i).withHead r := by
  unfold State.detectIfDue State.detectBreak
  rw [State.withHead_recordFault, State.withHead_circuit]
  split <;> rfl

theorem State.withHead_restoreIfDue (s : State) (r : Request) (i : CircuitId) :
    (s.withHead r).restoreIfDue i = (s.restoreIfDue i).withHead r := by
  unfold State.restoreIfDue
  rw [State.withHead_circuit]
  split <;> rfl

theorem State.detectIfDue_requests (s : State) (i : CircuitId) : (s.detectIfDue i).requests = s.requests := by
  unfold State.detectIfDue State.detectBreak
  split
  · exact s.recordFault_requests _ _
  · rfl

theorem State.restoreIfDue_requests (s : State) (i : CircuitId) : (s.restoreIfDue i).requests = s.requests := by
  unfold State.restoreIfDue
  split <;> rfl

theorem State.modCircuit_modCircuit (s : State) (i : CircuitId) (f g : Circuit → Circuit) :
    (s.modCircuit i f).modCircuit i g = s.setCircuit i (g (f (s.circuit i))) := by
  rw [State.modCircuit, State.modCircuit_circuit_self, State.modCircuit, State.setCircuit_setCircuit]

/-- A level stop mode shown (R117, log 41). -/
theorem Circuit.showStopMode_level {c : Circuit} {v : Slot} (h : c.active.stopMode.level = some v) :
    c.showStopMode =
      { c with slot := if (c.state = .stopped ∨ c.state = .faulted) ∧ c.pacer.running = false then v else c.slot } := by
  unfold Circuit.showStopMode
  rw [h]
  by_cases hs : c.state = .stopped ∨ c.state = .faulted
  · cases hr : c.pacer.running <;> simp [hs]
  · simp [hs]

/-- Stop mode FILL shown: it starts a pacer that stands (R144, log 19). -/
theorem Circuit.showStopMode_fill {c : Circuit} (h : c.active.stopMode.level = none) :
    c.showStopMode =
      { c with
        pacer := if (c.state = .stopped ∨ c.state = .faulted) ∧ c.pacer.running = false then
            { running := true, period := c.active.form.period, charLen := c.active.form.stop.charLen }
          else c.pacer } := by
  unfold Circuit.showStopMode Circuit.startPacer
  rw [h]
  by_cases hs : c.state = .stopped ∨ c.state = .faulted
  · cases hr : c.pacer.running <;> simp [hs]
  · simp [hs]

/-! ### A plain field written -/

theorem State.writeField_plain (u : State) {i : CircuitId} {index : Byte} (hx : index.toNat = i.val) {field : Byte}
    {v : List Byte} (h : u.writeStagedField i field v = none) :
    u.writeField .circuit index.toNat field v = u.writePlainField i field v := by
  rw [State.writeField, State.writeCircuit, circuitOf_eq hx, h]

section
variable {s : State} {h : ReqHead} {i : CircuitId} {index field : Byte} {v : List Byte} (hi : s.serviceIdle)
  (hx : index.toNat = i.val)
include hi hx

theorem exec_writePlain {t : State} {limited : Bool} {held : List Byte}
    (hplain : ∀ u : State, u.writeStagedField i field v = none)
    (hw : ∀ r, (s.withHead r).writePlainField i field v = some (.taken false limited held (t.withHead r)))
    (hq : t.requests = []) (hs : t.settled) :
    exec (.tableWriteCircuit h index field v) s = .next
      (t.answer h 0x03 (0x02 :: index :: field :: v) .done limited held) :=
  congrArg Host.Outcome.next (State.request_written (code := 0x02) (tb := .circuit) (staged := false) rfl hi rfl
    (by rw [hx]; exact i.isLt) rfl ((State.writeField_plain _ hx (hplain _)).trans (hw _)) hq hs)

/-- A write that changes one circuit and nothing else. -/
theorem exec_writePlain_circuit {c : Circuit} {limited : Bool} {held : List Byte}
    (hplain : ∀ u : State, u.writeStagedField i field v = none)
    (hw : ∀ u : State, u.circuit i = s.circuit i →
      u.writePlainField i field v = some (.taken false limited held (u.setCircuit i c))) :
    exec (.tableWriteCircuit h index field v) s = .next
      ((s.setCircuit i c).answer h 0x03 (0x02 :: index :: field :: v) .done limited held) :=
  exec_writePlain hi hx hplain (fun r => (hw (s.withHead r) rfl).trans (by rw [State.withHead_setCircuit])) hi.2.1
    ((State.setCircuit_settled ..).2 hi.2.2)

/-- A write of a profile field without further effect. -/
theorem exec_writeProfile {f : Profile → Profile} {limited : Bool} {held : List Byte}
    (hplain : ∀ u : State, u.writeStagedField i field v = none)
    (hw : ∀ u : State, u.circuit i = s.circuit i →
      u.writePlainField i field v = some (.taken false limited held (u.modProfile i f))) :
    exec (.tableWriteCircuit h index field v) s = .next
      ((s.setCircuit i { s.circuit i with active := f (s.circuit i).active }).answer h 0x03
        (0x02 :: index :: field :: v) .done limited held) :=
  exec_writePlain_circuit hi hx hplain fun u hu => (hw u hu).trans (by rw [State.modProfile, State.modCircuit, hu])

theorem exec_writePlain_refused (hplain : ∀ u : State, u.writeStagedField i field v = none)
    (hw : ∀ u : State, u.circuit i = s.circuit i → u.writePlainField i field v = some .refused) :
    exec (.tableWriteCircuit h index field v) s = .next
      (s.answer h 0x03 (0x02 :: index :: field :: v) .badValue false []) :=
  exec_writeCircuit_refused hi hx fun _ => (State.writeField_plain _ hx (hplain _)).trans (hw _ rfl)

end

section
variable {u : State} {i : CircuitId} {v : List Byte}

theorem State.writeAbCheck_some {b : Bool} (hv : readSwitch v = some b) :
    u.writeAbCheck i v =
      if b = true ∧ (u.circuit i).active.abExpected = [] then .refused
      else .taken false false (sw b) (u.modProfile i fun p => { p with abCheck := b }) := by
  rw [State.writeAbCheck, hv]

theorem State.writeAbCheck_none (hv : readSwitch v = none) : u.writeAbCheck i v = .refused := by
  rw [State.writeAbCheck, hv]

theorem State.writeAbExpected_some {cs : List Byte} (hv : readString 16 v = some cs) :
    u.writeAbExpected i v =
      if cs.all isAnswerChar = false ∨ (cs = [] ∧ (u.circuit i).active.abCheck = true) then .refused
      else .taken false false (str cs) (u.modProfile i fun p => { p with abExpected := cs }) := by
  rw [State.writeAbExpected, hv]

theorem State.writeAbExpected_none (hv : readString 16 v = none) : u.writeAbExpected i v = .refused := by
  rw [State.writeAbExpected, hv]

/-- A stop mode written: the profile takes it and the line shows it (R117). -/
theorem State.writeStopMode {m : StopMode} (hv : readChoice stopModeCodes v = some m) :
    u.writePlainField i 0x0E v = some (.taken false false (codeOf stopModeCodes m)
      (u.setCircuit i
        ({ u.circuit i with active := { (u.circuit i).active with stopMode := m } } : Circuit).showStopMode)) := by
  have hfield : u.writePlainField i 0x0E v =
      some (.exact (readChoice stopModeCodes v) (codeOf stopModeCodes) fun m =>
        (u.modProfile i fun p => { p with stopMode := m }).modCircuit i (·.showStopMode)) := rfl
  rw [hfield, Written.exact_some hv, State.modProfile, State.modCircuit_modCircuit]

end

/-- Settles O27, field by field. -/
theorem circuitPlainWrites : Obligations.CircuitPlainWrites := by
  unfold Obligations.CircuitPlainWrites
  intro s h i index more hi hx c p becomes writes refuses
  refine ⟨?_, ?_, ?_, fun b => ?_, fun b hb => ?_, fun hp => ?_, fun cs hlen hcs hne => ?_, fun cs hlen hbad => ?_,
    fun n hn => ⟨?_, ?_, ?_, ?_, ?_, ?_⟩, ?_, fun n hn => ?_, fun b => ⟨fun hb => ⟨?_, ?_⟩, fun hb => ⟨?_, ?_, ?_⟩⟩⟩
  · have hlevel (b : Byte) (m : StopMode) (v : Slot) (hm : readChoice stopModeCodes ([b] ++ more) = some m)
        (hcode : codeOf stopModeCodes m = [b]) (hv : m.level = some v) :
        becomes 0x0E [b] [b] false (s.setCircuit i
          { c with
            active := { p with stopMode := m }
            slot := if (c.state = .stopped ∨ c.state = .faulted) ∧ c.pacer.running = false then v else c.slot }) :=
      exec_writePlain_circuit hi hx (fun _ => rfl) fun u hu => by
        rw [State.writeStopMode hm, hcode, hu, Circuit.showStopMode_level hv]
    simp only [List.forall_mem_cons]
    exact ⟨hlevel _ .mark .mark rfl rfl rfl, hlevel _ .space .space rfl rfl rfl, List.forall_mem_nil _⟩
  · exact exec_writePlain_circuit hi hx (fun _ => rfl) fun u hu => by
      rw [State.writeStopMode (m := .fill) rfl, hu, Circuit.showStopMode_fill rfl]
      rfl
  · simp only [List.forall_mem_cons]
    exact ⟨exec_writeProfile (f := fun p => { p with idleMode := .mark }) hi hx (fun _ => rfl) fun u _ => rfl,
      exec_writeProfile (f := fun p => { p with idleMode := .fill }) hi hx (fun _ => rfl) fun u _ => rfl,
      List.forall_mem_nil _⟩
  · exact exec_writeProfile (f := fun p => { p with accepting := b }) hi hx (fun _ => rfl) fun u _ =>
      congrArg some (Written.exact_some (readSwitch_sw b more) ..)
  · refine exec_writeProfile (f := fun p => { p with abCheck := b }) hi hx (fun _ => rfl) fun u hu => ?_
    refine congrArg some ((State.writeAbCheck_some (readSwitch_sw b more)).trans (if_neg ?_))
    rw [hu]
    rintro ⟨rfl, he⟩
    exact hb.elim (fun hf => nomatch hf) fun hne => hne he
  · refine exec_writePlain_refused hi hx (fun _ => rfl) fun u hu => ?_
    refine congrArg some ((State.writeAbCheck_some (readSwitch_sw true more)).trans (if_pos ⟨rfl, ?_⟩))
    rw [hu]
    exact hp
  · refine exec_writeProfile (f := fun p => { p with abExpected := cs }) hi hx (fun _ => rfl) fun u hu => ?_
    refine congrArg some ((State.writeAbExpected_some (readString_str hlen (by omega) more)).trans (if_neg ?_))
    rw [hu]
    rintro (hf | ⟨he, hon⟩)
    · exact absurd (hcs.symm.trans hf) (by decide)
    · exact hne.elim (fun h => h he) fun hoff => absurd (hoff.symm.trans hon) (by decide)
  · refine exec_writePlain_refused hi hx (fun _ => rfl) fun u hu => ?_
    by_cases hlong : 16 < cs.length
    · exact congrArg some (State.writeAbExpected_none (readString_long hlong hlen more))
    · refine congrArg some
        ((State.writeAbExpected_some (readString_str (Nat.not_lt.1 hlong) hlen more)).trans (if_pos ?_))
      rw [hu]
      exact hbad.resolve_left hlong
  · exact exec_writeProfile (f := fun p => { p with abWindow := max 500 (min 10000 n) }) hi hx (fun _ => rfl) fun u _ =>
      congrArg some (Written.number_some (readNum2_num2 hn more) rfl ..)
  · intro t
    refine exec_writePlain (t := t.detectIfDue i) hi hx (fun _ => rfl) (fun r => ?_)
      ((t.detectIfDue_requests i).trans hi.2.1)
      (((State.setCircuit_settled ..).2 hi.2.2).of_sameWaits (.detectIfDue t i))
    rw [← State.withHead_detectIfDue]
    exact congrArg some (Written.number_some (readNum2_num2 hn more) rfl ..)
  · intro t
    refine exec_writePlain (t := t.restoreIfDue i) hi hx (fun _ => rfl) (fun r => ?_)
      ((t.restoreIfDue_requests i).trans hi.2.1)
      (((State.setCircuit_settled ..).2 hi.2.2).of_sameWaits (.restoreIfDue t i))
    rw [← State.withHead_restoreIfDue]
    exact congrArg some (Written.number_some (readNum2_num2 hn more) rfl ..)
  · exact exec_writeProfile (f := fun p => { p with breakInWait := n }) hi hx (fun _ => rfl) fun u _ =>
      congrArg some (Written.number_some (readNum2_num2 hn more) (limit_within (Nat.le_of_lt_succ hn)) ..)
  · exact exec_writeProfile (f := fun p => { p with shed := min 3600 n }) hi hx (fun _ => rfl) fun u _ =>
      congrArg some (Written.number_some (readNum2_num2 hn more) (limit_above 3600 n) ..)
  · have hstale (q : Priority) {field : Byte} (hq : classField 0x1A field = some q)
        (hplain : ∀ u : State, u.writeStagedField i field (num2 n ++ more) = none)
        (hform : ∀ u : State, u.writePlainField i field =
          fun v => (classField 0x1A field).map fun q =>
            .number (readNum2 v) 0 1440 num2 fun n => u.modProfile i fun p => { p with stale := p.stale.set q n }) :
        writes field (num2 n) (num2 (min 1440 n)) (decide (1440 < n))
          { p with stale := p.stale.set q (min 1440 n) } :=
      exec_writeProfile (f := fun p => { p with stale := p.stale.set q (min 1440 n) }) hi hx hplain fun u _ => by
        rw [hform u, hq]
        exact congrArg some (Written.number_some (readNum2_num2 hn more) (limit_above 1440 n) ..)
    simp only [List.forall_mem_cons]
    exact ⟨hstale .flash rfl (fun _ => rfl) fun _ => rfl, hstale .bulletin rfl (fun _ => rfl) fun _ => rfl,
      hstale .urgent rfl (fun _ => rfl) fun _ => rfl, hstale .routine rfl (fun _ => rfl) fun _ => rfl,
      hstale .deferred rfl (fun _ => rfl) fun _ => rfl, List.forall_mem_nil _⟩
  · simp only [List.forall_mem_cons]
    exact ⟨exec_writeProfile (f := fun p => { p with breakInLevel := .none }) hi hx (fun _ => rfl) fun u _ => rfl,
      exec_writeProfile (f := fun p => { p with breakInLevel := .flash }) hi hx (fun _ => rfl) fun u _ => rfl,
      exec_writeProfile (f := fun p => { p with breakInLevel := .flashBulletin }) hi hx (fun _ => rfl) fun u _ => rfl,
      List.forall_mem_nil _⟩
  · exact exec_writeProfile (f := fun p => { p with depth := max 1 (min 64 n) }) hi hx (fun _ => rfl) fun u _ =>
      congrArg some (Written.number_some (readNum1_num1 hn more) rfl ..)
  all_goals refine exec_writePlain_refused hi hx (fun _ => rfl) fun u _ => ?_
  · exact congrArg some (Written.exact_none (readChoice_undefined (byte_not_mem_of_lt hb (by decide)) more) ..)
  · exact congrArg some (Written.exact_none (readChoice_undefined (byte_not_mem_of_lt hb (by decide)) more) ..)
  · exact congrArg some (Written.exact_none (readChoice_undefined (byte_not_mem_of_lt hb (by decide)) more) ..)
  · exact congrArg some (Written.exact_none (readSwitch_undefined hb more) ..)
  · exact congrArg some (State.writeAbCheck_none (readSwitch_undefined hb more))

end Sys2Proof.Machine
end


-- ==== sitting 4: writes of the LINK table (R1, R19 to R22, R157) ====
section
/-! A LINK field written between frames, within one, or with a value that is refused. -/

namespace Sys2Proof.Machine

open Sys2Proof

/-! ### Effects that do not see the request queue -/

theorem State.withHead_enableLink (s : State) (r : Request) (l : LinkId) :
    (s.withHead r).enableLink l = (s.enableLink l).withHead r := by
  by_cases h : (s.link l).rx = .disabled
  · rw [State.enableLink_disabled h, State.enableLink_disabled (s := s.withHead r) h]
    rfl
  · rw [State.enableLink_enabled h, State.enableLink_enabled (s := s.withHead r) h]

theorem State.withHead_disableLink (s : State) (r : Request) (l : LinkId) :
    (s.withHead r).disableLink l = (s.disableLink l).withHead r := by
  by_cases h : (s.link l).rx = .disabled
  · rw [State.disableLink_disabled h, State.disableLink_disabled (s := s.withHead r) h]
  · rw [State.disableLink_enabled h, State.disableLink_enabled (s := s.withHead r) h]
    rfl

theorem State.withHead_expireHoldIfDue (s : State) (r : Request) (l : LinkId) :
    (s.withHead r).expireHoldIfDue l = (s.expireHoldIfDue l).withHead r := by
  unfold State.expireHoldIfDue
  rw [State.withHead_link]
  split
  · have hr : ((s.withHead r).modLink l fun k => { k with holdSpent := true }).refreshHold l =
        ((s.modLink l fun k => { k with holdSpent := true }).refreshHold l).withHead r := rfl
    unfold State.expireHold
    rw [hr, State.withHead_recordFault]
    rfl
  · rfl

theorem State.enableLink_requests (s : State) (l : LinkId) : (s.enableLink l).requests = s.requests := by
  unfold State.enableLink
  split <;> rfl

theorem State.disableLink_requests (s : State) (l : LinkId) : (s.disableLink l).requests = s.requests := by
  unfold State.disableLink
  split <;> rfl

theorem State.expireHoldIfDue_requests (s : State) (l : LinkId) : (s.expireHoldIfDue l).requests = s.requests := by
  unfold State.expireHoldIfDue State.expireHold
  split
  · exact State.recordFault_requests ..
  · rfl

theorem State.enableLink_settled {s : State} (h : s.settled) (l : LinkId) : (s.enableLink l).settled := by
  by_cases hx : (s.link l).rx = .disabled
  · rw [State.enableLink_disabled hx]
    exact State.setLink_settled h (.inl rfl)
  · rwa [State.enableLink_enabled hx]

theorem State.disableLink_settled {s : State} (h : s.settled) (l : LinkId) : (s.disableLink l).settled := by
  by_cases hx : (s.link l).rx = .disabled
  · rwa [State.disableLink_disabled hx]
  · rw [State.disableLink_enabled hx]
    exact State.setLink_settled h (.inl rfl)

/-! ### Agency tags (R1) -/

theorem readTag_letters {a b : Byte} (h : (isLetter a && isLetter b) = true) (more : List Byte) :
    readTag (0x02 :: a :: b :: more) = some [a, b] := by
  have hstr : readString 2 (0x02 :: a :: b :: more) = some [a, b] :=
    readString_str (cs := [a, b]) le_rfl (by simp) more
  rw [readTag, hstr]
  exact if_pos ⟨rfl, by simpa using h⟩

theorem readTag_other {a b : Byte} (h : (isLetter a && isLetter b) = false) (more : List Byte) :
    readTag (0x02 :: a :: b :: more) = none := by
  have hstr : readString 2 (0x02 :: a :: b :: more) = some [a, b] :=
    readString_str (cs := [a, b]) le_rfl (by simp) more
  rw [readTag, hstr]
  exact if_neg fun hl => absurd ((by simpa using hl.2 : (isLetter a && isLetter b) = true).symm.trans h) (by decide)

theorem readTag_length {n : Byte} (h : n ≠ 0x02) (more : List Byte) : readTag (n :: more) = none := by
  by_cases hn : n.toNat ≤ 2 ∧ n.toNat ≤ more.length
  · have hstr : readString 2 (n :: more) = some (more.take n.toNat) := if_pos hn
    rw [readTag, hstr]
    refine if_neg fun hl => h (BitVec.eq_of_toNat_eq ?_)
    have hlen := hl.1
    rwa [List.length_take, Nat.min_eq_left hn.2] at hlen
  · have hstr : readString 2 (n :: more) = none := if_neg hn
    rw [readTag, hstr]

/-! ### Whether a write is taken does not depend on the state -/

/-- Whether a write is taken. -/
def Written.isTaken : Written → Bool
  | .refused => false
  | .taken _ _ _ _ => true

theorem Written.exact_isTaken {α : Type} (o : Option α) (form : α → List Byte) (act : α → State) :
    (Written.exact o form act).isTaken = o.isSome := by
  cases o <;> rfl

theorem Written.number_isTaken (o : Option Nat) (lo hi : Nat) (form : Nat → List Byte) (act : Nat → State) :
    (Written.number o lo hi form act).isTaken = o.isSome := by
  cases o <;> rfl

theorem Written.isTaken_iff (o : Option Written) :
    o.map Written.isTaken = some true ↔ ∃ staged limited held t, o = some (.taken staged limited held t) := by
  rcases o with _ | _ | ⟨staged, limited, held, t⟩ <;> simp [Written.isTaken]

theorem State.writeLink_isTaken (s u : State) (n : Nat) (f : Byte) (v : List Byte) :
    (s.writeLink n f v).map Written.isTaken = (u.writeLink n f v).map Written.isTaken := by
  simp only [State.writeLink, apply_ite (Option.map Written.isTaken), Option.map_some, Option.map_none,
    Written.exact_isTaken, Written.number_isTaken]

/-! ### O28 -/

section
variable {s : State} {h : ReqHead} {l : LinkId} {index field : Byte} {v : List Byte} (hi : s.serviceIdle)
  (hx : index.toNat = l.val)
include hi hx

theorem exec_writeLink_refused (hw : ∀ u : State, u.writeLink index.toNat field v = some .refused) :
    exec (.tableWriteLink h index field v) s = .next
      (s.answer h 0x03 (0x03 :: index :: field :: v) .badValue false []) :=
  congrArg Host.Outcome.next
    (State.request_writeRefused (code := 0x03) (tb := .link) hi rfl (by rw [hx]; exact l.isLt) fun _ => hw _)

theorem exec_writeLink_held (hbusy : (s.link l).rx.betweenFrames = false)
    (hw : ∃ staged limited held t, s.writeLink l.val field v = some (.taken staged limited held t)) :
    exec (.tableWriteLink h index field v) s = .next (s.held h 0x03 (0x03 :: index :: field :: v)) := by
  refine congrArg Host.Outcome.next (State.request_held hi ?_)
  have htaken (r : Request) := State.writeLink_isTaken (s.withHead r) s l.val field v
  rw [(Written.isTaken_iff _).2 hw] at htaken
  obtain ⟨staged, limited, held, t, ht⟩ := (Written.isTaken_iff _).1 (htaken (ReqHead.request h 0x03 _))
  rw [State.perform_write _ (tb := .link) rfl (by rw [hx]; exact l.isLt), State.writeField, hx, ht]
  refine if_pos ?_
  have hlink : linkOf l.val = l := Fin.ofNat_val_eq_self l
  simp [State.writeWaits, hlink, hbusy]

section
variable (hbetween : (s.link l).rx.betweenFrames = true)
include hbetween

theorem exec_writeLink {t : State} {limited : Bool} {held : List Byte}
    (hw : ∀ r, (s.withHead r).writeLink index.toNat field v = some (.taken false limited held (t.withHead r)))
    (hq : t.requests = []) (hs : t.settled) :
    exec (.tableWriteLink h index field v) s = .next
      (t.answer h 0x03 (0x03 :: index :: field :: v) .done limited held) :=
  congrArg Host.Outcome.next (State.request_written (code := 0x03) (tb := .link) (staged := false) rfl hi rfl
    (by rw [hx]; exact l.isLt) (by simp [State.writeWaits, linkOf_eq hx, hbetween]) (hw _) hq hs)

/-- A write that changes one link, but for its FIFO, and nothing else. -/
theorem exec_writeLink_link {f : Link → Link} {limited : Bool} {held : List Byte} (hf : ∀ k : Link, (f k).fifo = k.fifo)
    (hw : ∀ u : State, u.store = s.store →
      u.writeLink index.toNat field v = some (.taken false limited held (u.modLink (linkOf index.toNat) f))) :
    exec (.tableWriteLink h index field v) s = .next
      ((s.setLink l (f (s.link l))).answer h 0x03 (0x03 :: index :: field :: v) .done limited held) :=
  exec_writeLink (t := s.modLink l f) hi hx hbetween
    (fun r => (hw (s.withHead r) rfl).trans (by rw [linkOf_eq hx, State.withHead_modLink])) hi.2.1
    (State.setLink_settled hi.2.2 (.inr (hf _)))

end

end

/-- Settles O28, field by field; a write within a frame waits whatever its field, and a refused one does not look at the
link. -/
theorem linkWrites : Obligations.LinkWrites := by
  unfold Obligations.LinkWrites
  intro s h l index more hi hx k refuses
  refine ⟨fun hr => ?_, fun hidle hdisabled field v hw => ?_, fun b =>
    ⟨fun hb => ?_, fun hb => ⟨?_, ?_, ?_, ?_, ?_, ?_⟩, fun hb => ?_, fun a hab => ?_⟩⟩
  · have hbetween : (s.link l).rx.betweenFrames = true := (Rx.betweenFrames_iff _).2 hr
    intro becomes writes
    have hprofile {field : Byte} {v : List Byte} (f : LinkProfile → LinkProfile)
        (hw : ∀ u : State, u.writeLink index.toNat field (v ++ more) =
          some (.taken false false v (u.modLinkProfile (linkOf index.toNat) f))) :
        writes field v (f k.profile) :=
      exec_writeLink_link (f := fun k => { k with profile := f k.profile }) hi hx hbetween (fun _ => rfl) fun u _ => hw u
    refine ⟨?_, ?_, ?_, fun b => ⟨?_, ?_, ?_, ?_⟩, fun b => ⟨?_, ?_⟩, ?_, fun a b ha hb => ?_, fun n hn => ⟨?_, ?_⟩⟩
    · refine exec_writeLink (t := s.enableLink l) hi hx hbetween (fun r => ?_) ((s.enableLink_requests l).trans hi.2.1)
        (State.enableLink_settled hi.2.2 l)
      rw [← State.withHead_enableLink, ← linkOf_eq hx]
      rfl
    · refine exec_writeLink (t := s.disableLink l) hi hx hbetween (fun r => ?_) ((s.disableLink_requests l).trans hi.2.1)
        (State.disableLink_settled hi.2.2 l)
      rw [← State.withHead_disableLink, ← linkOf_eq hx]
      rfl
    · simp only [List.forall_mem_cons]
      exact ⟨hprofile (fun p => { p with rate := .b1200 }) fun u => rfl,
        hprofile (fun p => { p with rate := .b2400 }) fun u => rfl,
        hprofile (fun p => { p with rate := .b4800 }) fun u => rfl,
        hprofile (fun p => { p with rate := .b9600 }) fun u => rfl, List.forall_mem_nil _⟩
    · exact hprofile (fun p => { p with check := b }) fun u =>
        congrArg some (Written.exact_some (readSwitch_sw b more) ..)
    · exact hprofile (fun p => { p with servicePermitted := b }) fun u =>
        congrArg some (Written.exact_some (readSwitch_sw b more) ..)
    · exact hprofile (fun p => { p with dupSuppress := b }) fun u =>
        congrArg some (Written.exact_some (readSwitch_sw b more) ..)
    · intro up
      let written : Link := { k with profile := { k.profile with holdCapable := b } }
      have hhold : written.refreshHold s.store.low =
          { written with hold := up, holdTicks := if up = k.hold then k.holdTicks else 0 } :=
        Link.refreshHold_eq ..
      have hw := exec_writeLink_link (h := h) (field := 0x07) (v := sw b ++ more) (limited := false) (held := sw b)
        (f := fun k => Link.refreshHold s.store.low { k with profile := { k.profile with holdCapable := b } })
        hi hx hbetween (fun k => by rw [Link.refreshHold_holdOnly]) fun u hu => by
          rw [← hu]
          refine (congrArg some (Written.exact_some (readSwitch_sw b more) ..)).trans ?_
          rw [State.modLinkProfile, State.modLink_refreshHold]
          rfl
      exact hw.trans (congrArg (fun k => Host.Outcome.next ((s.setLink l k).answer h 0x03
        (0x03 :: index :: 0x07 :: (sw b ++ more)) .done false (sw b))) hhold)
    · have hnum : num1 b.toNat = [b] := by simp [num1]
      refine hprofile (fun p => { p with poly := b }) fun u => ?_
      refine (congrArg some (Written.exact_some (x := b.toNat) rfl ..)).trans ?_
      rw [hnum, BitVec.ofNat_toNat, BitVec.setWidth_eq]
    · have hnum : num1 b.toNat = [b] := by simp [num1]
      refine hprofile (fun p => { p with init := b }) fun u => ?_
      refine (congrArg some (Written.exact_some (x := b.toNat) rfl ..)).trans ?_
      rw [hnum, BitVec.ofNat_toNat, BitVec.setWidth_eq]
    · simp only [List.forall_mem_cons]
      exact ⟨hprofile (fun p => { p with policy := .mark }) fun u => rfl,
        hprofile (fun p => { p with policy := .discard }) fun u => rfl, List.forall_mem_nil _⟩
    · exact hprofile (fun p => { p with tag := [a, b] }) fun u =>
        congrArg some (Written.exact_some (readTag_letters (by simp [ha, hb]) more) ..)
    · intro t
      have hdue : t.expireHoldIfDue l =
          if k.hold = true ∧ max 100 (min 60000 n) ≤ k.holdTicks then t.expireHold l else t := by
        have hlink : t.link l = { k with profile := { k.profile with holdLimit := max 100 (min 60000 n) } } :=
          State.setLink_link_self ..
        simp only [State.expireHoldIfDue, Link.holdDue, hlink, Bool.and_eq_true, decide_eq_true_eq]
      have hsettled : t.settled := State.setLink_settled hi.2.2 (.inr rfl)
      rw [← hdue]
      refine exec_writeLink (t := t.expireHoldIfDue l) hi hx hbetween (fun r => ?_)
        ((t.expireHoldIfDue_requests l).trans hi.2.1)
        (hsettled.of_sameWaits (.expireHoldIfDue t l))
      rw [← State.withHead_expireHoldIfDue]
      refine (congrArg some (Written.number_some (readNum2_num2 hn more) rfl ..)).trans ?_
      rw [linkOf_eq hx]
      rfl
    · have hzero : decide (min 3600 n ≠ 0) = decide (n ≠ 0) := decide_eq_decide.2 (by omega)
      have hw := exec_writeLink_link (h := h) (field := 0x0B) (v := num2 n ++ more) (limited := decide (3600 < n))
        (held := num2 (min 3600 n))
        (f := fun k => Link.silenceWritten { k with profile := { k.profile with silenceLimit := min 3600 n } })
        hi hx hbetween (fun _ => rfl) fun u _ => by
          refine (congrArg some (Written.number_some (readNum2_num2 hn more) (limit_above 3600 n) ..)).trans ?_
          rw [State.modLinkProfile, State.modLink_modLink]
      simp only [Link.silenceWritten, hzero] at hw
      exact hw
  · exact exec_writeLink_held hi hx (Bool.eq_false_iff.2 fun hb => ((Rx.betweenFrames_iff _).1 hb).elim hidle hdisabled) hw
  all_goals refine exec_writeLink_refused hi hx fun u => ?_
  · exact congrArg some (Written.exact_none (readChoice_undefined (byte_not_mem_of_lt hb (by decide)) more) ..)
  · exact congrArg some (Written.exact_none (readSwitch_undefined hb more) ..)
  · exact congrArg some (Written.exact_none (readSwitch_undefined hb more) ..)
  · exact congrArg some (Written.exact_none (readChoice_undefined (byte_not_mem_of_lt hb (by decide)) more) ..)
  · exact congrArg some (Written.exact_none (readSwitch_undefined hb more) ..)
  · exact congrArg some (Written.exact_none (readSwitch_undefined hb more) ..)
  · exact congrArg some (Written.exact_none (readSwitch_undefined hb more) ..)
  · exact congrArg some (Written.exact_none (readTag_length hb more) ..)
  · exact congrArg some (Written.exact_none (readTag_other hab more) ..)

end Sys2Proof.Machine
end


-- ==== sitting 4: writes of the STORE and SERVICE tables (R25, R26, R29, R164, R175) ====
section
/-! A STORE setting tested against the order and then LOW against it; a SERVICE setting. -/

namespace Sys2Proof.Machine

open Sys2Proof

/-! ### LOW tested against settings just taken (R26) -/

/-- LOW tested, for exit and then for entry. -/
abbrev State.lowTested (s : State) : State := s.testLowExit.testLowEntry

/-- The request queue and the FIFOs are those of `s`. -/
def State.SameQueues (s t : State) : Prop := t.requests = s.requests ∧ ∀ l, (t.link l).fifo = (s.link l).fifo

theorem grantKeeps_sameQueues (s : State) : GrantKeeps s.SameQueues where
  number _ h := h
  setFault _ h := h
  push _ _ h := ⟨h.1, fun m => by
    rw [State.modLink_link]
    split
    · exact h.2 _
    · exact h.2 m⟩
  store _ h := h
  holds {t f} hf h := ⟨h.1, fun m => by
    have hm : ({ t with links := t.links.map f } : State).link m = f (t.link m) := by simp [State.link]
    rw [hm, hf]
    exact h.2 m⟩

theorem State.lowTested_sameQueues (s : State) : s.SameQueues s.lowTested :=
  (grantKeeps_sameQueues s).testLowEntry ((grantKeeps_sameQueues s).testLowExit ⟨rfl, fun _ => rfl⟩)

theorem State.lowTested_waiting (s : State) : s.lowTested.store.waiting = s.store.waiting := by
  rw [State.testLowEntry_store, State.testLowExit_store]

theorem State.lowTested_settled {s : State} (h : s.settled) : s.lowTested.settled :=
  State.settled_of_eq h s.lowTested_waiting s.lowTested_sameQueues.2

theorem State.withHead_testLowExit (s : State) (r : Request) :
    (s.withHead r).testLowExit = s.testLowExit.withHead r := by
  unfold State.testLowExit
  rw [State.withHead_store]
  split <;> rfl

theorem State.withHead_testLowEntry (s : State) (r : Request) :
    (s.withHead r).testLowEntry = s.testLowEntry.withHead r := by
  unfold State.testLowEntry
  rw [State.withHead_store]
  split
  · rw [State.withHead_modStore, State.withHead_recordFault]
    rfl
  · rfl

theorem State.withHead_lowTested (s : State) (r : Request) : (s.withHead r).lowTested = s.lowTested.withHead r := by
  rw [State.lowTested, State.withHead_testLowExit, State.withHead_testLowEntry]

/-- LOW after the test, the marks being in order. -/
theorem State.lowTested_store {s : State} (h : s.store.lowWater < s.store.highWater) :
    s.lowTested.store =
      { s.store with
        low := if s.store.low then decide (s.store.free < s.store.highWater)
          else decide (s.store.free ≤ s.store.lowWater) } := by
  rw [State.testLowEntry_store, State.testLowExit_store]
  cases hlow : s.store.low
  · simp
  · have himp : s.store.free ≤ s.store.lowWater → s.store.free < s.store.highWater := fun hf => by omega
    simpa [← Bool.decide_or] using himp

theorem State.lowTested_stays {s : State} (h : s.store.low = true ∧ s.store.free < s.store.highWater ∨
    s.store.low = false ∧ s.store.lowWater < s.store.free) : s.lowTested = s := by
  have hexit : s.testLowExit = s := if_neg fun ⟨hlow, hfree⟩ => by
    rcases h with ⟨-, h⟩ | ⟨h, -⟩
    · omega
    · simp [hlow] at h
  rw [State.lowTested, hexit]
  exact State.testLowEntry_quiet (h.imp (·.1) (·.2))

/-- Exit from LOW: the hold lines fall, their marks clear, and no fault is recorded. -/
theorem State.lowTested_leaves {s : State} (hlow : s.store.low = true) (hhigh : s.store.highWater ≤ s.store.free)
    (hord : s.store.lowWater < s.store.highWater) :
    s.lowTested = { s with store := s.lowTested.store, links := s.lowTested.links } ∧
      ∀ l : LinkId, (s.lowTested.link l).hold = false ∧ (s.lowTested.link l).holdSpent = false := by
  let left : State := { s with
    store := { s.store with low := false }
    links := s.links.map fun k => ({ k with holdSpent := false } : Link).refreshHold false }
  have hexit : s.testLowExit = left := if_pos ⟨hlow, hhigh⟩
  have hleft : s.lowTested = left := by
    rw [State.lowTested, hexit]
    exact State.testLowEntry_quiet (.inr (Nat.lt_of_lt_of_le hord hhigh))
  have hlink (l : LinkId) : left.link l = ({ s.link l with holdSpent := false } : Link).refreshHold false := by
    simp [left, State.link]
  rw [hleft]
  refine ⟨rfl, fun l => ?_⟩
  rw [hlink, Link.refreshHold_drops rfl]
  exact ⟨rfl, rfl⟩

/-! ### O29 -/

theorem Store.ordered_iff (st : Store) :
    st.ordered = true ↔ st.reserve ≤ st.lowWater ∧ st.lowWater < st.highWater ∧ st.highWater ≤ 1024 := decide_eq_true_iff

section
variable {u : State} {v : Option Nat} {n lo hi m : Nat} {limited : Bool} {set : Nat → Store → Store}

theorem State.writeSetting_disordered (hv : v = some n) (hl : limit lo hi n = (m, limited))
    (hord : ¬(set m u.store).ordered = true) : u.writeSetting v lo hi set = .refused := by
  subst hv
  unfold State.writeSetting
  simp only [hl]
  exact if_neg hord

theorem State.storeWritten_of_empty (hw : u.store.waiting = []) (lowered : Bool) :
    u.storeWritten lowered = u.lowTested := by
  cases lowered
  · rfl
  · exact State.runArbiter_of_empty (u.lowTested_waiting.trans hw)

theorem State.writeSetting_ordered (hv : v = some n) (hl : limit lo hi n = (m, limited))
    (hord : (set m u.store).ordered = true) (hw : (set m u.store).waiting = []) :
    u.writeSetting v lo hi set = .taken false limited (num2 m) (u.modStore (set m)).lowTested := by
  have htaken : u.writeSetting v lo hi set = .taken false limited (num2 m)
      ((u.modStore (set m)).storeWritten (decide ((set m u.store).reserve < u.store.reserve))) := by
    subst hv
    unfold State.writeSetting
    simp only [hl]
    exact if_pos hord
  rw [htaken, State.storeWritten_of_empty hw]

end

section
variable {s : State} {h : ReqHead} {field : Byte} {v : List Byte} (hi : s.serviceIdle)
include hi

theorem exec_writeStore {t : State} {limited : Bool} {held : List Byte}
    (hw : ∀ r, (s.withHead r).writeStore field v = some (.taken false limited held (t.withHead r)))
    (hq : t.requests = []) (hs : t.settled) :
    exec (.tableWriteStore h 0x00 field v) s = .next
      (t.answer h 0x03 (0x05 :: 0x00 :: field :: v) .done limited held) :=
  congrArg Host.Outcome.next (State.request_written (code := 0x05) (tb := .store) (staged := false) rfl hi rfl
    (by decide) rfl (hw _) hq hs)

theorem exec_writeStore_refused (hw : ∀ r, (s.withHead r).writeStore field v = some .refused) :
    exec (.tableWriteStore h 0x00 field v) s = .next (s.answer h 0x03 (0x05 :: 0x00 :: field :: v) .badValue false []) :=
  congrArg Host.Outcome.next
    (State.request_writeRefused (code := 0x05) (tb := .store) hi rfl (by decide) hw)

/-- A STORE setting written, whichever of the three: in order it is taken and LOW tested; else it is refused (R25). -/
theorem exec_writeSetting {n lo hi' m : Nat} {set : Nat → Store → Store} {more : List Byte} (hn : n < 65536)
    (hl : limit lo hi' n = (m, decide (n < lo ∨ hi' < n)))
    (hfield : ∀ (u : State) (v : List Byte), u.writeStore field v = some (u.writeSetting (readNum2 v) lo hi' set))
    (hwaiting : (set m s.store).waiting = s.store.waiting) :
    let st := set m s.store
    (st.ordered = true → s.store.waiting = [] →
      exec (.tableWriteStore h 0x00 field (num2 n ++ more)) s = .next
        (({ s with store := st } : State).lowTested.answer h 0x03 (0x05 :: 0x00 :: field :: (num2 n ++ more)) .done
          (decide (n < lo ∨ hi' < n)) (num2 m))) ∧
    (¬st.ordered = true →
      exec (.tableWriteStore h 0x00 field (num2 n ++ more)) s = .next
        (s.answer h 0x03 (0x05 :: 0x00 :: field :: (num2 n ++ more)) .badValue false [])) := by
  intro st
  have hread := readNum2_num2 hn more
  refine ⟨fun hord hw => ?_, fun hord => ?_⟩
  · let taken : State := { s with store := st }
    have hsame := taken.lowTested_sameQueues
    have hsettled : taken.settled := State.settled_of_eq hi.2.2 hwaiting fun _ => rfl
    refine exec_writeStore (t := taken.lowTested) hi (fun r => ?_) (hsame.1.trans hi.2.1)
      (State.lowTested_settled hsettled)
    rw [hfield, State.writeSetting_ordered (u := s.withHead r) hread hl hord (hwaiting.trans hw),
      ← State.withHead_lowTested]
    rfl
  · refine exec_writeStore_refused hi fun r => ?_
    rw [hfield, State.writeSetting_disordered (u := s.withHead r) hread hl hord]

theorem exec_writeService {t : State} {limited : Bool} {held : List Byte}
    (hw : ∀ r, (s.withHead r).writeService field v = some (.taken false limited held (t.withHead r)))
    (hq : t.requests = []) (hs : t.settled) :
    exec (.tableWriteService h 0x00 field v) s = .next
      (t.answer h 0x03 (0x06 :: 0x00 :: field :: v) .done limited held) :=
  congrArg Host.Outcome.next (State.request_written (code := 0x06) (tb := .service) (staged := false) rfl hi rfl
    (by decide) rfl (hw _) hq hs)

/-- A write of a service setting without further effect. -/
theorem exec_writeSettings {f : Settings → Settings} {limited : Bool} {held : List Byte}
    (hw : ∀ u : State, u.writeService field v = some (.taken false limited held (u.modSettings f))) :
    exec (.tableWriteService h 0x00 field v) s = .next
      ({ s with settings := f s.settings }.answer h 0x03 (0x06 :: 0x00 :: field :: v) .done limited held) :=
  exec_writeService (t := s.modSettings f) hi (fun _ => hw _) hi.2.1 hi.2.2

theorem exec_writeService_refused (hw : ∀ u : State, u.writeService field v = some .refused) :
    exec (.tableWriteService h 0x00 field v) s = .next
      (s.answer h 0x03 (0x06 :: 0x00 :: field :: v) .badValue false []) :=
  congrArg Host.Outcome.next
    (State.request_writeRefused (code := 0x06) (tb := .service) hi rfl (by decide) fun _ => hw _)

end

/-- Settles O29: the three STORE settings by one lemma, the SERVICE settings field by field. -/
theorem storeAndServiceWrites : Obligations.StoreAndServiceWrites := by
  unfold Obligations.StoreAndServiceWrites
  refine ⟨fun s h more n hi hn => ?_, fun s h more hi => ?_⟩
  · intro writes
    have hsetting {field : Byte} {lo hi' m : Nat} {set : Nat → Store → Store}
        (hl : limit lo hi' n = (m, decide (n < lo ∨ hi' < n))) (hm : max lo (min hi' n) = m)
        (hfield : ∀ (u : State) (v : List Byte), u.writeStore field v = some (u.writeSetting (readNum2 v) lo hi' set))
        (hwaiting : (set m s.store).waiting = s.store.waiting) : writes field lo hi' (set m s.store) := by
      obtain ⟨htaken, hrefused⟩ := exec_writeSetting (h := h) (more := more) hi hn hl hfield hwaiting
      refine ⟨fun hord hw => ⟨({ s with store := set m s.store } : State).lowTested, ?_, ?_, ?_, ?_, ?_, ?_⟩,
        fun hord => hrefused fun ho => hord ((Store.ordered_iff _).1 ho)⟩
      · rw [hm]
        exact htaken ((Store.ordered_iff _).2 hord) hw
      · exact State.lowTested_store (s := { s with store := set m s.store }) hord.2.1
      · exact fun hlow hfree => State.lowTested_stays (s := { s with store := set m s.store }) (.inr ⟨hlow, hfree⟩)
      · exact fun hlow hfree => State.lowTested_stays (s := { s with store := set m s.store }) (.inl ⟨hlow, hfree⟩)
      · intro hlow hfree
        rw [State.lowTested, State.testLowExit_of_notLow (s := { s with store := set m s.store }) hlow]
        exact (State.testLowEntry_enters (s := { s with store := set m s.store }) hlow hfree).2.1
      · exact fun hlow hfree =>
          State.lowTested_leaves (s := { s with store := set m s.store }) hlow hfree hord.2.1
    refine ⟨?_, ?_, ?_, ?_⟩
    · exact hsetting (set := fun n st => { st with reserve := n }) (by simp [limit]) (Nat.zero_max _)
        (fun _ _ => rfl) rfl
    · exact hsetting (set := fun n st => { st with lowWater := n }) (by simp [limit]) (Nat.zero_max _)
        (fun _ _ => rfl) rfl
    · exact hsetting (set := fun n st => { st with highWater := n }) rfl rfl (fun _ _ => rfl) rfl
    · simp only [List.forall_mem_cons]
      exact ⟨fun b => exec_writeStore_refused hi fun _ => rfl, fun b => exec_writeStore_refused hi fun _ => rfl,
        fun b => exec_writeStore_refused hi fun _ => rfl, List.forall_mem_nil _⟩
  · intro becomes g
    refine ⟨fun n hn => ⟨?_, ?_, ?_⟩, fun b => ⟨?_, ?_, ?_⟩, fun n hn => ?_, fun b hb => ?_⟩
    · exact exec_writeSettings (f := fun g => { g with secondCode := min 62 n }) hi fun u =>
        congrArg some (Written.number_some (readNum1_num1 hn more) (limit_above 62 n) ..)
    · exact exec_writeSettings (f := fun g => { g with retry := n }) hi fun u =>
        congrArg some (Written.number_some (readNum1_num1 hn more) (limit_within (Nat.le_of_lt_succ hn)) ..)
    · exact exec_writeSettings (f := fun g => { g with deskLink := Fin.ofNat 8 (min 7 n) }) hi fun u =>
        congrArg some (Written.number_some (readNum1_num1 hn more) (limit_above 7 n) ..)
    · exact exec_writeSettings (f := fun g => { g with secondOn := b }) hi fun u =>
        congrArg some (Written.exact_some (readSwitch_sw b more) ..)
    · exact exec_writeSettings (f := fun g => { g with generalOn := b }) hi fun u =>
        congrArg some (Written.exact_some (readSwitch_sw b more) ..)
    · exact exec_writeSettings (f := fun g => { g with notices := b }) hi fun u =>
        congrArg some (Written.exact_some (readSwitch_sw b more) ..)
    · have hzero : (min 3600 n = 0) = (n = 0) := by simp
      have hw := exec_writeService (h := h) (field := 0x07) (v := num2 n ++ more) (t := s.setWatchPeriod (min 3600 n)) hi
        (fun r => congrArg some (Written.number_some (readNum2_num2 hn more) (limit_above 3600 n) ..)) hi.2.1 hi.2.2
      simp only [State.setWatchPeriod, hzero] at hw
      exact hw
    · simp only [List.forall_mem_cons]
      have hnone := readSwitch_undefined hb more
      exact ⟨exec_writeService_refused hi fun u => congrArg some (Written.exact_none hnone ..),
        exec_writeService_refused hi fun u => congrArg some (Written.exact_none hnone ..),
        exec_writeService_refused hi fun u => congrArg some (Written.exact_none hnone ..), List.forall_mem_nil _⟩

end Sys2Proof.Machine
end


-- ==== sitting 4: a written field reads back (R148, R150, R162, R163) ====
section
/-! What a taken write holds is what the field then reads as, table by table. -/

namespace Sys2Proof.Machine

open Sys2Proof

/-- A write that, if taken, has a staging switch, a held value and a next state as `P` asks. -/
def Written.TakenAs (P : Bool → List Byte → State → Prop) : Written → Prop
  | .refused => True
  | .taken staged _ held t => P staged held t

section
variable {P : Bool → List Byte → State → Prop}

theorem Written.ite_takenAs {c : Prop} [Decidable c] {w : Written} {o : Option Written} (hw : c → w.TakenAs P)
    (ho : ∀ x ∈ o, x.TakenAs P) : ∀ x ∈ (if c then some w else o), x.TakenAs P := by
  split
  · rintro x ⟨⟩
    exact hw ‹_›
  · exact ho

theorem Written.exact_takenAs {α : Type} {v : Option α} {form : α → List Byte} {act : α → State}
    (h : ∀ x, v = some x → P false (form x) (act x)) : (Written.exact v form act).TakenAs P := by
  unfold Written.exact
  split
  · exact h _ rfl
  · trivial

theorem Written.number_takenAs {v : Option Nat} {lo hi : Nat} {form : Nat → List Byte} {act : Nat → State}
    (hle : lo ≤ hi) (h : ∀ n ≤ hi, P false (form n) (act n)) : (Written.number v lo hi form act).TakenAs P := by
  unfold Written.number
  split
  · exact h _ (Nat.max_le.2 ⟨hle, Nat.min_le_left ..⟩)
  · trivial

end

/-! ### ROUTE, LINK, SUBST, STORE and SERVICE -/

/-- Not staged, and read as held. -/
abbrev readsHeld (tb : Table) (n : Nat) (f : Byte) (staged : Bool) (held : List Byte) (t : State) : Prop :=
  staged = false ∧ t.readField tb n f = some held

theorem num2_ofNat_toNat (n : Nat) : num2 (BitVec.ofNat 16 n).toNat = num2 n := by
  have hhi : BitVec.ofNat 8 (n % 65536 / 256) = BitVec.ofNat 8 (n / 256) := by
    apply BitVec.eq_of_toNat_eq
    simp
    omega
  have hlo : BitVec.ofNat 8 (n % 65536) = BitVec.ofNat 8 n := by
    apply BitVec.eq_of_toNat_eq
    simp
  simp [num2, hhi, hlo]

theorem State.writeRoute_readsBack (s : State) (n : Nat) (f : Byte) (v : List Byte) :
    ∀ w ∈ s.writeRoute n f v, w.TakenAs (readsHeld .route n f) := by
  have hread (e : RouteEntry → RouteEntry) (f : Byte) :
      (s.modRoute n e).readField .route n f = (e s.routes[Fin.ofNat 216 n]).readField f := by
    simp [State.readField, State.modRoute]
  unfold State.writeRoute
  refine Written.ite_takenAs ?enabled <| Written.ite_takenAs ?circuits <| Written.ite_takenAs ?adjust (by simp)
  case enabled =>
    rintro rfl
    exact Written.exact_takenAs fun b _ => ⟨rfl, (hread ..).trans rfl⟩
  case circuits =>
    rintro rfl
    exact Written.exact_takenAs fun m _ => ⟨rfl, (hread ..).trans (congrArg some (num2_ofNat_toNat m))⟩
  case adjust =>
    rintro rfl
    split
    · exact ⟨rfl, (hread ..).trans rfl⟩
    · trivial

theorem State.writeSubst_readsBack (s : State) (n : Nat) (f : Byte) (v : List Byte) :
    ∀ w ∈ s.writeSubst n f v, w.TakenAs (readsHeld .subst n f) := by
  have hread (e : SubstEntry → SubstEntry) (f : Byte) :
      (s.modSubst n e).readField .subst n f = (e s.subst[Fin.ofNat 32 n]).readField f := by
    simp [State.readField, State.modSubst]
  unfold State.writeSubst
  refine Written.ite_takenAs ?source <| Written.ite_takenAs ?replacement (by simp)
  case source =>
    rintro rfl
    unfold State.writeSource
    split
    · trivial
    · split
      · rename_i hb
        exact ⟨rfl, (hread ..).trans (congrArg (fun b => some [b]) hb.symm)⟩
      · split
        · exact ⟨rfl, (hread ..).trans rfl⟩
        · trivial
  case replacement =>
    rintro rfl
    split
    · split
      · exact ⟨rfl, (hread ..).trans rfl⟩
      · trivial
    · trivial

/-- The settings of the store are those of `s`. -/
abbrev Store.SameSettings (st u : Store) : Prop :=
  u.reserve = st.reserve ∧ u.lowWater = st.lowWater ∧ u.highWater = st.highWater

theorem State.lowTested_sameSettings (s : State) : s.store.SameSettings s.lowTested.store := by
  rw [State.testLowEntry_store, State.testLowExit_store]
  exact ⟨rfl, rfl, rfl⟩

theorem State.storeWritten_sameSettings (s : State) (lowered : Bool) :
    s.store.SameSettings (s.storeWritten lowered).store := by
  cases lowered
  · exact s.lowTested_sameSettings
  · exact runArbiter_store_keeps (Q := s.store.SameSettings) (fun _ _ _ h => h) (fun _ h => h) s.lowTested_sameSettings

/-- A setting that the settings alone determine reads back. -/
theorem State.writeSetting_readsBack (s : State) (v : Option Nat) (lo hi n : Nat) {set : Nat → Store → Store} {f : Byte}
    (hread : ∀ (m : Nat) (u : Store), (set m s.store).SameSettings u → u.readField f = some (num2 m)) :
    (s.writeSetting v lo hi set).TakenAs (readsHeld .store n f) := by
  unfold State.writeSetting
  split
  · split
    · exact ⟨rfl, hread _ _ (State.storeWritten_sameSettings (s.modStore (set _)) _)⟩
    · trivial
  · trivial

theorem State.writeStore_readsBack (s : State) (n : Nat) (f : Byte) (v : List Byte) :
    ∀ w ∈ s.writeStore f v, w.TakenAs (readsHeld .store n f) := by
  unfold State.writeStore
  refine Written.ite_takenAs ?reserve <| Written.ite_takenAs ?lowWater <| Written.ite_takenAs ?highWater (by simp)
  case reserve =>
    rintro rfl
    exact s.writeSetting_readsBack _ _ _ n fun m u h => congrArg (some ∘ num2) h.1
  case lowWater =>
    rintro rfl
    exact s.writeSetting_readsBack _ _ _ n fun m u h => congrArg (some ∘ num2) h.2.1
  case highWater =>
    rintro rfl
    exact s.writeSetting_readsBack _ _ _ n fun m u h => congrArg (some ∘ num2) h.2.2

theorem State.writeService_readsBack (s : State) (n : Nat) (f : Byte) (v : List Byte) :
    ∀ w ∈ s.writeService f v, w.TakenAs (readsHeld .service n f) := by
  unfold State.writeService
  refine Written.ite_takenAs ?secondCode <| Written.ite_takenAs ?secondOn <| Written.ite_takenAs ?generalOn <|
    Written.ite_takenAs ?retry <| Written.ite_takenAs ?deskLink <| Written.ite_takenAs ?notices <|
    Written.ite_takenAs ?period (by simp)
  case secondOn | generalOn | notices =>
    rintro rfl
    exact Written.exact_takenAs fun _ _ => ⟨rfl, rfl⟩
  case secondCode | retry | period =>
    rintro rfl
    exact Written.number_takenAs (by decide) fun _ _ => ⟨rfl, rfl⟩
  case deskLink =>
    rintro rfl
    refine Written.number_takenAs (by decide) fun m hm => ⟨rfl, ?_⟩
    have hlink : (linkOf m).val = m := Nat.mod_eq_of_lt (Nat.lt_succ_of_le hm)
    exact congrArg (some ∘ num1) hlink

/-- A LINK field that the profile alone determines reads back from any state whose link has that profile. -/
theorem State.readField_link {t : State} {n : Nat} {f : Byte} {p : LinkProfile} {held : List Byte}
    (hp : (t.link (linkOf n)).profile = p) (hread : ∀ k : Link, k.profile = p → k.readField f = some held) :
    t.readField .link n f = some held :=
  hread _ hp

theorem State.modLinkProfile_profile (s : State) (l : LinkId) (f : LinkProfile → LinkProfile) :
    ((s.modLinkProfile l f).link l).profile = f (s.link l).profile := by
  simp [State.modLinkProfile]

theorem Link.refreshHold_profile (low : Bool) (k : Link) : (k.refreshHold low).profile = k.profile := by
  rw [Link.refreshHold_holdOnly]

theorem State.expireHoldIfDue_profile (s : State) (l : LinkId) :
    ((s.expireHoldIfDue l).link l).profile = (s.link l).profile := by
  unfold State.expireHoldIfDue State.expireHold
  split
  · obtain ⟨rs, rate, hlink⟩ := State.recordFault_link
      ((s.modLink l fun k => { k with holdSpent := true }).refreshHold l) (linkSource l) .holdExpired l
    rw [State.countLink, State.modLink_link_self, hlink, State.modLink_refreshHold, State.setLink_link_self]
    exact Link.refreshHold_profile ..
  · rfl

theorem State.enableLink_rx (s : State) (l : LinkId) : ((s.enableLink l).link l).rx ≠ .disabled := by
  by_cases h : (s.link l).rx = .disabled
  · rw [State.enableLink_disabled h, State.setLink_link_self]
    exact Rx.noConfusion
  · rwa [State.enableLink_enabled h]

theorem State.disableLink_rx (s : State) (l : LinkId) : ((s.disableLink l).link l).rx = .disabled := by
  by_cases h : (s.link l).rx = .disabled
  · rwa [State.disableLink_disabled h]
  · rw [State.disableLink_enabled h, State.setLink_link_self]

theorem State.writeLink_readsBack (s : State) (n : Nat) (f : Byte) (v : List Byte) :
    ∀ w ∈ s.writeLink n f v, w.TakenAs (readsHeld .link n f) := by
  unfold State.writeLink
  refine Written.ite_takenAs ?enabled <| Written.ite_takenAs ?rate <| Written.ite_takenAs ?check <|
    Written.ite_takenAs ?poly <| Written.ite_takenAs ?init <| Written.ite_takenAs ?policy <|
    Written.ite_takenAs ?holdCapable <| Written.ite_takenAs ?holdLimit <| Written.ite_takenAs ?permitted <|
    Written.ite_takenAs ?tag <| Written.ite_takenAs ?silenceLimit <| Written.ite_takenAs ?dupSuppress (by simp)
  case rate | check | poly | init | policy | permitted | tag | dupSuppress =>
    rintro rfl
    exact Written.exact_takenAs fun x _ => ⟨rfl, State.readField_link (s.modLinkProfile_profile _ _) fun k hk => by
      simp [Link.readField, hk, num1]⟩
  case enabled =>
    rintro rfl
    refine Written.exact_takenAs fun b _ => ⟨rfl, ?_⟩
    cases b
    · exact congrArg (fun r => some (sw (decide (r ≠ .disabled)))) (s.disableLink_rx (linkOf n))
    · exact congrArg (some ∘ sw) (decide_eq_true (s.enableLink_rx (linkOf n)))
  case holdCapable =>
    rintro rfl
    refine Written.exact_takenAs fun b _ => ⟨rfl, State.readField_link (p := { (s.link (linkOf n)).profile with
      holdCapable := b }) ?_ fun k hk => by simp [Link.readField, hk]⟩
    rw [State.modLinkProfile, State.modLink_refreshHold, State.setLink_link_self, Link.refreshHold_holdOnly]
  case holdLimit =>
    rintro rfl
    exact Written.number_takenAs (by decide) fun m _ => ⟨rfl, State.readField_link
      ((State.expireHoldIfDue_profile ..).trans (s.modLinkProfile_profile _ _)) fun k hk => by
        simp [Link.readField, hk]⟩
  case silenceLimit =>
    rintro rfl
    refine Written.number_takenAs (by decide) fun m _ => ⟨rfl, State.readField_link (p := { (s.link (linkOf n)).profile
      with silenceLimit := m }) ?_ fun k hk => by simp [Link.readField, hk]⟩
    rw [State.modLinkProfile, State.modLink_modLink, State.modLink_link_self]
    rfl

/-! ### CIRCUIT -/

/-- Not staged, the field reads as held; staged, on a SENDING circuit, as before with its pending switch set, and the
staging summary reads set (R148, R150, log 14). -/
abbrev readsStaged (s : State) (n : Nat) (f : Byte) (staged : Bool) (held : List Byte) (t : State) : Prop :=
  (staged = false → ∃ pending, t.readField .circuit n f = some (held ++ sw pending)) ∧
    (staged = true → (s.circuit (circuitOf n)).state = .sending ∧
      ∃ old pending, s.readField .circuit n f = some (old ++ sw pending) ∧
        t.readField .circuit n f = some (old ++ sw true) ∧ t.readField .circuit n 0x21 = some (sw true ++ sw false))

/-- A field that a staged value and an active one read: what `act` puts into the form is read, and what `stage` puts
among the staged values is seen by the pending switch alone. -/
structure FormField (f : Byte) (held : List Byte) (stage : Staged → Staged) (act : Form → Form) : Prop where
  active : ∀ c : Circuit, ∃ pending,
    ({ c with active := { c.active with form := act c.active.form } } : Circuit).readForm f = some (held, pending)
  pending : ∀ c : Circuit, ∃ old pending, c.readForm f = some (old, pending) ∧
    ({ c with staged := stage c.staged } : Circuit).readForm f = some (old, true)
  present : ∀ g : Staged, stage g ≠ .absent

theorem Circuit.readField_form {c : Circuit} {f : Byte} {v : List Byte} {pending : Bool}
    (h : c.readForm f = some (v, pending)) : c.readField f = some (v ++ sw pending) := by
  simp [Circuit.readField, h]

theorem FormField.takenAs {f : Byte} {held : List Byte} {stage : Staged → Staged} {act : Form → Form}
    (hf : FormField f held stage act) (s : State) (n : Nat) (limited : Bool) :
    (s.writeForm (circuitOf n) limited held stage act).TakenAs (readsStaged s n f) := by
  have hcircuit (g : Circuit → Circuit) (f : Byte) :
      (s.modCircuit (circuitOf n) g).readField .circuit n f = (g (s.circuit (circuitOf n))).readField f := by
    rw [State.readField, State.modCircuit_circuit_self]
  unfold State.writeForm
  split
  · obtain ⟨old, pending, hold, hnew⟩ := hf.pending (s.circuit (circuitOf n))
    refine ⟨fun h => (Bool.noConfusion h), fun _ => ⟨‹_›, old, pending, Circuit.readField_form hold, ?_, ?_⟩⟩
    · rw [hcircuit]
      exact Circuit.readField_form hnew
    · rw [hcircuit]
      exact congrArg (fun b => some (sw b ++ sw false)) (decide_eq_true (hf.present (s.circuit (circuitOf n)).staged))
  · obtain ⟨pending, hread⟩ := hf.active (s.circuit (circuitOf n))
    refine ⟨fun _ => ⟨pending, ?_⟩, fun h => (Bool.noConfusion h)⟩
    rw [hcircuit]
    exact Circuit.readField_form hread

theorem State.writeFormNum_takenAs {f : Byte} {form : Nat → List Byte} {stage : Nat → Staged → Staged}
    {act : Nat → Form → Form} (hf : ∀ n, FormField f (form n) (stage n) (act n)) (s : State) (n : Nat) (v : Option Nat)
    (lo hi : Nat) : (s.writeFormNum (circuitOf n) v lo hi form stage act).TakenAs (readsStaged s n f) := by
  unfold State.writeFormNum
  split
  · exact (hf _).takenAs s n _
  · trivial

theorem State.writeFormExact_takenAs {α : Type} {f : Byte} {form : α → List Byte} {stage : α → Staged → Staged}
    {act : α → Form → Form} (hf : ∀ x, FormField f (form x) (stage x) (act x)) (s : State) (n : Nat) (v : Option α) :
    (s.writeFormExact (circuitOf n) v form stage act).TakenAs (readsStaged s n f) := by
  unfold State.writeFormExact
  split
  · exact (hf _).takenAs s n _
  · trivial

/-- The field numbers of the five classes. -/
theorem classField_mem {first f : Byte} {p : Priority} (h : classField first f = some p) :
    (f, p) ∈ [(first, Priority.flash), (first + 1, .bulletin), (first + 2, .urgent), (first + 3, .routine),
      (first + 4, .deferred)] := by
  unfold classField at h
  split at h
  · simp_all
  · split at h
    · simp_all
    · split at h
      · simp_all
      · split at h
        · simp_all
        · split at h
          · simp_all
          · cases h

/-- The bells of a class. -/
theorem FormField.bell {f : Byte} {p : Priority} (hr : ∀ c : Circuit, c.readForm f =
    some (num1 (c.active.form.bells.get p), (c.staged.bells.get p).isSome)) (m : Nat) :
    FormField f (num1 m) (fun g => { g with bells := g.bells.set p (some m) })
      (fun f => { f with bells := f.bells.set p m }) where
  active c := ⟨(c.staged.bells.get p).isSome, by rw [hr, PerClass.get_set, if_pos rfl]⟩
  pending c := ⟨num1 (c.active.form.bells.get p), (c.staged.bells.get p).isSome, hr c, by
    rw [hr, PerClass.get_set, if_pos rfl]
    rfl⟩
  present g h := by
    have habsent : Staged.absent.bells.get p = none := by cases p <;> rfl
    have hset : (g.bells.set p (some m)).get p = some m := by rw [PerClass.get_set, if_pos rfl]
    rw [← h] at habsent
    exact absurd (hset.symm.trans habsent) (by simp)

theorem State.writeStagedField_readsBack (s : State) (n : Nat) (f : Byte) (v : List Byte) :
    ∀ w ∈ s.writeStagedField (circuitOf n) f v, w.TakenAs (readsStaged s n f) := by
  unfold State.writeStagedField
  refine Written.ite_takenAs ?period <| Written.ite_takenAs ?stop <| Written.ite_takenAs ?width <|
    Written.ite_takenAs ?nCR <| Written.ite_takenAs ?nLF <| Written.ite_takenAs ?reassert <|
    Written.ite_takenAs ?unshift <| Written.ite_takenAs ?spacing ?bells
  case period | width | nCR | nLF =>
    rintro rfl
    exact State.writeFormNum_takenAs (fun m => ⟨fun _ => ⟨_, rfl⟩, fun _ => ⟨_, _, rfl, rfl⟩, fun g => by
      simp [Staged.absent]⟩) s n _ _ _
  case stop | reassert | unshift | spacing =>
    rintro rfl
    exact State.writeFormExact_takenAs (fun m => ⟨fun _ => ⟨_, rfl⟩, fun _ => ⟨_, _, rfl, rfl⟩, fun g => by
      simp [Staged.absent]⟩) s n _
  case bells =>
    intro w hw
    obtain ⟨p, hp, rfl⟩ := Option.map_eq_some_iff.1 hw
    refine State.writeFormNum_takenAs (fun m => ?_) s n _ _ _
    have hmem := classField_mem hp
    simp only [List.mem_cons, List.not_mem_nil, or_false, Prod.mk.injEq] at hmem
    rcases hmem with ⟨rfl, rfl⟩ | ⟨rfl, rfl⟩ | ⟨rfl, rfl⟩ | ⟨rfl, rfl⟩ | ⟨rfl, rfl⟩
    all_goals exact FormField.bell (fun _ => rfl) m

/-- A CIRCUIT field that the profile alone determines reads back, with a clear pending switch, from any state whose
circuit has that profile. -/
theorem readsStaged_plain {s t : State} {n : Nat} {f : Byte} {p : Profile} {held : List Byte}
    (hp : (t.circuit (circuitOf n)).active = p) (hform : ∀ c : Circuit, c.readForm f = none)
    (hread : ∀ c : Circuit, c.active = p → c.readPlain f = some held) : readsStaged s n f false held t :=
  ⟨fun _ => ⟨false, Circuit.readField_plain (hform _) (hread _ hp) rfl⟩, fun h => (Bool.noConfusion h)⟩

theorem State.modProfile_active (s : State) (i : CircuitId) (f : Profile → Profile) :
    ((s.modProfile i f).circuit i).active = f (s.circuit i).active := by
  simp [State.modProfile]

theorem State.detectIfDue_active (s : State) (i : CircuitId) :
    ((s.detectIfDue i).circuit i).active = (s.circuit i).active := by
  have hrecorded : (((s.recordFault (circuitSource i) .receiverBreak).countCircuit i .receiverBreaks 1).circuit i).active =
      (s.circuit i).active := by
    rw [State.countCircuit, State.modCircuit_circuit_self]
    exact congrArg (·[i].active) (s.recordFault_circuits _ _)
  unfold State.detectIfDue State.detectBreak
  split
  · rw [State.modCircuit_circuit_self, ← hrecorded]
    unfold Circuit.broken
    split
    · rfl
    all_goals exact (Circuit.enterBroken_sameProfile _).1
  · rfl

theorem State.restoreIfDue_active (s : State) (i : CircuitId) :
    ((s.restoreIfDue i).circuit i).active = (s.circuit i).active := by
  unfold State.restoreIfDue
  split
  · rw [State.modCircuit_circuit_self]
    exact (Circuit.SameProfile.trans ⟨rfl, rfl⟩ (Circuit.startPacer_sameProfile _)).1
  · rfl

theorem State.writePlainField_readsBack (s : State) (n : Nat) (f : Byte) (v : List Byte) :
    ∀ w ∈ s.writePlainField (circuitOf n) f v, w.TakenAs (readsStaged s n f) := by
  unfold State.writePlainField
  refine Written.ite_takenAs ?stopMode <| Written.ite_takenAs ?idleMode <| Written.ite_takenAs ?accepting <|
    Written.ite_takenAs ?abCheck <| Written.ite_takenAs ?abExpected <| Written.ite_takenAs ?abWindow <|
    Written.ite_takenAs ?breakDetect <| Written.ite_takenAs ?restoreTime <| Written.ite_takenAs ?breakInLevel <|
    Written.ite_takenAs ?breakInWait <| Written.ite_takenAs ?depth <| Written.ite_takenAs ?shed ?stale
  case idleMode | breakInLevel =>
    rintro rfl
    exact Written.exact_takenAs fun x _ => readsStaged_plain (s.modProfile_active _ _) (fun _ => rfl) fun c hc => by
      simp [Circuit.readPlain, hc]
  case abWindow | breakInWait | depth | shed =>
    rintro rfl
    exact Written.number_takenAs (by decide) fun x _ => readsStaged_plain (s.modProfile_active _ _) (fun _ => rfl)
      fun c hc => by simp [Circuit.readPlain, hc]
  case stopMode =>
    rintro rfl
    refine Written.exact_takenAs fun m _ => readsStaged_plain (p := { (s.circuit (circuitOf n)).active with
      stopMode := m }) ?_ (fun _ => rfl) fun c hc => by simp [Circuit.readPlain, hc]
    rw [State.modProfile, State.modCircuit_modCircuit, State.setCircuit_circuit_self]
    exact (Circuit.showStopMode_sameProfile _).1
  case accepting =>
    rintro rfl
    exact Written.exact_takenAs fun b _ => readsStaged_plain
      (s.modProfile_active (circuitOf n) fun p => { p with accepting := b }) (fun _ => rfl) fun c hc => by
        simp [Circuit.readPlain, hc]
  case abCheck =>
    rintro rfl
    unfold State.writeAbCheck
    split
    · split
      · trivial
      · exact readsStaged_plain (s.modProfile_active _ _) (fun _ => rfl) fun c hc => by simp [Circuit.readPlain, hc]
    · trivial
  case abExpected =>
    rintro rfl
    unfold State.writeAbExpected
    split
    · split
      · trivial
      · exact readsStaged_plain (s.modProfile_active _ _) (fun _ => rfl) fun c hc => by simp [Circuit.readPlain, hc]
    · trivial
  case breakDetect =>
    rintro rfl
    exact Written.number_takenAs (by decide) fun m _ => readsStaged_plain
      ((State.detectIfDue_active ..).trans (s.modProfile_active _ _)) (fun _ => rfl) fun c hc => by
        simp [Circuit.readPlain, hc]
  case restoreTime =>
    rintro rfl
    exact Written.number_takenAs (by decide) fun m _ => readsStaged_plain
      ((State.restoreIfDue_active ..).trans (s.modProfile_active _ _)) (fun _ => rfl) fun c hc => by
        simp [Circuit.readPlain, hc]
  case stale =>
    intro w hw
    obtain ⟨q, hq, rfl⟩ := Option.map_eq_some_iff.1 hw
    have hmem := classField_mem hq
    have hstale {f : Byte} {q : Priority} (hform : ∀ c : Circuit, c.readForm f = none)
        (hr : ∀ c : Circuit, c.readPlain f = some (num2 (c.active.stale.get q))) (m : Nat) :
        readsStaged s n f false (num2 m)
          (s.modProfile (circuitOf n) fun p => { p with stale := p.stale.set q m }) :=
      readsStaged_plain (s.modProfile_active _ _) hform fun c hc => by rw [hr, hc, PerClass.get_set, if_pos rfl]
    refine Written.number_takenAs (by decide) fun m _ => ?_
    simp only [List.mem_cons, List.not_mem_nil, or_false, Prod.mk.injEq] at hmem
    rcases hmem with ⟨rfl, rfl⟩ | ⟨rfl, rfl⟩ | ⟨rfl, rfl⟩ | ⟨rfl, rfl⟩ | ⟨rfl, rfl⟩
    all_goals exact hstale (fun _ => rfl) (fun _ => rfl) m

theorem State.writeCircuit_readsBack (s : State) (n : Nat) (f : Byte) (v : List Byte) :
    ∀ w ∈ s.writeCircuit n f v, w.TakenAs (readsStaged s n f) := by
  intro w hw
  unfold State.writeCircuit at hw
  split at hw
  · cases hw
    exact s.writeStagedField_readsBack n f v _ ‹_›
  · exact s.writePlainField_readsBack n f v w hw

/-- Settles O30, table by table. -/
theorem writesReadBack : Obligations.WritesReadBack := by
  unfold Obligations.WritesReadBack
  intro s t tb n field v held staged limited hn hw
  have hother (hr : readsHeld tb n field staged held t) (htb : tb ≠ .circuit) :
      (tb ≠ .circuit → staged = false ∧ t.readField tb n field = some held) ∧
      (tb = .circuit → staged = false → ∃ pending, t.readField tb n field = some (held ++ sw pending)) ∧
      (tb = .circuit → staged = true → (s.circuit (circuitOf n)).state = .sending ∧
        ∃ old pending, s.readField tb n field = some (old ++ sw pending) ∧
          t.readField tb n field = some (old ++ sw true) ∧ t.readField tb n 0x21 = some (sw true ++ sw false)) :=
    ⟨fun _ => hr, fun h => absurd h htb, fun h => absurd h htb⟩
  cases tb with
  | route => exact hother (s.writeRoute_readsBack n field v _ hw) nofun
  | link => exact hother (s.writeLink_readsBack n field v _ hw) nofun
  | subst => exact hother (s.writeSubst_readsBack n field v _ hw) nofun
  | store => exact hother (s.writeStore_readsBack n field v _ hw) nofun
  | service => exact hother (s.writeService_readsBack n field v _ hw) nofun
  | circuit =>
    obtain ⟨hactive, hstaged⟩ := s.writeCircuit_readsBack n field v _ hw
    exact ⟨fun h => absurd rfl h, fun _ => hactive, fun _ => hstaged⟩

end Sys2Proof.Machine
end


-- ==== sitting 4: desk orders to a circuit (R117 to R122, R149, R165) ====
section
/-! START, OPEN, CLOSE and the two stops: each is a change of one circuit, answered with its state just after. -/

namespace Sys2Proof.Machine

open Sys2Proof

section
variable {s : State} {h : ReqHead} {i : CircuitId} {index action : Byte} (hi : s.serviceIdle) (hx : index.toNat = i.val)
include hi

/-- A circuit order done (R165): the circuit takes the change and its state is answered. -/
theorem State.request_circuitOrder {f : Circuit → Circuit}
    (hp : ∀ u : State, u.perform 0x04 [index, action] = u.circuitAct i (·.modCircuit i f)) {c : Circuit}
    (hc : f (s.circuit i) = c) :
    s.request h 0x04 [index, action] = (s.setCircuit i c).answer h 0x04 [index, action] .done false [c.state.code] := by
  refine State.request_answers hi hi.2.1 ((State.setCircuit_settled ..).2 hi.2.2) ((hp _).trans ?_)
  have hcode : ((((s.withHead (ReqHead.request h 0x04 [index, action])).modCircuit i f).circuit i).state.code) =
      c.state.code := by
    rw [State.modCircuit_circuit_self, State.withHead_circuit, hc]
  have hafter : (s.withHead (ReqHead.request h 0x04 [index, action])).modCircuit i f =
      (s.setCircuit i c).withHead (ReqHead.request h 0x04 [index, action]) := by
    rw [State.withHead_modCircuit, State.modCircuit, hc]
  exact congrArg₂ Performed.ok (congrArg (fun b => [b]) hcode) hafter

/-- A circuit order that changes nothing. -/
theorem State.request_circuitOrder_same {f : Circuit → Circuit}
    (hp : ∀ u : State, u.perform 0x04 [index, action] = u.circuitAct i (·.modCircuit i f))
    (hc : f (s.circuit i) = s.circuit i) :
    s.request h 0x04 [index, action] = s.answer h 0x04 [index, action] .done false [(s.circuit i).state.code] := by
  rw [State.request_circuitOrder hi hp hc, State.setCircuit_self]

theorem State.request_circuitBadIndex (hn : 16 ≤ index.toNat) :
    s.request h 0x04 [index, action] = s.answer h 0x04 [index, action] .badIndex false [] :=
  State.request_refused hi (State.circuitControl_badIndex _ hn action)

end

/-! ### O31 -/

theorem Circuit.startPacer_eq (c : Circuit) :
    c.startPacer =
      { c with
        pacer := if c.pacer.running then c.pacer
          else { running := true, period := c.active.form.period, charLen := c.active.form.stop.charLen } } := by
  unfold Circuit.startPacer
  split <;> rfl

theorem Circuit.intoService_eq (c : Circuit) :
    c.intoService =
      { c with
        state := if c.active.abCheck then .identifying else .ready
        requestStep := 0, window := none, receiving := none, marking := none
        spacing := if c.returnMark then none else some 0
        pacer := if c.pacer.running then c.pacer
          else { running := true, period := c.active.form.period, charLen := c.active.form.stop.charLen } } := by
  unfold Circuit.intoService
  rw [Circuit.startPacer_eq]
  rfl

theorem Circuit.start_out {c : Circuit} (h : c.state = .stopped ∨ c.state = .faulted) : c.start = c.intoService := by
  unfold Circuit.start
  rcases h with h | h <;> rw [h]

theorem Circuit.start_in {c : Circuit} (hs : c.state ≠ .stopped) (hf : c.state ≠ .faulted) : c.start = c := by
  unfold Circuit.start
  split
  · exact absurd ‹_› hs
  · exact absurd ‹_› hf
  all_goals rfl

/-- Settles O31. -/
theorem startOpenClose : Obligations.StartOpenClose := by
  unfold Obligations.StartOpenClose
  refine ⟨fun s h index hi => ⟨fun i hx => ?_, fun hn => ?_⟩, fun s h i index hi hx => ?_⟩
  · intro c
    have hp (u : State) : u.perform 0x04 [index, 0x01] = u.circuitAct i (·.modCircuit i Circuit.start) :=
      u.perform_circuit i index 0x01 hx
    refine ⟨fun hs => ?_, fun hs hf => ?_⟩
    · have hstart := (Circuit.start_out hs).trans c.intoService_eq
      have hcode : (if c.active.abCheck then CircuitState.identifying else .ready).code =
          if c.active.abCheck then 0x01 else 0x02 := by
        cases c.active.abCheck <;> rfl
      rw [← hcode]
      exact congrArg Host.Outcome.next (State.request_circuitOrder hi hp hstart)
    · exact congrArg Host.Outcome.next (State.request_circuitOrder_same hi hp (Circuit.start_in hs hf))
  · have hbad (action : Byte) : s.request h 0x04 [index, action] = s.answer h 0x04 [index, action] .badIndex false [] :=
      State.request_circuitBadIndex hi hn
    exact ⟨congrArg Host.Outcome.next (hbad 0x01), congrArg Host.Outcome.next (hbad 0x02),
      congrArg Host.Outcome.next (hbad 0x03), congrArg Host.Outcome.next (hbad 0x04),
      congrArg Host.Outcome.next (hbad 0x05), congrArg Host.Outcome.next (hbad 0x06)⟩
  · exact ⟨congrArg Host.Outcome.next
        (State.request_circuitOrder (action := 0x04) hi (fun u => u.perform_circuit i index 0x04 hx) rfl),
      congrArg Host.Outcome.next
        (State.request_circuitOrder (action := 0x05) hi (fun u => u.perform_circuit i index 0x05 hx) rfl)⟩

/-! ### O32 -/

theorem Circuit.stopModeBetween_level {c : Circuit} {v : Slot} (h : c.active.stopMode.level = some v) :
    c.stopModeBetween = { c with slot := if c.slot.isChar then c.slot else v } := by
  unfold Circuit.stopModeBetween
  rw [h]
  simp only [Circuit.levelBetween]
  split <;> rfl

theorem Circuit.stopModeBetween_fill {c : Circuit} (h : c.active.stopMode.level = none) :
    c.stopModeBetween = c.startPacer := by
  unfold Circuit.stopModeBetween
  rw [h]

theorem Circuit.stop_stopped {c : Circuit} (h : c.state = .stopped) : c.stop = c := by
  unfold Circuit.stop
  rw [h]

theorem Circuit.stop_sending {c : Circuit} (h : c.state = .sending) : c.stop = { c with stopNow := true } := by
  unfold Circuit.stop
  rw [h]

theorem Circuit.stop_between {c : Circuit} (hs : c.state ≠ .stopped) (hn : c.state ≠ .sending) :
    c.stop = c.enterStopped := by
  unfold Circuit.stop
  split
  · exact absurd ‹_› hs
  · exact absurd ‹_› hn
  all_goals rfl

theorem Circuit.stopAtEnd_idle {c : Circuit} (h : c.state ≠ .sending) : c.stopAtEnd = c.stop := by
  unfold Circuit.stopAtEnd
  split
  · exact absurd ‹_› h
  all_goals rfl

theorem Circuit.stopAtEnd_sending {c : Circuit} (h : c.state = .sending) :
    c.stopAtEnd =
      { c with flight := c.flight.map fun f => { f with ctx := { f.ctx with stopPending := true } } } := by
  unfold Circuit.stopAtEnd
  rw [h]

/-- Entry into STOPPED with a level for stop mode (log 18). -/
theorem Circuit.enterStopped_level {c : Circuit} {v : Slot} (h : c.active.stopMode.level = some v) :
    c.enterStopped =
      { c with
        state := .stopped, flight := none, stopNow := false, breakSeen := false, abandoned := false, requestStep := 0
        window := none, buffer := [], receiving := none, spacing := none, marking := none
        active := { c.active with form := c.active.form.withStaged c.staged }, staged := .absent
        slot := if c.slot.isChar then c.slot else v } :=
  Circuit.stopModeBetween_level (c := c.clearForStop.applyStaged) h

/-- Entry into STOPPED with stop mode FILL (log 19). -/
theorem Circuit.enterStopped_fill {c : Circuit} (h : c.active.stopMode.level = none) :
    c.enterStopped =
      { c with
        state := .stopped, flight := none, stopNow := false, breakSeen := false, abandoned := false, requestStep := 0
        window := none, buffer := [], receiving := none, spacing := none, marking := none
        active := { c.active with form := c.active.form.withStaged c.staged }, staged := .absent
        pacer := if c.pacer.running then c.pacer
          else
            { running := true, period := (c.active.form.withStaged c.staged).period
              charLen := (c.active.form.withStaged c.staged).stop.charLen } } :=
  (Circuit.stopModeBetween_fill (c := c.clearForStop.applyStaged) h).trans (Circuit.startPacer_eq _)

/-- Settles O32: STOP AT TAKE END is STOP NOW outside SENDING; entry into STOPPED by its stop mode. -/
theorem stopCircuit : Obligations.StopCircuit := by
  unfold Obligations.StopCircuit
  intro s h i index hi hx c f line stopped
  have hnow (u : State) : u.perform 0x04 [index, 0x02] = u.circuitAct i (·.modCircuit i Circuit.stop) :=
    u.perform_circuit i index 0x02 hx
  have hend (u : State) : u.perform 0x04 [index, 0x03] = u.circuitAct i (·.modCircuit i Circuit.stopAtEnd) :=
    u.perform_circuit i index 0x03 hx
  refine ⟨fun hs => ?_, fun hs hn => ?_, fun hs => ?_, fun hs x hx => ?_, fun hs hx => ?_⟩
  · have hcode : [(s.circuit i).state.code] = [0x00] := congrArg (fun x => [CircuitState.code x]) hs
    have hidle : (s.circuit i).state ≠ .sending := fun hn => nomatch hs.symm.trans hn
    rw [← hcode]
    exact ⟨congrArg Host.Outcome.next (State.request_circuitOrder_same hi hnow (Circuit.stop_stopped hs)),
      congrArg Host.Outcome.next (State.request_circuitOrder_same hi hend
        ((Circuit.stopAtEnd_idle hidle).trans (Circuit.stop_stopped hs)))⟩
  · have hpacer (running : Pacer) (hm : c.active.stopMode ≠ .fill) :
        (if c.active.stopMode = .fill ∧ c.pacer.running = false then running else c.pacer) = c.pacer :=
      if_neg fun h => hm h.1
    have hstop : s.setCircuit i c.stop = stopped := by
      rw [Circuit.stop_between hs hn]
      cases hm : c.active.stopMode
      case mark =>
        have hline : line = if c.slot.isChar then c.slot else .mark := by simp only [line, hm]
        simp only [stopped, hline, hpacer _ (by simp [hm] : c.active.stopMode ≠ .fill)]
        rw [Circuit.enterStopped_level (v := .mark) (congrArg StopMode.level hm)]
      case space =>
        have hline : line = if c.slot.isChar then c.slot else .space := by simp only [line, hm]
        simp only [stopped, hline, hpacer _ (by simp [hm] : c.active.stopMode ≠ .fill)]
        rw [Circuit.enterStopped_level (v := .space) (congrArg StopMode.level hm)]
      case fill =>
        have hline : line = c.slot := by simp only [line, hm]
        rw [Circuit.enterStopped_fill (congrArg StopMode.level hm)]
        simp only [stopped, hline, hm, true_and]
        cases hr : c.pacer.running <;> rfl
    have hstate : c.stop.state = .stopped := by
      have hcircuit := congrArg (fun t => (State.circuit t i).state) hstop
      simpa [stopped] using hcircuit
    have hcode : c.stop.state.code = 0x00 := congrArg CircuitState.code hstate
    rw [← hstop, ← hcode]
    refine ⟨congrArg Host.Outcome.next (State.request_circuitOrder hi hnow rfl), ?_⟩
    exact congrArg Host.Outcome.next (State.request_circuitOrder hi hend (Circuit.stopAtEnd_idle hn))
  · have hstop := Circuit.stop_sending hs
    have hreq := State.request_circuitOrder (h := h) hi hnow hstop
    have hcode : c.state.code = 0x03 := congrArg CircuitState.code hs
    rw [hcode] at hreq
    exact congrArg Host.Outcome.next hreq
  · have hreq := State.request_circuitOrder (h := h) hi hend (Circuit.stopAtEnd_sending hs)
    have hcode : (s.circuit i).state.code = 0x03 := congrArg CircuitState.code hs
    have hflight : (s.circuit i).flight = some x := hx
    simp only [hcode, hflight, Option.map_some] at hreq
    exact congrArg Host.Outcome.next hreq
  · have hflight : (s.circuit i).flight = none := hx
    have hsame : (s.circuit i).stopAtEnd = s.circuit i := by
      rw [Circuit.stopAtEnd_sending hs, hflight, Option.map_none, ← hflight]
    have hcode : [(s.circuit i).state.code] = [0x03] := congrArg (fun x => [CircuitState.code x]) hs
    rw [← hcode]
    exact congrArg Host.Outcome.next (State.request_circuitOrder_same hi hend hsame)

end Sys2Proof.Machine
end


-- ==== sitting 4: references dropped in a quiet store; FLUSH and TAKE SPIKE (R38, R60, R77) ====
section
/-! Where no link waits for a segment and the store is not in LOW, a dropped reference touches its own take record, the
free count and the story alone. So entries leave a queue one after the other, and each take record loses as many
references as entries named it. -/

namespace Sys2Proof.Machine

open Sys2Proof

/-! ### States that differ in copy alone -/

/-- No link waits for a segment and the store is not in LOW: segments that return serve nobody. -/
structure State.Quiet (s : State) : Prop where
  waiting : s.store.waiting = []
  low : s.store.low = false

/-- The second state differs from the first in circuits, take records, the free count and stories alone. -/
def State.CopyOnly (s t : State) : Prop :=
  t = { s with
    circuits := t.circuits, store := { s.store with takes := t.store.takes, free := t.store.free }
    stories := t.stories }

namespace State.CopyOnly

variable {s t u : State}

theorem refl (s : State) : s.CopyOnly s := rfl

theorem trans (h : s.CopyOnly t) (h' : t.CopyOnly u) : s.CopyOnly u :=
  Eq.trans h' (congrArg (fun v : State =>
    { v with
      circuits := u.circuits, store := { v.store with takes := u.store.takes, free := u.store.free }
      stories := u.stories }) h)

theorem eq (h : s.CopyOnly t) : t = { s with
    circuits := t.circuits, store := { s.store with takes := t.store.takes, free := t.store.free }
    stories := t.stories } := h

theorem links (h : s.CopyOnly t) : t.links = s.links := (congrArg State.links h.eq :)

theorem requests (h : s.CopyOnly t) : t.requests = s.requests := (congrArg State.requests h.eq :)

theorem store (h : s.CopyOnly t) : t.store = { s.store with takes := t.store.takes, free := t.store.free } :=
  (congrArg State.store h.eq :)

theorem apart (h : s.CopyOnly t) : t = { s with circuits := t.circuits, store := t.store, stories := t.stories } :=
  h.eq.trans (congrArg (fun st => { s with circuits := t.circuits, store := st, stories := t.stories }) h.store.symm)

theorem waiting (h : s.CopyOnly t) : t.store.waiting = s.store.waiting := congrArg (·.store.waiting) h

theorem quiet (h : s.CopyOnly t) (hq : s.Quiet) : t.Quiet :=
  ⟨h.waiting.trans hq.waiting, (congrArg (·.store.low) h).trans hq.low⟩

theorem settled (h : s.CopyOnly t) (hs : s.settled) : t.settled := fun l => by
  rw [State.waits, h.waiting, State.link, h.links]
  exact hs l

theorem modCircuit (s : State) (i : CircuitId) (f : Circuit → Circuit) : s.CopyOnly (s.modCircuit i f) := rfl

theorem putTake (s : State) (n : Nat) (t : Take) : s.CopyOnly (s.putTake n t) := rfl

theorem modTake (s : State) (n : Nat) (f : Take → Take) : s.CopyOnly (s.modTake n f) := by
  unfold State.modTake
  split
  · exact putTake s n _
  · exact refl s

theorem addRef (s : State) (n : Nat) : s.CopyOnly (s.addRef n) := modTake s n _

theorem modStory (s : State) (k : StoryKey) (f : Story → Story) : s.CopyOnly (s.modStory k f) := rfl

theorem foldl {α : Type} {f : State → α → State} (hf : ∀ (v : State) (x : α), v.Quiet → v.CopyOnly (f v x)) (xs : List α)
    (hq : s.Quiet) : s.CopyOnly (xs.foldl f s) := by
  induction xs generalizing s with
  | nil => exact refl s
  | cons x xs ih => exact (hf s x hq).trans (ih ((hf s x hq).quiet hq))

end State.CopyOnly

/-! ### A reference dropped -/

/-- A take record after so many references are dropped: FREE with its last one. -/
def Take.lessRefs (t : Take) (lost : Nat) : Option Take :=
  if lost = 0 then some t else if t.refs ≤ lost then none else some { t with refs := t.refs - lost }

theorem Take.lessRefs_zero (t : Take) : t.lessRefs 0 = some t := rfl

theorem Take.lessRefs_one (t : Take) : t.lessRefs 1 = if t.refs ≤ 1 then none else some { t with refs := t.refs - 1 } := rfl

theorem Take.lessRefs_add (t : Take) (m n : Nat) : (t.lessRefs m).bind (·.lessRefs n) = t.lessRefs (m + n) := by
  unfold Take.lessRefs
  by_cases hm : m = 0
  · simp [hm]
  by_cases hle : t.refs ≤ m
  · have hle' : t.refs ≤ m + n := by omega
    simp [hm, hle, hle']
  by_cases hn : n = 0
  · simp [hm, hn, hle]
  by_cases hle' : t.refs ≤ m + n
  · have hless : t.refs - m ≤ n := by omega
    simp [hm, hle, hn, hle', hless]
  · have hless : ¬t.refs - m ≤ n := by omega
    simp [hm, hle, hn, hle', hless, Nat.sub_sub]

namespace State

variable {s : State} {n : Nat} {t : Take}

theorem reportRelease_copyOnly (s : State) (t : Take) : s.CopyOnly (s.reportRelease t) := by
  unfold reportRelease
  split
  · exact CopyOnly.modStory s _ _
  · exact CopyOnly.refl s

theorem dropRef_free (h : s.take? n = none) : s.dropRef n = s := by simp only [dropRef, h]

theorem dropRef_shared (ht : s.take? n = some t) (h : 1 < t.refs) : s.dropRef n = s.putTake n { t with refs := t.refs - 1 } := by
  simp only [dropRef, ht, if_neg (Nat.not_le.2 h)]

theorem reportRelease_store (s : State) (t : Take) : (s.reportRelease t).store = s.store := by
  unfold reportRelease
  split <;> rfl

/-- The last reference dropped: the story hears of the release, the record is FREE, its segments return. -/
theorem dropRef_last (hq : s.Quiet) (ht : s.take? n = some t) (h : t.refs ≤ 1) :
    s.dropRef n = (s.reportRelease t).modStore fun st =>
      { st with takes := Takes.erase st.takes n, free := st.free + t.chain.length } := by
  simp only [dropRef, ht, if_pos h]
  refine freeTake_quiet ?_ ?_ ?_
  · rw [take?, reportRelease_store]
    exact ht
  · rw [reportRelease_store]
    exact hq.waiting
  · rw [reportRelease_store]
    exact hq.low

theorem dropRef_copyOnly (hq : s.Quiet) (n : Nat) : s.CopyOnly (s.dropRef n) := by
  cases ht : s.take? n with
  | none => rw [dropRef_free ht]; exact CopyOnly.refl s
  | some t =>
    rcases Nat.lt_or_ge 1 t.refs with h | h
    · rw [dropRef_shared ht h]; exact CopyOnly.putTake s n _
    · rw [dropRef_last hq ht h]
      exact (reportRelease_copyOnly s t).trans rfl

theorem dropRef_take? (hq : s.Quiet) (n m : Nat) :
    (s.dropRef n).take? m = (s.take? m).bind (·.lessRefs (if n = m then 1 else 0)) := by
  by_cases hm : n = m
  · subst hm
    rw [if_pos rfl]
    cases ht : s.take? n with
    | none => rw [dropRef_free ht]; exact ht
    | some t =>
      rw [Option.bind_some, Take.lessRefs_one]
      rcases Nat.lt_or_ge 1 t.refs with h | h
      · rw [dropRef_shared ht h, if_neg (Nat.not_le.2 h)]
        exact Takes.get_put_self ..
      · rw [dropRef_last hq ht h, if_pos h]
        exact Takes.get_erase_self ..
  · have hsame : (s.dropRef n).take? m = s.take? m := by
      cases ht : s.take? n with
      | none => rw [dropRef_free ht]
      | some t =>
        rcases Nat.lt_or_ge 1 t.refs with h | h
        · rw [dropRef_shared ht h]
          exact Takes.get_put_other _ _ (Ne.symm hm)
        · rw [dropRef_last hq ht h, take?, modStore_store, reportRelease_store]
          exact Takes.get_erase_other _ (Ne.symm hm)
    rw [hsame, if_neg hm]
    cases s.take? m <;> rfl

theorem dropRefs_cons (s : State) (e : Entry) (es : List Entry) :
    s.dropRefs (e :: es) = (s.dropRef e.handle).dropRefs es := rfl

theorem dropRefs_copyOnly (hq : s.Quiet) (es : List Entry) : s.CopyOnly (s.dropRefs es) :=
  CopyOnly.foldl (fun _ e hv => dropRef_copyOnly hv e.handle) es hq

theorem dropRefs_take? (hq : s.Quiet) (es : List Entry) (m : Nat) :
    (s.dropRefs es).take? m = (s.take? m).bind (·.lessRefs (refsIn es m)) := by
  induction es generalizing s with
  | nil => cases h : s.take? m <;> exact h
  | cons e es ih =>
    rw [dropRefs_cons, ih ((dropRef_copyOnly hq e.handle).quiet hq), dropRef_take? hq, Option.bind_assoc, refsIn_cons]
    refine Option.bind_congr fun t _ => ?_
    rw [Take.lessRefs_add, Nat.add_comm]

/-! ### The effects do not see the request queue -/

theorem withHead_reportRelease (s : State) (r : Request) (t : Take) :
    (s.withHead r).reportRelease t = (s.reportRelease t).withHead r := by
  unfold reportRelease
  split <;> rfl

theorem Quiet.withHead (hq : s.Quiet) (r : Request) : (s.withHead r).Quiet := ⟨hq.waiting, hq.low⟩

theorem withHead_dropRef (hq : s.Quiet) (r : Request) (n : Nat) : (s.withHead r).dropRef n = (s.dropRef n).withHead r := by
  cases ht : s.take? n with
  | none => rw [dropRef_free ht, dropRef_free (s := s.withHead r) ht]
  | some t =>
    rcases Nat.lt_or_ge 1 t.refs with h | h
    · rw [dropRef_shared ht h, dropRef_shared (s := s.withHead r) ht h]
      rfl
    · rw [dropRef_last hq ht h, dropRef_last (hq.withHead r) ht h, withHead_reportRelease, withHead_modStore]

theorem withHead_dropRefs (hq : s.Quiet) (r : Request) (es : List Entry) :
    (s.withHead r).dropRefs es = (s.dropRefs es).withHead r := by
  induction es generalizing s with
  | nil => rfl
  | cons e es ih => rw [dropRefs_cons, withHead_dropRef hq, ih ((dropRef_copyOnly hq e.handle).quiet hq), dropRefs_cons]

/-- A circuit order whose effect in a quiet store is on copy alone, answered. -/
theorem request_copyOrder {i : CircuitId} {index action : Byte} {h : ReqHead} {u : State} {f : State → State}
    (hi : s.serviceIdle)
    (hp : ∀ v : State, v.perform 0x04 [index, action] = v.circuitAct i f)
    (hu : s.CopyOnly u) (hf : f (s.withHead (ReqHead.request h 0x04 [index, action])) =
      u.withHead (ReqHead.request h 0x04 [index, action])) :
    s.request h 0x04 [index, action] = u.answer h 0x04 [index, action] .done false [(u.circuit i).state.code] := by
  refine request_answers hi (hu.requests.trans hi.2.1) (hu.settled hi.2.2) ?_
  rw [hp, circuitAct, hf]
  rfl

end State

/-! ### FLUSH (R77) -/

/-- Settles O33: the entries leave, then each take loses its references to them. -/
theorem flushCircuit : Obligations.FlushCircuit := by
  unfold Obligations.FlushCircuit
  intro s h i index hi hx c
  refine ⟨⟨_, rfl⟩, fun hw hlow => ?_⟩
  let emptied : State := s.setCircuit i { c with queue := [], backlog := 0 }
  have hcopy : s.CopyOnly (emptied.dropRefs c.queue) :=
    State.CopyOnly.trans (t := emptied) rfl (State.dropRefs_copyOnly (s := emptied) ⟨hw, hlow⟩ c.queue)
  have hcircuit (j : CircuitId) : (emptied.dropRefs c.queue).circuit j =
      if j = i then { c with queue := [], backlog := 0 } else s.circuit j := by
    rw [State.dropRefs_circuit, State.setCircuit_circuit]
  refine ⟨emptied.dropRefs c.queue, ?_, ?_, hcircuit, ?_⟩
  · have hstate : ((emptied.dropRefs c.queue).circuit i).state = c.state := by rw [hcircuit, if_pos rfl]
    rw [← hstate]
    exact congrArg Host.Outcome.next (State.request_copyOrder hi (fun v => v.perform_circuit i index 0x06 hx) hcopy
      (State.withHead_dropRefs (s := emptied) ⟨hw, hlow⟩ _ c.queue))
  · exact hcopy.apart
  · intro n t ht lost
    have htake : emptied.take? n = some t := ht
    rw [State.dropRefs_take? (s := emptied) ⟨hw, hlow⟩, htake]
    rfl

/-! ### Entries of some takes removed, and their contexts cut (R56, R60) -/

/-- A circuit without the queued entries that satisfy a test, its backlog less their estimates (R72, R73). -/
def Circuit.without (c : Circuit) (p : Entry → Bool) : Circuit :=
  { c with queue := c.queue.filter fun e => !p e, backlog := c.backlog - queueSum (c.queue.filter p) }

/-- A circuit whose context of some takes is given a cut order (R138). -/
def Circuit.cutWhere (c : Circuit) (gone : Nat → Bool) : Circuit :=
  { c with
    flight := c.flight.map fun f => if gone f.entry.handle = true then { f with ctx := f.ctx.cutOrder } else f }

theorem queueSum_filter_or (q : List Entry) (p p' : Entry → Bool) :
    queueSum (q.filter fun e => p e || p' e) = queueSum (q.filter p) + queueSum ((q.filter fun e => !p e).filter p') := by
  induction q with
  | nil => rfl
  | cons e q ih =>
    cases hp : p e <;> cases hp' : p' e <;> simp [hp, hp', queueSum_cons] <;> simp at ih <;> omega

theorem Circuit.without_without (c : Circuit) (p p' : Entry → Bool) :
    (c.without p).without p' = c.without fun e => p e || p' e := by
  unfold Circuit.without
  rw [queueSum_filter_or, List.filter_filter, Nat.sub_sub]
  simp [Bool.and_comm]

theorem Context.cutOrder_cutOrder (x : Context) : x.cutOrder.cutOrder = x.cutOrder := by
  unfold Context.cutOrder
  split <;> simp [*]

theorem Circuit.cutWhere_cutWhere (c : Circuit) (p p' : Nat → Bool) :
    (c.cutWhere p).cutWhere p' = c.cutWhere fun n => p n || p' n := by
  unfold Circuit.cutWhere
  congr 1
  rw [Option.map_map]
  congr 1
  funext f
  cases hp : p f.entry.handle <;> cases hp' : p' f.entry.handle <;> simp [hp, hp', Context.cutOrder_cutOrder]

namespace State

variable {s : State}

theorem removeEntries_eq (s : State) (i : CircuitId) (p : Entry → Bool) :
    s.removeEntries i p = (s.setCircuit i ((s.circuit i).without p)).dropRefs ((s.circuit i).queue.filter p) := rfl

theorem removeEntries_circuit (s : State) (i j : CircuitId) (p : Entry → Bool) :
    (s.removeEntries i p).circuit j = if j = i then (s.circuit j).without p else s.circuit j := by
  rw [removeEntries_eq, dropRefs_circuit, setCircuit_circuit]
  split
  · next h => rw [h]
  · rfl

theorem setCircuit_copyOnly (s : State) (i : CircuitId) (c : Circuit) : s.CopyOnly (s.setCircuit i c) := rfl

theorem Quiet.setCircuit (hq : s.Quiet) (i : CircuitId) (c : Circuit) : (s.setCircuit i c).Quiet := ⟨hq.waiting, hq.low⟩

theorem removeEntries_copyOnly (hq : s.Quiet) (i : CircuitId) (p : Entry → Bool) : s.CopyOnly (s.removeEntries i p) :=
  (setCircuit_copyOnly s i _).trans (dropRefs_copyOnly (hq.setCircuit i _) _)

theorem withHead_removeEntries (hq : s.Quiet) (r : Request) (i : CircuitId) (p : Entry → Bool) :
    (s.withHead r).removeEntries i p = (s.removeEntries i p).withHead r :=
  withHead_dropRefs (hq.setCircuit i _) r _

theorem cutOrder_eq (s : State) (i : CircuitId) (n : Nat) :
    s.cutOrder i n = s.setCircuit i ((s.circuit i).cutWhere (· == n)) := by
  have hsame (h : (s.circuit i).cutWhere (· == n) = s.circuit i) : s = s.setCircuit i ((s.circuit i).cutWhere (· == n)) := by
    rw [h, setCircuit_self]
  unfold cutOrder
  cases hf : (s.circuit i).flight with
  | none => exact hsame (by simp only [Circuit.cutWhere, hf, Option.map_none]; rw [← hf])
  | some f =>
    by_cases hn : f.entry.handle = n
    · simp only [hn, if_true, modCircuit, Circuit.cutWhere, hf, Option.map_some, beq_self_eq_true]
    · simp only [hn, if_false]
      refine hsame ?_
      simp only [Circuit.cutWhere, hf, Option.map_some, beq_eq_false_iff_ne.2 hn, Bool.false_eq_true, if_false]
      rw [← hf]

theorem cutOrder_circuit (s : State) (i j : CircuitId) (n : Nat) :
    (s.cutOrder i n).circuit j = if j = i then (s.circuit j).cutWhere (· == n) else s.circuit j := by
  rw [cutOrder_eq, setCircuit_circuit]
  split
  · next h => rw [h]
  · rfl

theorem cutOrder_copyOnly (s : State) (i : CircuitId) (n : Nat) : s.CopyOnly (s.cutOrder i n) := by
  rw [cutOrder_eq]
  rfl

theorem withHead_cutOrder (s : State) (r : Request) (i : CircuitId) (n : Nat) :
    (s.withHead r).cutOrder i n = (s.cutOrder i n).withHead r := by
  rw [cutOrder_eq, cutOrder_eq, withHead_circuit, withHead_setCircuit]

/-- A walk over circuits that changes each of them alone. -/
theorem foldl_circuit {f : State → CircuitId → State} {g : Circuit → Circuit}
    (hf : ∀ (u : State) (i j : CircuitId), (f u i).circuit j = if j = i then g (u.circuit j) else u.circuit j)
    {is : List CircuitId} (hn : is.Nodup) (s : State) (j : CircuitId) :
    (is.foldl f s).circuit j = if j ∈ is then g (s.circuit j) else s.circuit j := by
  induction is generalizing s with
  | nil => rfl
  | cons i is ih =>
    obtain ⟨hi, hn⟩ := List.nodup_cons.1 hn
    rw [List.foldl_cons, ih hn, hf]
    by_cases hj : j = i
    · subst hj
      simp [hi]
    · simp [hj]

theorem foldl_allCircuits {f : State → CircuitId → State} {g : Circuit → Circuit}
    (hf : ∀ (u : State) (i j : CircuitId), (f u i).circuit j = if j = i then g (u.circuit j) else u.circuit j)
    (s : State) (j : CircuitId) : (allCircuits.foldl f s).circuit j = g (s.circuit j) := by
  rw [foldl_circuit hf allCircuits_nodup, if_pos (allCircuits_mem j)]

theorem foldl_withHead {α : Type} {f : State → α → State} {r : Request}
    (hf : ∀ (u : State) (x : α), u.Quiet → (f (u.withHead r) x) = (f u x).withHead r)
    (hc : ∀ (u : State) (x : α), u.Quiet → u.CopyOnly (f u x)) (hq : s.Quiet) (xs : List α) :
    xs.foldl f (s.withHead r) = (xs.foldl f s).withHead r := by
  induction xs generalizing s with
  | nil => rfl
  | cons x xs ih => rw [List.foldl_cons, List.foldl_cons, hf s x hq, ih ((hc s x hq).quiet hq)]

theorem spike_circuit (s : State) (n : Nat) (j : CircuitId) :
    (s.spike n).circuit j = ((s.circuit j).without fun e => e.handle == n).cutWhere (· == n) := by
  rw [spike, foldl_allCircuits (g := fun c => c.cutWhere (· == n)) (fun u i j => cutOrder_circuit u i j n),
    foldl_allCircuits (g := fun c => c.without fun e => e.handle == n) (fun u i j => removeEntries_circuit u i j _)]

theorem spike_copyOnly (hq : s.Quiet) (n : Nat) : s.CopyOnly (s.spike n) := by
  have hremoved : s.CopyOnly (allCircuits.foldl (fun s i => s.removeEntries i fun e => e.handle == n) s) :=
    CopyOnly.foldl (fun u i hu => removeEntries_copyOnly hu i _) _ hq
  exact hremoved.trans (CopyOnly.foldl (fun u i _ => cutOrder_copyOnly u i n) _ (hremoved.quiet hq))

theorem withHead_spike (hq : s.Quiet) (r : Request) (n : Nat) : (s.withHead r).spike n = (s.spike n).withHead r := by
  have hremoved : s.CopyOnly (allCircuits.foldl (fun s i => s.removeEntries i fun e => e.handle == n) s) :=
    CopyOnly.foldl (fun u i hu => removeEntries_copyOnly hu i _) _ hq
  rw [spike, foldl_withHead (fun u i hu => withHead_removeEntries hu r i _) (fun u i hu => removeEntries_copyOnly hu i _) hq,
    foldl_withHead (fun u i _ => withHead_cutOrder u r i n) (fun u i _ => cutOrder_copyOnly u i n) (hremoved.quiet hq), spike]

theorem spikeAll_circuit (s : State) (ns : List Nat) (j : CircuitId) :
    (s.spikeAll ns).circuit j = ((s.circuit j).without fun e => ns.contains e.handle).cutWhere ns.contains := by
  induction ns generalizing s with
  | nil =>
    simp [spikeAll, Circuit.without, Circuit.cutWhere, queueSum]
  | cons n ns ih =>
    have hfold : s.spikeAll (n :: ns) = (s.spike n).spikeAll ns := List.foldl_cons ..
    have hcommute (c : Circuit) (p : Nat → Bool) (p' : Entry → Bool) :
        (c.cutWhere p).without p' = (c.without p').cutWhere p := rfl
    have hcons : (n :: ns).contains = fun m => m == n || ns.contains m := funext fun m => List.contains_cons
    rw [hfold, ih, spike_circuit, hcommute, Circuit.without_without, Circuit.cutWhere_cutWhere]
    exact congrArg (fun p : Nat → Bool => ((s.circuit j).without fun e => p e.handle).cutWhere p) hcons.symm

end State

/-! ### TAKE SPIKE (R40, R60, R167) -/

theorem State.spikeAll_copyOnly {s : State} (hq : s.Quiet) (ns : List Nat) : s.CopyOnly (s.spikeAll ns) :=
  CopyOnly.foldl (fun _ n hu => spike_copyOnly hu n) ns hq

theorem State.withHead_spikeAll {s : State} (hq : s.Quiet) (r : Request) (ns : List Nat) :
    (s.withHead r).spikeAll ns = (s.spikeAll ns).withHead r :=
  foldl_withHead (fun _ n hu => withHead_spike hu r n) (fun _ n hu => spike_copyOnly hu n) hq ns

/-- The two bytes of a serial put together again (R167). -/
theorem toNat_of_bytes (n : BitVec 16) : 256 * (n.extractLsb' 8 8).toNat + (n.extractLsb' 0 8).toNat = n.toNat := by
  simp only [BitVec.extractLsb'_toNat, Nat.shiftRight_eq_div_pow]
  omega

theorem Circuit.spiked_eq (c : Circuit) (ns : List Nat) :
    (c.without fun e => ns.contains e.handle).cutWhere ns.contains =
      { c with
        queue := c.queue.filter fun e => !ns.contains e.handle
        backlog := c.backlog - queueSum (c.queue.filter fun e => ns.contains e.handle)
        flight := c.flight.map fun f =>
          if ns.contains f.entry.handle ∧ f.ctx.phase.cuttable = true then { f with ctx := { f.ctx with cut := true } }
          else f } := by
  unfold Circuit.without Circuit.cutWhere
  congr 1
  congr 1
  funext f
  unfold Context.cutOrder
  cases ns.contains f.entry.handle <;> cases f.ctx.phase.cuttable <;> rfl

/-- Settles O36: each named take leaves every queue and its contexts are cut. -/
theorem takeSpikeCommand : Obligations.TakeSpikeCommand := by
  unfold Obligations.TakeSpikeCommand
  intro s h index serial hi ps named
  have hperform (u : State) : u.perform 0x06 ps = u.takeSpike index serial.toNat :=
    congrArg (u.takeSpike index) (toNat_of_bytes serial)
  refine ⟨fun hx => ?_, fun hx hn => ?_, fun l hx hn => ?_⟩
  · refine congrArg Host.Outcome.next (State.request_refused hi ?_)
    rw [hperform, State.takeSpike, if_pos hx]
  · refine congrArg Host.Outcome.next (State.request_refused hi ?_)
    rw [hperform, State.takeSpike, if_neg (by omega), if_pos hn]
  have hspike (u : State) : u.perform 0x06 ps =
      if u.spikeWaits l serial.toNat then .waits
      else if (u.readyTakes l serial.toNat).isEmpty then u.refuse .notFound
      else .ok (spikeCount (u.readyTakes l serial.toNat).length) (u.spikeAll (u.readyTakes l serial.toNat)) := by
    have hl := l.isLt
    rw [hperform, State.takeSpike, if_neg (by omega), if_neg (by omega), linkOf_eq hx]
  have hwaits (r : Request) (hf : named .filling l = []) : (s.withHead r).spikeWaits l serial.toNat = false := by
    have hfound : (s.withHead r).findTakes .filling l serial.toNat = [] := hf
    rw [State.spikeWaits, hfound]
    rfl
  have hready (r : Request) : (s.withHead r).readyTakes l serial.toNat = named .ready l := rfl
  refine ⟨fun hf => ?_, fun hf hr => ?_, fun hf hr => ⟨⟨_, rfl⟩, fun hw hlow => ?_⟩⟩
  · refine congrArg Host.Outcome.next (State.request_held hi ?_)
    have hfound (r : Request) : (s.withHead r).findTakes .filling l serial.toNat ≠ [] := hf
    rw [hspike, if_pos (by simp [State.spikeWaits, hfound])]
  · refine congrArg Host.Outcome.next (State.request_refused hi ?_)
    rw [hspike, hwaits _ hf, hready, hr]
    rfl
  · have hq : s.Quiet := ⟨hw, hlow⟩
    have hcopy := State.spikeAll_copyOnly hq (named .ready l)
    refine ⟨s.spikeAll (named .ready l), ?_, hcopy.apart, fun i => ?_⟩
    · refine congrArg Host.Outcome.next (State.request_answers hi (hcopy.requests.trans hi.2.1) (hcopy.settled hi.2.2) ?_)
      rw [hspike, hwaits _ hf, hready, State.withHead_spikeAll hq, if_neg Bool.false_ne_true,
        if_neg (by simpa using hr), Performed.ok, spikeCount]
      rcases Nat.lt_or_ge (named .ready l).length 256 with hlt | hge
      · rw [if_pos hlt, if_pos hlt]
        rfl
      · rw [if_neg (by omega), if_neg (by omega)]
    · rw [State.spikeAll_circuit, Circuit.spiked_eq]

end Sys2Proof.Machine
end


-- ==== sitting 4: link control and copy restart (R2, R22, R23, R41, R140, R170) ====
section
/-! LINK ENABLE, LINK DISABLE and LINK RESET by the state of their link, and what COPY RESTART leaves of each part. -/

namespace Sys2Proof.Machine

open Sys2Proof

/-! ### O34 -/

section
variable {s : State} {h : ReqHead} {l : LinkId} {index : Byte}

theorem State.request_enableLink (hi : s.serviceIdle) (hx : index.toNat = l.val) :
    s.request h 0x05 [index, 0x01] =
      (s.enableLink l).answer h 0x05 [index, 0x01] .done false [((s.enableLink l).link l).rx.code] := by
  refine State.request_answers hi ((s.enableLink_requests l).trans hi.2.1) (State.enableLink_settled hi.2.2 l) ?_
  rw [State.perform_link _ l index 0x01 hx, if_pos rfl, State.linkAct_eq _ l (f := (·.enableLink l)) (s.withHead_enableLink _ l)]
  rfl

theorem State.request_disableLink (hi : s.serviceIdle) (hx : index.toNat = l.val)
    (hb : (s.link l).rx.betweenFrames = true) : s.request h 0x05 [index, 0x02] =
      (s.disableLink l).answer h 0x05 [index, 0x02] .done false [((s.disableLink l).link l).rx.code] := by
  refine State.request_answers hi ((s.disableLink_requests l).trans hi.2.1) (State.disableLink_settled hi.2.2 l) ?_
  rw [State.perform_link _ l index 0x02 hx, if_neg (by decide), if_pos rfl, State.withHead_link, if_pos hb,
    State.linkAct_eq _ l (f := (·.disableLink l)) (s.withHead_disableLink _ l)]
  rfl

theorem State.request_disableLink_waits (hi : s.serviceIdle) (hx : index.toNat = l.val)
    (hb : (s.link l).rx.betweenFrames = false) : s.request h 0x05 [index, 0x02] = s.held h 0x05 [index, 0x02] := by
  refine State.request_held hi ?_
  rw [State.perform_link _ l index 0x02 hx, if_neg (by decide), if_pos rfl, State.withHead_link, hb]
  rfl

theorem State.request_linkBadIndex (hi : s.serviceIdle) (hx : 8 ≤ index.toNat) (action : Byte) :
    s.request h 0x05 [index, action] = s.answer h 0x05 [index, action] .badIndex false [] :=
  State.request_refused hi (State.linkControl_badIndex _ hx action)

end

/-- Settles O34, by the state of the link. -/
theorem linkEnableAndDisable : Obligations.LinkEnableAndDisable := by
  unfold Obligations.LinkEnableAndDisable
  intro s h index hi
  refine ⟨fun l hx => ?_, fun hx => ⟨?_, ?_, ?_⟩⟩
  · intro k
    refine ⟨fun hk => ?_, fun hk => ?_, fun hk => ?_, fun hk => ?_, fun hk hk' => ?_⟩
    · have he := State.request_enableLink (h := h) hi hx
      rw [State.enableLink_disabled hk, State.setLink_link_self] at he
      exact congrArg Host.Outcome.next he
    · have he := State.request_enableLink (h := h) hi hx
      rw [State.enableLink_enabled hk] at he
      exact congrArg Host.Outcome.next he
    · have hon : (s.link l).rx ≠ .disabled := fun hn => nomatch hk.symm.trans hn
      have he := State.request_disableLink (h := h) hi hx ((Rx.betweenFrames_iff _).2 (.inl hk))
      rw [State.disableLink_enabled hon, State.setLink_link_self] at he
      exact congrArg Host.Outcome.next he
    · have he := State.request_disableLink (h := h) hi hx ((Rx.betweenFrames_iff _).2 (.inr hk))
      have hcode : (s.link l).rx.code = 0x00 := congrArg Rx.code hk
      rw [State.disableLink_disabled hk, hcode] at he
      exact congrArg Host.Outcome.next he
    · have hb : (s.link l).rx.betweenFrames = false :=
        Bool.eq_false_iff.2 fun hb => ((Rx.betweenFrames_iff _).1 hb).elim hk hk'
      exact congrArg Host.Outcome.next (State.request_disableLink_waits hi hx hb)
  · exact congrArg Host.Outcome.next (State.request_linkBadIndex hi hx 0x01)
  · exact congrArg Host.Outcome.next (State.request_linkBadIndex hi hx 0x02)
  · exact congrArg Host.Outcome.next (State.request_linkBadIndex hi hx 0x03)

/-! ### LINK RESET (R23) -/

/-- What LINK RESET makes of its link, the store in LOW or not (R23). -/
def Link.resetTo (low : Bool) (rx : Rx) (fifo : List Byte) (k : Link) : Link :=
  { k with
    rx := rx, fifo := fifo, expected := none, recent := [], silent := false, silenceTicks := 0, hold := false
    holdTicks := if k.hold then 0 else k.holdTicks, holdSpent := k.holdSpent || low }

theorem Link.aside_resetTo (low : Bool) (rx : Rx) (fifo : List Byte) : Link.Aside (Link.resetTo low rx fifo) :=
  fun _ => ⟨rfl, fun _ _ => rfl⟩

theorem Link.aside_strayed : Link.Aside Link.strayed := fun _ => ⟨rfl, fun _ _ => rfl⟩

namespace State

variable {s : State} {l : LinkId} {h : ReqHead} {index : Byte}

theorem dropFrame_rx (s : State) (l : LinkId) : ((s.dropFrame l).link l).rx = (s.link l).rx := by
  unfold dropFrame
  split
  · exact discard_rx s l _ l
  · exact discard_rx s l _ l
  all_goals rfl

theorem resetLink_eq (s : State) (l : LinkId) : s.resetLink l = (s.dropFrame l).modLink l
    (Link.resetTo (s.dropFrame l).store.low (if (s.link l).rx = .disabled then .disabled else .idle) (s.resetFifo l)) := by
  unfold resetLink
  rw [modLink_refreshHold, modLink, dropFrame_rx]
  congr 1
  exact Link.refreshHold_drops (by
    simp only [Link.holdWanted]
    cases (s.dropFrame l).store.low <;> simp)

theorem complete_modLink {f : Link → Link} (hf : Link.Aside f) (r : Request) (x : Result) (b : Bool) (v : List Byte) :
    (s.modLink l f).complete r x b v = (s.complete r x b v).modLink l f :=
  sendBody_modLink
    (s := { s with requests := s.requests.tail, retryTimer := none, requestsDone := satPlus s.requestsDone 1 }) hf _ _

theorem perform_linkReset (u : State) (hx : index.toNat = l.val) :
    u.perform 0x05 [index, 0x03] = u.linkAct l (·.resetLink l) := by
  rw [u.perform_link l index 0x03 hx, if_neg (by decide), if_neg (by decide), if_pos rfl]

theorem withdraw_settled (hs : s.settled) (hf : (s.link l).fifo = []) : (s.withdraw l).settled := fun m => by
  by_cases hm : m = l
  · subst hm
    exact .inl hf
  · rw [withdraw_waits_ne s hm]
    exact hs m

/-- LINK RESET of a link that holds no take: nothing but the waiting request and the link changes. -/
theorem request_linkReset_withdrawn (hi : s.serviceIdle) (hx : index.toNat = l.val)
    (hdrop : ∀ r, (s.withHead r).dropFrame l = (s.withHead r).withdraw l) (hfifo : ∀ r, (s.withHead r).resetFifo l = [])
    {rx : Rx} (hrx : (if (s.link l).rx = .disabled then .disabled else .idle) = rx) :
    s.request h 0x05 [index, 0x03] = ((s.withdraw l).modLink l (Link.resetTo s.store.low rx [])).answer h 0x05
      [index, 0x03] .done false [rx.code] := by
  have hothers : s.OthersSettled l := hi.2.2.others l
  have hsettled : ((s.withdraw l).modLink l (Link.resetTo s.store.low rx [])).settled := by
    refine State.OthersSettled.settled (l := l) (State.OthersSettled.modLink (fun m hm => ?_) _) ?_
    · rw [withdraw_waits_ne s hm]
      exact hothers m hm
    · rw [modLink_link_self]
      rfl
  refine State.request_answers hi hi.2.1 hsettled ?_
  rw [perform_linkReset _ hx, linkAct_eq _ l (f := (·.resetLink l)) (resetLink_eq _ l), hdrop, hfifo, modLink_link_self, withHead_link, hrx]
  rfl

/-- LINK RESET of a link that holds a take. -/
theorem request_linkReset_discards (hi : s.serviceIdle) (hx : index.toNat = l.val) {hd : Nat} {waiting : List Byte}
    (hdrop : ∀ r, (s.withHead r).dropFrame l = (s.withHead r).discard l hd)
    (hfifo : ∀ r, (s.withHead r).resetFifo l = waiting) (hon : (s.link l).rx ≠ .disabled) :
    s.request h 0x05 [index, 0x03] =
      ((((s.withHead (ReqHead.request h 0x05 [index, 0x03])).discard l hd).modLink l (Link.resetTo
        ((s.withHead (ReqHead.request h 0x05 [index, 0x03])).discard l hd).store.low .idle waiting)).answer h 0x05
          [index, 0x03] .done false [0x01]).settle := by
  have hp := perform_linkReset (s.withHead (ReqHead.request h 0x05 [index, 0x03])) hx
  rw [linkAct_eq _ l (f := (·.resetLink l)) (resetLink_eq _ l), hdrop, hfifo, modLink_link_self, withHead_link, if_neg hon] at hp
  exact State.request_answered hi hp

end State

/-- A waiting take discarded by LINK RESET, its request answered: its segments return, no other link waits, and the bytes
that waited are stray (R4, R36). -/
theorem State.settle_reset {s : State} {l : LinkId} {hd : Nat} {t : Take} {waiting : List Byte} (hs : s.settled)
    (hq : s.requests = []) (ht : s.take? hd = some t) (hw : ∀ w ∈ s.store.waiting, w.link = l)
    (hlow : s.store.low = false) (hb : ∀ b ∈ waiting, b ≠ byteBegin) (r : Request) (x : Result) (b : Bool)
    (v : List Byte) :
    ((((s.withHead r).discard l hd).modLink l
      (Link.resetTo ((s.withHead r).discard l hd).store.low .idle waiting)).complete r x b v).settle =
      (((s.modStore fun st =>
        { st with takes := Takes.erase st.takes hd, free := st.free + t.chain.length, waiting := [] }).modLink l
          (Link.resetTo false .idle [])).complete r x b v).countLink l .stray waiting.length := by
  let freed : State := s.modStore fun st =>
    { st with takes := Takes.erase st.takes hd, free := st.free + t.chain.length, waiting := [] }
  have hnone : (s.store.withdraw l).waiting = [] :=
    List.filter_eq_nil_iff.2 fun w hmem => by simp [hw w hmem]
  have hdiscard : (s.withHead r).discard l hd = freed.withHead r := by
    rw [discard, freeTake_quiet (t := t) (by exact ht) (by exact hnone) (by exact hlow)]
    exact congrArg (fun ws => (s.modStore fun st =>
      { st with takes := Takes.erase st.takes hd, free := st.free + t.chain.length, waiting := ws }).withHead r) hnone
  have hfreedLow : (freed.withHead r).store.low = false := hlow
  let answered : State := freed.complete r x b v
  let reset : State := answered.modLink l (Link.resetTo false .idle waiting)
  have hempty : reset.store.waiting = [] := by
    rw [modLink_store, complete_store]
    rfl
  have hothers : reset.OthersSettled l := by
    refine OthersSettled.modLink (fun m hm => .inl ?_) _
    rw [complete_fifo]
    refine (hs m).resolve_right fun hwait => hm ?_
    obtain ⟨w, hmem, he⟩ := List.any_eq_true.1 hwait
    exact (beq_iff_eq.1 he).symm.trans (hw w hmem)
  have hlink : reset.link l = Link.resetTo false .idle waiting (answered.link l) := modLink_link_self ..
  have hsettle : reset.settle = reset.modLink l Link.strayed := by
    refine settle_idle hothers (by rw [State.waits, hempty]; rfl) (by rw [hlink]; rfl) ?_
    rw [hlink]
    exact hb
  rw [hdiscard, hfreedLow, withHead_modLink, withHead_complete (by exact hq), complete_modLink (Link.aside_resetTo _ _ _),
    complete_modLink (Link.aside_resetTo _ _ _), hsettle, modLink_modLink, countLink, modLink_modLink]
  rfl

/-- Settles O35, by the state of the link. -/
theorem linkResetCommand : Obligations.LinkResetCommand := by
  unfold Obligations.LinkResetCommand
  intro s h l index hi hx emptied
  refine ⟨fun hk => ?_, fun hk => ?_, fun hd waiting hk => ?_⟩
  · have hdrop (r : Request) : (s.withHead r).dropFrame l = (s.withHead r).withdraw l := by
      simp only [State.dropFrame, State.withHead_link, hk]
    have hfifo (r : Request) : (s.withHead r).resetFifo l = [] := by
      simp only [State.resetFifo, State.withHead_link, hk]
    exact congrArg Host.Outcome.next (State.request_linkReset_withdrawn hi hx hdrop hfifo (if_pos hk))
  · have hdrop (r : Request) : (s.withHead r).dropFrame l = (s.withHead r).withdraw l := by
      rcases hk with hk | ⟨x, hk⟩ | ⟨x, hk⟩ | ⟨x, hk⟩ <;> simp only [State.dropFrame, State.withHead_link, hk]
    have hfifo (r : Request) : (s.withHead r).resetFifo l = [] := by
      rcases hk with hk | ⟨x, hk⟩ | ⟨x, hk⟩ | ⟨x, hk⟩ <;> simp only [State.resetFifo, State.withHead_link, hk]
    have hon : (s.link l).rx ≠ .disabled := by
      rcases hk with hk | ⟨x, hk⟩ | ⟨x, hk⟩ | ⟨x, hk⟩ <;> simp [hk]
    exact congrArg Host.Outcome.next (State.request_linkReset_withdrawn hi hx hdrop hfifo (if_neg hon))
  · have hdrop (r : Request) : (s.withHead r).dropFrame l = (s.withHead r).discard l hd := by
      rcases hk with ⟨⟨closed, hk⟩, -⟩ | ⟨hk, -⟩ <;> simp only [State.dropFrame, State.withHead_link, hk]
    have hfifo (r : Request) : (s.withHead r).resetFifo l = waiting := by
      rcases hk with ⟨⟨closed, hk⟩, hw⟩ | ⟨hk, hw⟩ <;> simp only [State.resetFifo, State.withHead_link, hk, hw]
      rcases hi.2.2 l with hempty | hwaits
      · simp [hempty]
      · exact if_pos hwaits
    have hon : (s.link l).rx ≠ .disabled := by
      rcases hk with ⟨⟨closed, hk⟩, -⟩ | ⟨hk, -⟩ <;> simp [hk]
    have hreset := State.request_linkReset_discards (h := h) hi hx hdrop hfifo hon
    refine ⟨congrArg Host.Outcome.next hreset, fun t ht hw hlow hb => ?_⟩
    refine congrArg Host.Outcome.next (hreset.trans ?_)
    refine (State.settle_reset hi.2.2 hi.2.1 ht hw hlow hb _ _ _ _).trans ?_
    simp only [emptied, State.modStore_store, hlow]
    rfl

/-! ### COPY RESTART (R41, R170) -/

theorem Link.copyRestart_eq (k : Link) : k.copyRestart =
    { k with
      rx := if k.rx = .disabled then .disabled else .idle
      fifo := [], expected := none, recent := [], hold := false, holdSpent := false
      holdTicks := if k.hold then 0 else k.holdTicks } :=
  Link.refreshHold_drops rfl

theorem Circuit.copyRestart_eq (c : Circuit) : c.copyRestart =
    { c with
      queue := [], backlog := 0, flight := none, abandoned := decide (c.state = .sending)
      counters :=
        { c.counters with
          slotsSent := (c.flight.map fun f => satPlus c.counters.slotsSent f.ctx.slots).getD c.counters.slotsSent } } := by
  unfold copyRestart
  cases c.flight <;> rfl

/-- Settles O38, part by part. -/
theorem copyRestartEmptiesCopy : Obligations.CopyRestartEmptiesCopy := by
  unfold Obligations.CopyRestartEmptiesCopy
  intro s h hi
  have hlink (l : LinkId) : s.copyRestart.link l =
      { (s.link l).copyRestart with replies := (s.link l).copyRestart.replies.take 1 } := by
    simp [State.copyRestart, State.emptyCopy, State.link]
  have hsettled : s.copyRestart.settled := fun l => .inl (by
    rw [hlink, Link.copyRestart_eq])
  refine ⟨s.copyRestart, ?_, rfl, fun l => ?_, fun i => ?_⟩
  · exact congrArg Host.Outcome.next (State.request_answers hi hi.2.1 hsettled rfl)
  · rw [hlink, Link.copyRestart_eq]
  · rw [State.copyRestart_circuit, Circuit.copyRestart_eq]
    cases (s.circuit i).flight <;> rfl

end Sys2Proof.Machine
end


-- ==== sitting 4: character-time ends without copy, the answer-back, break and restore (R117, R123 to R129) ====
section
/-! The commands of a circuit that touch no take: each is the circuit changed, and a fault recorded. -/

namespace Sys2Proof.Machine

open Sys2Proof

/-! ### A character-time end (R96, R144, R145) -/

section
variable {s : State} {i : CircuitId}

theorem exec_characterTimeEnd (hr : s.resetHeld = false) :
    exec (.characterTimeEnd i) s = .next (s.characterTimeEnd i).settle := by
  change Host.Outcome.next (s.live fun s => (s.characterTimeEnd i).settle) = _
  rw [State.live_of_released hr]

/-- A stopped pacer has no character-time end. -/
theorem exec_characterTimeEnd_stopped (hr : s.resetHeld = false) (hs : s.settled) (hp : (s.circuit i).pacer.running = false) :
    exec (.characterTimeEnd i) s = .next s := by
  have hsame : s.characterTimeEnd i = s := if_neg (by simp [hp])
  rw [exec_characterTimeEnd hr, hsame, State.settle_of_settled hs]

/-- The work of a character-time end that comes to a change of its circuit in a settled state. -/
theorem exec_characterTimeEnd_circuit {u : State} {c c' : Circuit} (hr : s.resetHeld = false) (hu : u.settled)
    (hp : (s.circuit i).pacer.running = true) (h : s.characterEnd i = u.setCircuit i c) (hc : c.relatchPacer = c') :
    exec (.characterTimeEnd i) s = .next (u.setCircuit i c') := by
  have hend : s.characterTimeEnd i = u.setCircuit i c' := by
    rw [State.characterTimeEnd, if_pos hp, h, State.modCircuit, State.setCircuit_circuit_self, State.setCircuit_setCircuit,
      hc]
  rw [exec_characterTimeEnd hr, hend, State.settle_of_settled (by exact hu)]

end

/-- A pacer that goes on takes the active period and character length (R145). -/
theorem Circuit.relatchPacer_running {c : Circuit} (h : c.pacer.running = true) : c.relatchPacer =
    { c with pacer := { running := true, period := c.active.form.period, charLen := c.active.form.stop.charLen } } :=
  if_pos h

theorem Circuit.relatchPacer_stopped {c : Circuit} (h : c.pacer.running = false) : c.relatchPacer = c :=
  if_neg (by simp [h])

theorem Circuit.stopModeAtEnd_level {c : Circuit} {v : Slot} (h : c.active.stopMode.level = some v) :
    c.stopModeAtEnd = { c with slot := v, pacer := { c.pacer with running := false } } := by
  unfold stopModeAtEnd
  rw [h]
  rfl

/-- Under FILL a pacer that goes on puts LTRS on the line. -/
theorem Circuit.stopModeAtEnd_fill {c : Circuit} (h : c.active.stopMode = .fill) (hp : c.pacer.running = true) :
    c.stopModeAtEnd = { c with slot := .char .ltrs } := by
  have hlevel : c.active.stopMode.level = none := by rw [h]; rfl
  have hstart : c.startPacer = c := if_pos hp
  unfold stopModeAtEnd
  rw [hlevel]
  simp only [hstart]

/-- The stop mode on the line at a character-time end, spelled out with the pacer that then goes on or stands. -/
theorem Circuit.stopModeAtEnd_relatch {c : Circuit} (hp : c.pacer.running = true) :
    c.stopModeAtEnd.relatchPacer =
      match c.active.stopMode with
      | .mark => { c with slot := .mark, pacer := { c.pacer with running := false } }
      | .space => { c with slot := .space, pacer := { c.pacer with running := false } }
      | .fill =>
        { c with
          slot := .char .ltrs
          pacer := { running := true, period := c.active.form.period, charLen := c.active.form.stop.charLen } } := by
  cases hm : c.active.stopMode
  case mark => rw [stopModeAtEnd_level (v := .mark) (congrArg StopMode.level hm), relatchPacer_stopped rfl]
  case space => rw [stopModeAtEnd_level (v := .space) (congrArg StopMode.level hm), relatchPacer_stopped rfl]
  case fill =>
    rw [stopModeAtEnd_fill hm hp]
    exact relatchPacer_running hp

/-- Settles O39, state by state. -/
theorem characterEndIdle : Obligations.CharacterEndIdle := by
  unfold Obligations.CharacterEndIdle
  intro s i hr hs c going still ends
  refine ⟨exec_characterTimeEnd_stopped hr hs, fun hp => ⟨fun hstate => ?_, fun hstate => ?_, fun hstate hq => ?_,
    fun hstate => ?_⟩⟩
  · have hend : s.characterEnd i = s.setCircuit i c.stopModeAtEnd := by
      rcases hstate with hstate | hstate <;> simp only [State.characterEnd, show (s.circuit i).state = _ from hstate] <;> rfl
    refine (exec_characterTimeEnd_circuit hr hs hp hend (Circuit.stopModeAtEnd_relatch hp)).trans ?_
    cases c.active.stopMode <;> rfl
  · have hend : s.characterEnd i = s.setCircuit i (c.levelAtEnd .mark) := by
      simp only [State.characterEnd, show (s.circuit i).state = _ from hstate]
      rfl
    exact exec_characterTimeEnd_circuit hr hs hp hend (Circuit.relatchPacer_stopped rfl)
  · have hend : s.characterEnd i = s.setCircuit i c.idleAtEnd := by
      simp only [State.characterEnd, show (s.circuit i).state = _ from hstate, show (s.circuit i).queue = _ from hq]
      rfl
    refine (exec_characterTimeEnd_circuit hr hs hp hend (Circuit.relatchPacer_running hp)).trans ?_
    cases hm : c.active.idleMode <;> simp only [Circuit.idleAtEnd, hm] <;> rfl
  · have hend : s.characterEnd i = s.setCircuit i c.identifyingEnd := by
      simp only [State.characterEnd, show (s.circuit i).state = _ from hstate]
      rfl
    have hrun : c.identifyingEnd.pacer.running = true := by
      unfold Circuit.identifyingEnd
      split <;> exact hp
    refine (exec_characterTimeEnd_circuit hr hs hp hend (Circuit.relatchPacer_running hrun)).trans ?_
    unfold Circuit.identifyingEnd
    match hn : c.requestStep with
    | 0 => rfl
    | 1 => rfl
    | 2 => rfl
    | 3 => rfl
    | n + 4 => rfl

/-! ### The answer-back (R93, R123 to R125) -/

theorem State.queueFrame_setCircuit (s : State) (i : CircuitId) (c : Circuit) (l : LinkId) (frame : List Byte) :
    (s.setCircuit i c).queueFrame l frame = (s.queueFrame l frame).setCircuit i c := by
  unfold State.queueFrame
  rw [State.setCircuit_link]
  split <;> rfl

theorem State.recordFault_setCircuit (s : State) (i : CircuitId) (c : Circuit) (src : Fin 26) (code : FaultCode) :
    (s.setCircuit i c).recordFault src code = (s.recordFault src code).setCircuit i c := by
  unfold State.recordFault
  rw [State.setCircuit_settings]
  split
  · exact State.queueFrame_setCircuit { s.setFault src code with noticeNumber := s.noticeNumber + 1 } i c _ _
  · rfl

/-- A fault recorded and then a circuit changed is the circuit changed and then the fault recorded. -/
theorem State.recordFault_then_modCircuit (s : State) (i : CircuitId) (f : Circuit → Circuit) (src : Fin 26)
    (code : FaultCode) :
    (s.recordFault src code).modCircuit i f = (s.setCircuit i (f (s.circuit i))).recordFault src code := by
  rw [recordFault_setCircuit, modCircuit, State.circuit, recordFault_circuits]
  rfl

/-- FAULTED entered under MARK (R125, log 18). -/
theorem Circuit.enterFaulted_mark {c : Circuit} (h : c.active.stopMode = .mark) : c.enterFaulted =
    { c with
      state := .faulted, window := none, receiving := none, spacing := none
      slot := if c.slot.isChar then c.slot else .mark } :=
  stopModeBetween_level
    (c := { c with state := .faulted, window := none, receiving := none, spacing := none }) (congrArg StopMode.level h)

section
variable {s : State} {i : CircuitId} {code : Code5}

theorem exec_answerbackCharacter (hr : s.resetHeld = false) :
    exec (.answerbackCharacter i code) s = .next (s.answerbackCharacter i code) := by
  change Host.Outcome.next (s.live fun s => s.answerbackCharacter i code) = _
  rw [State.live_of_released hr]

theorem exec_noAnswerback (hr : s.resetHeld = false) : exec (.noAnswerback i) s = .next (s.noAnswerback i) := by
  change Host.Outcome.next (s.live fun s => s.noAnswerback i) = _
  rw [State.live_of_released hr]

theorem State.answerbackCharacter_closed (h : (s.circuit i).window = none ∨ (s.circuit i).receiving = none) :
    s.answerbackCharacter i code = s := by
  unfold State.answerbackCharacter
  rcases h with h | h
  · rw [h]
  · simp only [h, Option.isSome_none, Bool.false_eq_true, if_false]
    split <;> rfl

theorem State.answerbackCharacter_open {w : Window} {r : Reception} (hw : (s.circuit i).window = some w)
    (hr : (s.circuit i).receiving = some r) : s.answerbackCharacter i code = s.answerback i w code := by
  simp only [State.answerbackCharacter, hw, hr, Option.isSome_some, if_true]

theorem State.noAnswerback_expired (h : (s.circuit i).windowExpired = true) : s.noAnswerback i =
    (s.setCircuit i (s.circuit i).enterFaulted).recordFault (circuitSource i) .noAnswerback := by
  rw [State.noAnswerback, if_pos h, State.recordFault_then_modCircuit]

theorem State.noAnswerback_open (h : (s.circuit i).windowExpired = false) : s.noAnswerback i = s := if_neg (by simp [h])

variable {w : Window}

theorem State.answerback_shift {k : ShiftCase} (h : decodeReturn (s.circuit i).tracked code = .shift k) :
    s.answerback i w code = s.setCircuit i { s.circuit i with receiving := none, tracked := k } := by
  unfold State.answerback
  rw [h]
  exact State.modCircuit_modCircuit ..

theorem State.answerback_ignored (h : decodeReturn (s.circuit i).tracked code = .ignored) :
    s.answerback i w code = s.setCircuit i { s.circuit i with receiving := none } := by
  unfold State.answerback
  rw [h]
  rfl

/-- A character collected (R124, R125): one more in the buffer, and the nth of them decides. -/
theorem State.answerback_collect {ch : RxChar} (h : decodeReturn (s.circuit i).tracked code = .collect ch) :
    s.answerback i w code =
      let joined : State := s.setCircuit i
        { s.circuit i with receiving := none, buffer := (s.circuit i).buffer ++ [ch] }
      if ((s.circuit i).buffer ++ [ch]).length = w.expected.length then
        if answerAgrees ((s.circuit i).buffer ++ [ch]) w.expected then joined.modCircuit i (·.identified)
        else (joined.recordFault (circuitSource i) .wrongAnswerback).modCircuit i (·.enterFaulted)
      else joined := by
  unfold State.answerback
  rw [h]
  simp only [State.modCircuit_modCircuit, State.setCircuit_circuit_self]

end

/-- Settles O45, by what the character decodes to and by the window. -/
theorem answerbackDecides : Obligations.AnswerbackDecides := by
  unfold Obligations.AnswerbackDecides
  intro s i code hr c faulted
  refine ⟨fun hclosed => ?_, fun w r hw hrec => ⟨fun k hk => ?_, fun hk => ?_, fun ch hk => ?_⟩,
    fun w hw hdue hshort hm => ?_, fun hopen => ?_⟩
  · rw [exec_answerbackCharacter hr, State.answerbackCharacter_closed hclosed]
  · rw [exec_answerbackCharacter hr, State.answerbackCharacter_open hw hrec, State.answerback_shift hk]
  · rw [exec_answerbackCharacter hr, State.answerbackCharacter_open hw hrec, State.answerback_ignored hk]
  · intro buffer
    rw [exec_answerbackCharacter hr, State.answerbackCharacter_open hw hrec, State.answerback_collect hk]
    refine ⟨fun hlen => congrArg Host.Outcome.next (if_neg hlen), fun hbuf => ?_, fun hlen hbuf hm => ?_⟩
    · have hlen : buffer.length = w.expected.length := by rw [hbuf, List.length_map]
      have hagrees : answerAgrees buffer w.expected = true := by rw [hbuf]; exact beq_self_eq_true _
      refine congrArg Host.Outcome.next ((if_pos hlen).trans ((if_pos hagrees).trans ?_))
      rw [State.modCircuit, State.setCircuit_circuit_self, State.setCircuit_setCircuit]
      rfl
    · have hagrees : ¬answerAgrees buffer w.expected = true := fun h => hbuf (beq_iff_eq.1 h)
      refine congrArg Host.Outcome.next ((if_pos hlen).trans ((if_neg hagrees).trans ?_))
      rw [State.recordFault_then_modCircuit, State.setCircuit_circuit_self, State.setCircuit_setCircuit]
      exact congrArg (fun d => (s.setCircuit i d).recordFault (circuitSource i) .wrongAnswerback)
        (Circuit.enterFaulted_mark (c := { c with receiving := none, buffer := buffer }) hm)
  · have hexpired : (s.circuit i).windowExpired = true := by
      simp only [Circuit.windowExpired, show (s.circuit i).window = some w from hw, Bool.and_eq_true, decide_eq_true_eq]
      exact ⟨hdue, hshort⟩
    rw [exec_noAnswerback hr, State.noAnswerback_expired hexpired, Circuit.enterFaulted_mark hm]
  · have hopen' : (s.circuit i).windowExpired = false := by
      unfold Circuit.windowExpired
      rcases hopen with hw | ⟨w, hw, hlimit⟩
      · rw [show (s.circuit i).window = none from hw]
      · simp only [show (s.circuit i).window = some w from hw]
        rcases hlimit with hlt | hle
        · simp [Nat.not_le.2 hlt]
        · have hshort : ¬(s.circuit i).buffer.length < w.expected.length := Nat.not_lt.2 hle
          simp [hshort]
    rw [exec_noAnswerback hr, State.noAnswerback_open hopen']

/-! ### Break and restore (R127 to R129) -/

theorem Circuit.levelBetween_eq (c : Circuit) (v : Slot) :
    c.levelBetween v = { c with slot := if c.slot.isChar then c.slot else v } := by
  unfold levelBetween
  split <;> rfl

theorem Circuit.broken_sending {c : Circuit} (h : c.state = .sending) : c.broken = { c with breakSeen := true, spacing := none } := by
  unfold broken
  rw [h]

/-- BROKEN entered from IDENTIFYING or READY (R128, log 18). -/
theorem Circuit.broken_between {c : Circuit} (h : c.state ≠ .sending) : c.broken =
    { c with
      state := .broken, flight := none, stopNow := false, breakSeen := false, abandoned := false, requestStep := 0
      window := none, buffer := [], receiving := none, spacing := none
      marking := if c.returnMark then some 0 else none, slot := if c.slot.isChar then c.slot else .mark } := by
  have hbroken : c.broken = c.enterBroken := by
    unfold broken
    split
    · exact absurd ‹_› h
    all_goals rfl
  rw [hbroken, enterBroken, levelBetween_eq]
  rfl

theorem Circuit.breakDue_iff (c : Circuit) : c.breakDue = true ↔
    (c.state = .identifying ∨ c.state = .ready ∨ c.state = .sending) ∧
      ∃ n, c.spacing = some n ∧ c.active.breakDetect ≤ n := by
  unfold breakDue
  cases c.state <;> cases c.spacing <;> simp [CircuitState.watchesBreak]

theorem Circuit.restoreDue_iff (c : Circuit) : c.restoreDue = true ↔
    c.state = .broken ∧ ∃ n, c.marking = some n ∧ c.active.restoreTime ≤ n := by
  unfold restoreDue
  cases c.marking <;> simp

theorem Circuit.watchesBreak_iff (st : CircuitState) :
    st.watchesBreak = true ↔ st = .identifying ∨ st = .ready ∨ st = .sending := by
  cases st <;> simp [CircuitState.watchesBreak]

section
variable {s : State} {i : CircuitId}

theorem State.modCircuit_congr {f g : Circuit → Circuit} (h : f (s.circuit i) = g (s.circuit i)) :
    s.modCircuit i f = s.modCircuit i g := congrArg (s.setCircuit i) h

theorem exec_receiverBreak (hr : s.resetHeld = false) : exec (.receiverBreak i) s = .next (s.detectIfDue i) := by
  change Host.Outcome.next (s.live fun s => s.detectIfDue i) = _
  rw [State.live_of_released hr]

theorem exec_restore (hr : s.resetHeld = false) : exec (.restore i) s = .next (s.restoreIfDue i) := by
  change Host.Outcome.next (s.live fun s => s.restoreIfDue i) = _
  rw [State.live_of_released hr]

theorem exec_returnLineLevelChange (hr : s.resetHeld = false) :
    exec (.returnLineLevelChange i) s = .next (s.setCircuit i (s.circuit i).levelChange) := by
  change Host.Outcome.next (s.returnLevelChange i) = _
  rw [State.returnLevelChange, hr]
  rfl

/-- A break that is due, in any state that measures spacing. -/
theorem exec_receiverBreak_due (hr : s.resetHeld = false) (h : (s.circuit i).breakDue = true) :
    exec (.receiverBreak i) s = .next
      (((s.recordFault (circuitSource i) .receiverBreak).countCircuit i .receiverBreaks 1).modCircuit i Circuit.broken) := by
  rw [exec_receiverBreak hr, State.detectIfDue, if_pos h]
  rfl

/-- The circuit of a noted break, but for its counter. -/
theorem State.noted_circuit (s : State) (i : CircuitId) :
    ((s.recordFault (circuitSource i) .receiverBreak).countCircuit i .receiverBreaks 1).circuit i =
      (s.circuit i).count .receiverBreaks 1 := by
  rw [State.countCircuit, State.modCircuit_circuit_self, State.circuit, State.circuit, State.recordFault_circuits]

end

/-- Settles O46, by whether the run in progress has reached its time. -/
theorem breakAndRestore : Obligations.BreakAndRestore := by
  unfold Obligations.BreakAndRestore
  intro s i hr c noted
  have hstate : (noted.circuit i).state = c.state := by
    rw [s.noted_circuit i]
    rfl
  refine ⟨fun n hn hdue => ⟨fun hs => ?_, fun hs => ?_⟩, fun hnot => ?_, fun n hs hm hdue => ?_, fun hnot => ?_,
    fun hmark => ?_, fun hspace => ?_⟩
  · rw [exec_receiverBreak_due hr ((Circuit.breakDue_iff _).2 ⟨.inr (.inr hs), n, hn, hdue⟩)]
    exact congrArg Host.Outcome.next (State.modCircuit_congr (Circuit.broken_sending (hstate.trans hs)))
  · have hidle : (noted.circuit i).state ≠ .sending := by
      rw [hstate]
      rcases hs with hs | hs <;> simp [hs]
    rw [exec_receiverBreak_due hr ((Circuit.breakDue_iff _).2 ⟨hs.elim .inl fun h => .inr (.inl h), n, hn, hdue⟩)]
    exact congrArg Host.Outcome.next (State.modCircuit_congr (Circuit.broken_between hidle))
  · have hdue : (s.circuit i).breakDue = false := Bool.eq_false_iff.2 fun h => by
      obtain ⟨hs, n, hn, hle⟩ := (Circuit.breakDue_iff _).1 h
      rcases hnot with hnone | ⟨m, hm, hlt⟩ | hst
      · exact nomatch hnone.symm.trans hn
      · have hmn : m = n := Option.some.inj (hm.symm.trans hn)
        exact absurd hle (Nat.not_le.2 (hmn ▸ hlt))
      · rcases hst with hst | hst | hst <;> rw [show (s.circuit i).state = _ from hst] at hs <;> simp at hs
    rw [exec_receiverBreak hr, State.detectIfDue, if_neg (by simp [hdue])]
  · have hrestore : (s.circuit i).restoreDue = true := (Circuit.restoreDue_iff _).2 ⟨hs, n, hm, hdue⟩
    rw [exec_restore hr, State.restoreIfDue, if_pos hrestore, State.modCircuit, Circuit.intoService_eq]
  · have hdue : (s.circuit i).restoreDue = false := Bool.eq_false_iff.2 fun h => by
      obtain ⟨hs, n, hn, hle⟩ := (Circuit.restoreDue_iff _).1 h
      rcases hnot with hst | hnone | ⟨m, hm, hlt⟩
      · exact hst hs
      · exact nomatch hnone.symm.trans hn
      · have hmn : m = n := Option.some.inj (hm.symm.trans hn)
        exact absurd hle (Nat.not_le.2 (hmn ▸ hlt))
    rw [exec_restore hr, State.restoreIfDue, if_neg (by simp [hdue])]
  · rw [exec_returnLineLevelChange hr, Circuit.levelChange]
    simp only [show (s.circuit i).returnMark = true from hmark, Bool.not_true, Bool.true_and, Bool.false_and,
      Bool.false_eq_true, if_false, Bool.and_eq_true, Circuit.watchesBreak_iff, Option.isSome_iff_ne_none,
      Option.isNone_iff_eq_none]
    rfl
  · rw [exec_returnLineLevelChange hr, Circuit.levelChange]
    simp only [show (s.circuit i).returnMark = false from hspace, Bool.not_false, Bool.true_and, Bool.false_and,
      Bool.false_eq_true, if_false, decide_eq_true_eq]
    rfl

end Sys2Proof.Machine
end


-- ==== sitting 4: the Packer, choice by choice (R88, R89, R96 to R105, R109 to R111) ====
section
/-! What the Packer answers, said once for its parts: a line end that begins, a character with the shift it needs, the
characters of header, text and trailer. Every answer comes from one of a few forms, so a law of all answers is proved on
those forms. -/

namespace Sys2Proof.Machine

open Sys2Proof

/-! ### Line ends (R97, R103, R104) -/

/-- The characters of a line end after its first CR, with that CR before them (R102, R103). -/
theorem cr_lineEndRest (fm : Form) (k : LineEnd) (h : 1 ≤ fm.nCR) :
    .cr :: lineEndRest fm k = List.flatten [List.replicate fm.nCR .cr, List.replicate fm.nLF .lf,
      if fm.reassert then [.ltrs] else [], if k = .paragraph ∧ fm.spacing = true then [.lf] else []] := by
  obtain ⟨n, hn⟩ : ∃ n, fm.nCR = n + 1 := ⟨fm.nCR - 1, by omega⟩
  simp [lineEndRest, hn, List.replicate_succ]

/-- A context that has begun a line end and placed its first CR. -/
def Context.afterCR (x : Context) (fm : Form) (k : LineEnd) : Context :=
  (({ x with sequence := lineEndRest fm k, lineEnd := some k, column := 0 } : Context).emit fm .cr).markLineStart

theorem Context.beginLineEnd_eq (x : Context) (fm : Form) (k : LineEnd) (u : Nat) :
    x.beginLineEnd fm k u = .char .cr (x.afterCR fm k) u false := rfl

theorem Context.markLineStart_eq (x : Context) : x.markLineStart =
    { x with lineStart := if x.sequence = [] ∧ x.phase = .text then x.read else x.lineStart } := by
  unfold markLineStart
  by_cases h : x.sequence = [] ∧ x.phase = .text
  · simp [h]
  · rw [if_neg (by simpa using h), if_neg h]

theorem Context.afterCR_eq (x : Context) (fm : Form) (k : LineEnd) : x.afterCR fm k =
    { x with
      sequence := lineEndRest fm k, lineEnd := some k, column := 0, slots := x.slots + 1
      lineStart := if lineEndRest fm k = [] ∧ x.phase = .text then x.read else x.lineStart } :=
  Context.markLineStart_eq _

theorem lineEndRest_ne_nil {fm : Form} (h : 1 ≤ fm.nLF) (k : LineEnd) : lineEndRest fm k ≠ [] := by
  obtain ⟨n, hn⟩ : ∃ n, fm.nLF = n + 1 := ⟨fm.nLF - 1, by omega⟩
  simp [lineEndRest, hn, List.replicate_succ]

theorem Context.afterCR_lineStart (x : Context) {fm : Form} (k : LineEnd) (h : 1 ≤ fm.nLF) :
    (x.afterCR fm k).lineStart = x.lineStart := by
  rw [afterCR_eq]
  exact if_neg fun hn => lineEndRest_ne_nil h k hn.1

/-! ### Characters and their shifts (R88, R89) -/

theorem withShift_of_needs {k : ShiftCase} {f : FiveUnit} (h : f.needs = none ∨ f.needs = some k) : withShift k f = f := by
  unfold withShift
  rcases h with h | h <;> simp [h]

theorem withShift_of_other {k k' : ShiftCase} {f : FiveUnit} (h : f.needs = some k') (hk : k' ≠ k) :
    withShift k f = k'.shift := by
  simp [withShift, h, hk]

theorem ShiftCase.shift_ne {k : ShiftCase} {f : FiveUnit} (h : f.needs = some k) : k.shift ≠ f := by
  cases f <;> cases k <;> simp_all [FiveUnit.needs, ShiftCase.shift]

/-- A wanted character that the assumed case suits (R89). -/
theorem Context.want_fits {x : Context} {f : FiveUnit} (h : f.needs = none ∨ f.needs = some x.shift) (fm : Form)
    (past : Context → Context) (u : Nat) : x.want fm f past u = .char f ((past x).emit fm f) u false :=
  if_pos (withShift_of_needs h)

theorem Context.emit_shift (x : Context) (fm : Form) (k : ShiftCase) :
    x.emit fm k.shift = { x with slots := x.slots + 1, shift := k } := by
  cases k <;> rfl

/-- A wanted character of the other case: its shift goes first (R89). -/
theorem Context.want_shift {x : Context} {f : FiveUnit} {k : ShiftCase} (h : f.needs = some k) (hk : k ≠ x.shift)
    (fm : Form) (past : Context → Context) (u : Nat) :
    x.want fm f past u = .char k.shift { x with slots := x.slots + 1, shift := k } u false := by
  unfold want
  rw [withShift_of_other h hk, if_neg (ShiftCase.shift_ne h), emit_shift]

/-! ### The forms of an answer -/

/-- Contexts that stand between characters on the same line as a given one: they may differ from it in phase, read
position, held word and flags. -/
def Context.On (x y : Context) : Prop :=
  y.sequence = [] ∧ y.lineEnd = none ∧ y.lineStart = x.lineStart ∧ y.slots = x.slots

theorem Context.On.passChar {x y : Context} (h : x.On y) (w : HeldWord) (e : List Byte) (es : List (List Byte)) :
    x.On (Context.passChar w e es y) := by
  unfold Context.passChar
  split <;> exact h

/-- A law of the Packer's answers from a context, on each form that an answer can take but the fixed characters of a
header. -/
structure AnswerForms (fm : Form) (x : Context) (P : Chosen → Prop) : Prop where
  lineEnd : ∀ (y : Context) (k : LineEnd) (u : Nat), x.On y → P (y.beginLineEnd fm k u)
  want : ∀ (y : Context) (f : FiveUnit) (past : Context → Context) (u : Nat), x.On y → x.On (past y) →
    P (y.want fm f past u)
  emit : ∀ (y : Context) (f : FiveUnit) (u : Nat), x.On y → P (.char f (y.emit fm f) u false)
  takeEnd : P .takeEnd
  breakIn : P .breakIn

namespace AnswerForms

variable {fm : Form} {x y : Context} {P : Chosen → Prop} (hP : AnswerForms fm x P) {tbl : Vector SubstEntry 32} {t : Take}

include hP

theorem trailerClose (u : Nat) (h : x.On y) : P (trailerClose fm y u) := hP.lineEnd _ _ u h

theorem trailerCutMark (u : Nat) (h : x.On y) : P (trailerCutMark fm y u) := by
  unfold Machine.trailerCutMark
  split
  · exact hP.want _ _ _ u h h
  · exact hP.trailerClose u h

theorem trailerTruncatedMark (u : Nat) (h : x.On y) : P (trailerTruncatedMark fm t y u) := by
  unfold Machine.trailerTruncatedMark
  split
  · exact hP.want _ _ _ u h h
  · exact hP.trailerCutMark u h

theorem trailerSuspectMark (u : Nat) (h : x.On y) : P (trailerSuspectMark fm t y u) := by
  unfold Machine.trailerSuspectMark
  split
  · exact hP.want _ _ _ u h h
  · exact hP.trailerTruncatedMark u h

theorem trailerBody (rest : List Byte) (u : Nat) (h : x.On y) : P (trailerBody fm t y rest u) := by
  cases rest with
  | nil => exact hP.trailerSuspectMark u h
  | cons b bs =>
    exact hP.want { y with phase := .trailer (.body (b :: bs)) } _ (fun z => { z with phase := .trailer (.body bs) }) u h h

theorem trailerNext (step : TrailerStep) (u : Nat) (h : x.On y) : P (trailerNext fm t y step u) := by
  cases step with
  | opening =>
    unfold Machine.trailerNext
    dsimp only
    split
    · exact hP.lineEnd _ _ u h
    · exact hP.trailerBody _ u h
  | body rest => exact hP.trailerBody rest u h
  | suspectMark => exact hP.trailerSuspectMark u h
  | truncatedMark => exact hP.trailerTruncatedMark u h
  | cutMark => exact hP.trailerCutMark u h
  | firstClose => exact hP.trailerClose u h
  | secondClose => exact hP.lineEnd _ _ u h
  | done => exact hP.takeEnd

theorem startTrailer (u : Nat) (h : x.On y) : P (startTrailer fm t y u) := hP.trailerNext .opening u h

theorem packText (n u : Nat) (h : x.On y) : P (packText fm tbl t n y u) := by
  induction n generalizing y u with
  | zero => exact hP.startTrailer u h
  | succ n ih =>
    unfold Machine.packText
    split
    · exact hP.startTrailer u h
    split
    · split
      · split
        · exact hP.emit _ .space u h
        · exact hP.lineEnd _ .fold u h
      split
      · exact hP.lineEnd _ .paragraph u h
      · exact ih _ h
    split
    · split
      · exact ih _ h
      · exact ih _ h
    split
    · exact hP.lineEnd _ .fold u h
    split
    · exact ih _ h
    split
    · exact hP.lineEnd _ .fold u h
    · exact hP.want _ _ _ u h (Context.On.passChar h _ _ _)

theorem textNext (h : x.On y) : P (textNext fm tbl t y) := hP.packText _ 0 h

/-- The law on a header's items, given it on the fixed characters. -/
theorem headerItems (items : List HeaderItem) (h : x.On y)
    (fixed : ∀ f rest, P (.char f (({ y with phase := .header rest, headerStarted := true } : Context).emit fm f) 0
      (!y.headerStarted))) : P (headerItems fm tbl t y items) := by
  induction items with
  | nil => exact hP.textNext h
  | cons item rest ih =>
    cases item with
    | fixed f => exact fixed f rest
    | word w =>
      cases w with
      | nil => exact ih
      | cons b bs =>
        unfold Machine.headerItems
        split
        · exact hP.lineEnd _ .fold 0 h
        · exact hP.want _ _ _ 0 h h
    | space =>
      unfold Machine.headerItems
      split
      · exact hP.emit _ .space 0 h
      · exact hP.lineEnd _ .fold 0 h
    | close => exact hP.lineEnd _ .headerClose 0 h

theorem headerNext (items : List HeaderItem) (h : x.On y)
    (fixed : y.lead = false → ∀ f rest,
      P (.char f (({ y with phase := .header rest, headerStarted := true } : Context).emit fm f) 0
        (!y.headerStarted))) : P (headerNext fm tbl t y items) := by
  unfold Machine.headerNext
  split
  · exact hP.emit _ .lf 0 h
  · next hlead => exact hP.headerItems items h (fixed (by simpa using hlead))

/-- The law on what is chosen between characters, given it on the fixed characters of a header in progress. -/
theorem choose (hx : x.sequence = [])
    (fixed : (∃ items, x.phase = .header items) → x.lead = false → ∀ (y : Context) (f : FiveUnit) (rest : List HeaderItem),
      x.On y → P (.char f (({ y with phase := .header rest, headerStarted := true } : Context).emit fm f) 0
        (!x.headerStarted))) : P (choose fm tbl t x) := by
  have hon : x.On { x with lineEnd := none } := ⟨hx, rfl, rfl, rfl⟩
  cases hk : x.lineEnd with
  | some k =>
    rw [choose_of_lineEnd hx hk]
    unfold lineEndDone
    split
    · next items hp =>
      split
      · exact hP.startTrailer 0 hon
      split
      · exact hP.textNext hon
      · exact hP.headerNext items hon fun hlead f rest => fixed ⟨items, hp⟩ hlead _ f rest hon
    · split
      · exact hP.startTrailer 0 hon
      split
      · exact hP.startTrailer 0 hon
      split
      · exact hP.breakIn
      · exact hP.textNext hon
    · exact hP.trailerNext _ 0 hon
  | none =>
    have hsame : x.On x := ⟨hx, hk, rfl, rfl⟩
    rw [choose_of_phase hx hk]
    cases hp : x.phase with
    | header items => exact hP.headerNext items hsame fun hlead f rest => fixed ⟨items, hp⟩ hlead _ f rest hsame
    | text => exact hP.textNext hsame
    | trailer step => exact hP.trailerNext step 0 hsame

end AnswerForms

/-- Only the first fixed character of a header, the break-in lead sent, is a header's start (R51, R132). -/
theorem choose_start {fm : Form} {tbl : Vector SubstEntry 32} {t : Take} {x y : Context} {f : FiveUnit} {u : Nat}
    (h : choose fm tbl t x = .char f y u true) : (∃ items, x.phase = .header items) ∧ x.sequence = [] ∧ x.lead = false ∧
      x.headerStarted = false ∧ y.headerStarted = true := by
  cases hx : x.sequence with
  | cons g rest => rw [choose_of_sequence hx] at h; simp at h
  | nil =>
    let P : Chosen → Prop := fun c => ∀ f y u, c = .char f y u true →
      (∃ items, x.phase = .header items) ∧ x.lead = false ∧ x.headerStarted = false ∧ y.headerStarted = true
    have hP : AnswerForms fm x P :=
      { lineEnd := fun y k u _ f z v h => by simp [Context.beginLineEnd] at h
        want := fun y f past u _ _ g z v h => by
          unfold Context.want at h
          split at h <;> simp at h
        emit := fun y f u _ g z v h => by simp at h
        takeEnd := fun f y u h => by simp at h
        breakIn := fun f y u h => by simp at h }
    obtain ⟨hp, hl, hs, hy⟩ := hP.choose (tbl := tbl) (t := t) hx (fun hp hl y f rest _ g z v hc => by
      simp only [Chosen.char.injEq, Bool.not_eq_true'] at hc
      obtain ⟨-, hz, -, hs⟩ := hc
      exact ⟨hp, hl, hs, by rw [← hz]; rfl⟩) f y u h
    exact ⟨hp, rfl, hl, hs, hy⟩

end Sys2Proof.Machine
end


-- ==== sitting 4: a character-time end in SENDING (R65, R119, R128, R132, R149) ====
section
/-! A SENDING circuit at a character-time end: the Packer's next character, or the take returned under an order. -/

namespace Sys2Proof.Machine

open Sys2Proof

/-! ### A header start reported (R51, R132) -/

/-- The story index with a circuit in the sent set of a take's story (R51). -/
def Take.sentOn (t : Take) (i : CircuitId) (ys : List Story) : List Story :=
  match t.story with
  | none => ys
  | some k => ys.map fun y => if y.key = k then { y with sent := CircuitSet.add y.sent i } else y

section
variable {s : State} {i : CircuitId} {f : Flight} {t : Take}

theorem State.reportHeaderStart_eq {n : Nat} (ht : s.take? n = some t) :
    s.reportHeaderStart i n = { s with stories := t.sentOn i s.stories } := by
  unfold State.reportHeaderStart Take.sentOn
  simp only [ht]
  cases t.story <;> rfl

/-- A character placed on the line (R96, R132). -/
theorem State.putChar_eq (ht : s.take? f.entry.handle = some t) (ch : FiveUnit) (x : Context) (u : Nat) (start : Bool) :
    s.putChar i f ch x u start =
      ({ s with stories := if start then t.sentOn i s.stories else s.stories } : State).setCircuit i
        (({ s.circuit i with slot := .char ch, flight := some { f with ctx := x } } : Circuit).count .unprintable u) := by
  unfold State.putChar
  rw [State.countCircuit, State.modCircuit_modCircuit]
  cases start with
  | false => rfl
  | true =>
    exact State.reportHeaderStart_eq (by exact ht)

/-- The take in flight returned as a resumed entry (R65). -/
theorem State.returnTake_eq (ht : s.take? f.entry.handle = some t) (p : ReadPos) :
    s.returnTake i f p = s.setCircuit i
      (({ s.circuit i with
          flight := none
          queue := placeResumed (s.circuit i).queue
            { f.entry with resume := some p, estimate := estimate (s.circuit i).active.form (t.length - p.pos) }
          backlog := (s.circuit i).backlog + estimate (s.circuit i).active.form (t.length - p.pos) } : Circuit).count
        .slotsSent f.ctx.slots) := by
  unfold State.returnTake
  simp only [ht]
  rw [State.countCircuit, State.modCircuit_modCircuit]

theorem State.characterEnd_sending (hs : (s.circuit i).state = .sending) (hf : (s.circuit i).flight = some f) :
    s.characterEnd i = s.sendingEnd i f := by
  simp only [State.characterEnd, hs, hf]

theorem State.sendingEnd_char {ch : FiveUnit} {x : Context} {u : Nat} {start : Bool} (hn : (s.circuit i).stopNow = false)
    (hb : (s.circuit i).breakSeen = false) (ht : s.take? f.entry.handle = some t)
    (h : choose (s.circuit i).active.form s.subst t f.ctx = .char ch x u start) :
    s.sendingEnd i f = s.putChar i f ch x u start := by
  simp only [State.sendingEnd, hn, hb, State.chosen, ht, h, Bool.false_eq_true, if_false]

theorem State.sendingEnd_stopNow (hn : (s.circuit i).stopNow = true) :
    s.sendingEnd i f = (s.settleTake i f).modCircuit i (·.enterStoppedAtEnd) := if_pos hn

theorem State.sendingEnd_break (hn : (s.circuit i).stopNow = false) (hb : (s.circuit i).breakSeen = true) :
    s.sendingEnd i f = (s.settleTake i f).modCircuit i (·.applyStaged.enterBrokenAtEnd) := by
  rw [State.sendingEnd, if_neg (by simp [hn]), if_pos hb]

theorem State.settleTake_returned (hd : f.ctx.trailerDone = false) (hc : f.ctx.cut = false) :
    s.settleTake i f = s.returnTake i f f.ctx.lineStart := by
  rw [State.settleTake, hd, hc]
  rfl

end

/-! ### Entry into STOPPED and BROKEN at a character-time end (R121, R128) -/

/-- A circuit that leaves SENDING under STOP NOW, else under a receiver break, at the end of its character: staged values
apply, and STOPPED shows its stop mode or BROKEN holds MARK (R119, R121, R128, R149). -/
def Circuit.endedBy (c : Circuit) (stopNow : Bool) : Circuit :=
  (if stopNow then c.enterStoppedAtEnd else c.applyStaged.enterBrokenAtEnd).relatchPacer

/-- STOPPED at a character-time end, under each stop mode. -/
theorem Circuit.endedBy_stopNow {c : Circuit} (hp : c.pacer.running = true) :
    let form := c.active.form.withStaged c.staged
    let cleared : Circuit :=
      { c with
        state := .stopped, flight := none, stopNow := false, breakSeen := false, abandoned := false, requestStep := 0
        window := none, buffer := [], receiving := none, spacing := none, marking := none
        active := { c.active with form := form }, staged := .absent }
    (c.active.stopMode = .mark →
      c.endedBy true = { cleared with slot := .mark, pacer := { c.pacer with running := false } }) ∧
    (c.active.stopMode = .space →
      c.endedBy true = { cleared with slot := .space, pacer := { c.pacer with running := false } }) ∧
    (c.active.stopMode = .fill →
      c.endedBy true = { cleared with
        slot := .char .ltrs, pacer := { running := true, period := form.period, charLen := form.stop.charLen } }) := by
  intro form cleared
  have hended : c.endedBy true = cleared.stopModeAtEnd.relatchPacer := rfl
  have hrelatch := Circuit.stopModeAtEnd_relatch (c := cleared) hp
  refine ⟨fun hm => ?_, fun hm => ?_, fun hm => ?_⟩ <;>
  · rw [hended, hrelatch, show cleared.active.stopMode = _ from hm]

theorem Circuit.endedBy_break (c : Circuit) : c.endedBy false =
    { c with
      active := { c.active with form := c.active.form.withStaged c.staged }, staged := .absent
      state := .broken, flight := none, stopNow := false, breakSeen := false, abandoned := false, requestStep := 0
      window := none, buffer := [], receiving := none, spacing := none
      marking := if c.returnMark then some 0 else none, slot := .mark, pacer := { c.pacer with running := false } } :=
  Circuit.relatchPacer_stopped (c := c.applyStaged.enterBrokenAtEnd) rfl

/-- Settles O41: the character chosen, or the take returned at its line start. -/
theorem sendingCharacterEnd : Obligations.SendingCharacterEnd := by
  unfold Obligations.SendingCharacterEnd
  intro s i f t hr hs c hp hstate hf ht est form sent back
  have hend : s.characterEnd i = s.sendingEnd i f := State.characterEnd_sending hstate hf
  let returned : Circuit := ({ c with
    flight := none, queue := placeResumed c.queue { f.entry with resume := some f.ctx.lineStart, estimate := est }
    backlog := c.backlog + est } : Circuit).count .slotsSent f.ctx.slots
  have hreturn (hd : f.ctx.trailerDone = false) (hcut : f.ctx.cut = false) : s.settleTake i f = s.setCircuit i returned :=
    (State.settleTake_returned hd hcut).trans (State.returnTake_eq ht f.ctx.lineStart)
  refine ⟨fun ch x u start hn hb hc => ?_, fun ch x u hc => ?_, fun ch items hx hk hph hlead hstart => ?_,
    fun hn hd hcut => ?_, fun hn hb hd hcut => ?_⟩
  · have hput := hend.trans ((State.sendingEnd_char hn hb ht hc).trans (State.putChar_eq ht ch x u start))
    refine (exec_characterTimeEnd_circuit hr (by exact hs) hp hput (Circuit.relatchPacer_running hp)).trans ?_
    unfold Take.sentOn
    cases t.story <;> rfl
  · obtain ⟨hitems, hseq, hlead, hs, hx⟩ := choose_start hc
    exact ⟨hitems, hseq, hlead, hs, hx⟩
  · refine ⟨({ f.ctx with phase := .header items, headerStarted := true } : Context).emit c.active.form ch, ?_, rfl⟩
    rw [choose_of_phase hx hk, hph]
    simp only [headerNext, hlead, headerItems, hstart, Bool.false_eq_true, if_false, Bool.not_false]
  · have hback : s.characterEnd i = s.setCircuit i returned.enterStoppedAtEnd := by
      rw [hend, State.sendingEnd_stopNow hn, hreturn hd hcut, State.modCircuit, State.setCircuit_circuit_self,
        State.setCircuit_setCircuit]
    refine (exec_characterTimeEnd_circuit (c' := returned.endedBy true) hr hs hp hback rfl).trans ?_
    obtain ⟨hmark, hspace, hfill⟩ := Circuit.endedBy_stopNow (c := returned) hp
    cases hm : c.active.stopMode
    case mark => rw [hmark hm]; rfl
    case space => rw [hspace hm]; rfl
    case fill => rw [hfill hm]; rfl
  · have hback : s.characterEnd i = s.setCircuit i returned.applyStaged.enterBrokenAtEnd := by
      rw [hend, State.sendingEnd_break hn hb, hreturn hd hcut, State.modCircuit, State.setCircuit_circuit_self,
        State.setCircuit_setCircuit]
    refine (exec_characterTimeEnd_circuit (c' := returned.endedBy false) hr hs hp hback rfl).trans ?_
    rw [Circuit.endedBy_break]
    rfl

end Sys2Proof.Machine
end


-- ==== sitting 4: takes that end, heads that follow, and break-in (R74 to R76, R131 to R140) ====
section
/-! A take leaves the line in a quiet store: the reference is dropped aside from the circuit, so the circuit's own changes
come together in one. The head of the queue follows it, with the first character of its header. -/

namespace Sys2Proof.Machine

open Sys2Proof

/-! ### References dropped aside from the circuits -/

/-- The story index after the release of a take (R38, R50). -/
def Take.releasedFrom (t : Take) (ys : List Story) : List Story :=
  match t.story with
  | none => ys
  | some k => ys.map fun y => if y.key = k then { y with queued := y.queued - 1 } else y

namespace State

variable {s : State} {i : CircuitId} {f : Flight} {t : Take} {n : Nat}

theorem reportRelease_released (s : State) (t : Take) : s.reportRelease t = { s with stories := t.releasedFrom s.stories } := by
  unfold reportRelease Take.releasedFrom
  cases t.story <;> rfl

theorem dropRef_stories (hq : s.Quiet) (ht : s.take? n = some t) :
    (s.dropRef n).stories = if t.refs ≤ 1 then t.releasedFrom s.stories else s.stories := by
  rcases Nat.lt_or_ge 1 t.refs with h | h
  · rw [dropRef_shared ht h, if_neg (Nat.not_le.2 h)]
    rfl
  · rw [dropRef_last hq ht h, if_pos h, reportRelease_released]
    rfl

theorem dropRef_setCircuit (hq : s.Quiet) (i : CircuitId) (c : Circuit) (n : Nat) :
    (s.setCircuit i c).dropRef n = (s.dropRef n).setCircuit i c := by
  cases ht : s.take? n with
  | none => rw [dropRef_free ht, dropRef_free (s := s.setCircuit i c) ht]
  | some t =>
    rcases Nat.lt_or_ge 1 t.refs with h | h
    · rw [dropRef_shared ht h, dropRef_shared (s := s.setCircuit i c) ht h]
      rfl
    · rw [dropRef_last hq ht h, dropRef_last (hq.setCircuit i c) ht h, reportRelease_released, reportRelease_released]
      rfl

theorem dropRef_circuit (s : State) (n : Nat) (j : CircuitId) : (s.dropRef n).circuit j = s.circuit j := by
  rw [circuit, dropRef_circuits]
  rfl

/-- A take that leaves the line in a quiet store (R76). -/
theorem endFlight_eq (hq : s.Quiet) (i : CircuitId) (f : Flight) : s.endFlight i f =
    (s.dropRef f.entry.handle).setCircuit i
      (({ s.circuit i with flight := none } : Circuit).count .slotsSent f.ctx.slots) := by
  unfold endFlight
  rw [modCircuit, dropRef_setCircuit hq, countCircuit, modCircuit, setCircuit_circuit_self, setCircuit_setCircuit]

/-- A take's end in a quiet store (R133). -/
theorem takeEnd_eq (hq : s.Quiet) (i : CircuitId) (f : Flight) : s.takeEnd i f =
    (s.dropRef f.entry.handle).setCircuit i
      ((({ s.circuit i with flight := none } : Circuit).count .slotsSent f.ctx.slots).count .takesSent 1).applyStaged := by
  unfold takeEnd
  rw [endFlight_eq hq, countCircuit, modCircuit_modCircuit, setCircuit_circuit_self, setCircuit_setCircuit]

end State

/-! ### Heads (R74, R75, R95, R131) -/

/-- The header of an entry taken into flight (R95). -/
def Entry.header (e : Entry) (fm : Form) (t : Take) : List HeaderItem :=
  if e.resume.isSome then resumeHeader t else takeHeader fm e.prio t

/-- The first character of a header (R92, R106, R107). -/
def Entry.firstChar (e : Entry) (fm : Form) : FiveUnit :=
  if e.resume.isNone = true ∧ 0 < fm.bells.get e.prio then .figs else .ltrs

theorem Entry.header_eq (e : Entry) (fm : Form) (t : Take) :
    e.header fm t = .fixed (e.firstChar fm) :: (e.header fm t).tail := by
  unfold Entry.header Entry.firstChar takeHeader bellItems
  cases hr : e.resume with
  | some p => simp [resumeHeader]
  | none => by_cases hb : 0 < fm.bells.get e.prio <;> simp [hb]

theorem freshContext_phase (fm : Form) (e : Entry) (t : Take) (lead stopPending : Bool) :
    (freshContext fm e t lead stopPending).phase = .header (e.header fm t) := rfl

/-- The context of an entry taken into flight, its first character sent. -/
def Entry.begun (e : Entry) (fm : Form) (t : Take) (stopPending : Bool) : Context :=
  ({ freshContext fm e t false stopPending with phase := .header (e.header fm t).tail, headerStarted := true } : Context).emit
    fm (e.firstChar fm)

theorem choose_fresh (fm : Form) (tbl : Vector SubstEntry 32) (e : Entry) (t : Take) (stopPending : Bool) :
    choose fm tbl t (freshContext fm e t false stopPending) = .char (e.firstChar fm) (e.begun fm t stopPending) 0 true := by
  have hphase := freshContext_phase fm e t false stopPending
  rw [choose_of_phase rfl rfl, hphase, Entry.header_eq]
  rfl

theorem choose_freshLead (fm : Form) (tbl : Vector SubstEntry 32) (e : Entry) (t : Take) (stopPending : Bool) :
    choose fm tbl t (freshContext fm e t true stopPending) =
      .char .lf (({ freshContext fm e t true stopPending with lead := false } : Context).emit fm .lf) 0 false := by
  rw [choose_of_phase rfl rfl, freshContext_phase]
  rfl

theorem Circuit.count_zero (c : Circuit) (p : CircuitPoint) : c.count p 0 = c := by
  unfold Circuit.count
  rw [satPlus_zero]
  cases p <;> rfl

namespace State

variable {s : State} {i : CircuitId} {e : Entry} {rest : List Entry} {t : Take}

theorem dropStale_live (hq : (s.circuit i).queue = e :: rest) (h : s.staleHead i e = false) (n : Nat) :
    dropStale n s i = s := by
  cases n with
  | zero => rfl
  | succ n => simp only [dropStale, hq, h, Bool.false_eq_true, if_false]

theorem dropStale_empty (hq : (s.circuit i).queue = []) (n : Nat) : dropStale n s i = s := by
  cases n with
  | zero => rfl
  | succ n => simp only [dropStale, hq]

theorem headSelect_empty (hq : (s.circuit i).queue = []) (lead stopPending : Bool) :
    s.headSelect i lead stopPending = s := by
  unfold headSelect intoFlight
  rw [dropStale_empty hq]
  simp only [hq]

theorem headSelect_live (hq : (s.circuit i).queue = e :: rest) (ht : s.take? e.handle = some t)
    (h : s.staleHead i e = false) (lead stopPending : Bool) :
    s.headSelect i lead stopPending = s.setCircuit i
      { s.circuit i with
        queue := rest, backlog := (s.circuit i).backlog - e.estimate
        flight := some { entry := e, ctx := freshContext (s.circuit i).active.form e t lead stopPending } } := by
  unfold headSelect intoFlight
  rw [dropStale_live hq h]
  simp only [hq, ht]
  rfl

theorem sendOrIdle_idle (hf : (s.circuit i).flight = none) :
    s.sendOrIdle i = s.setCircuit i ({ s.circuit i with state := .ready } : Circuit).idleAtEnd := by
  unfold sendOrIdle
  split
  · next f h => exact nomatch hf.symm.trans h
  · rfl

/-- The head of the queue taken into flight, the first character of its context on the line. -/
theorem sendHead {lead stopPending start : Bool} {ch : FiveUnit} {x : Context}
    (hq : (s.circuit i).queue = e :: rest) (ht : s.take? e.handle = some t) (h : s.staleHead i e = false)
    (hc : choose (s.circuit i).active.form s.subst t (freshContext (s.circuit i).active.form e t lead stopPending) =
      .char ch x 0 start) :
    (s.headSelect i lead stopPending).sendOrIdle i =
      ({ s with stories := if start then t.sentOn i s.stories else s.stories } : State).setCircuit i
        { s.circuit i with
          queue := rest, backlog := (s.circuit i).backlog - e.estimate, state := .sending
          flight := some { entry := e, ctx := x }, slot := .char ch } := by
  let f : Flight := { entry := e, ctx := freshContext (s.circuit i).active.form e t lead stopPending }
  let c : Circuit := { s.circuit i with queue := rest, backlog := (s.circuit i).backlog - e.estimate, flight := some f }
  let u : State := s.setCircuit i { c with state := .sending }
  have hsend : (s.headSelect i lead stopPending).sendOrIdle i = u.emitFirst i := by
    rw [headSelect_live hq ht h]
    unfold sendOrIdle
    rw [setCircuit_circuit_self]
    dsimp only
    rw [modCircuit, setCircuit_circuit_self, setCircuit_setCircuit]
  have hcircuit : u.circuit i = { c with state := .sending } := setCircuit_circuit_self ..
  have hchosen : u.chosen i f = .char ch x 0 start := by
    have htake : u.take? f.entry.handle = some t := ht
    simp only [chosen, htake, hcircuit]
    exact hc
  have hemit : u.emitFirst i = u.putChar i f ch x 0 start := by
    unfold emitFirst
    rw [hcircuit]
    dsimp only [c]
    rw [hchosen]
  rw [hsend, hemit, putChar_eq (t := t) ht, hcircuit, Circuit.count_zero]
  exact setCircuit_setCircuit ({ s with stories := if start then t.sentOn i s.stories else s.stories } : State) i _ _

end State

end Sys2Proof.Machine
end


-- ==== sitting 4: the ends of takes at a character-time end (R74, R119, R128, R131 to R134, R138, R140) ====
section
/-! READY heads, takes that end, and takes that end under an order. -/

namespace Sys2Proof.Machine

open Sys2Proof

theorem Form.withStaged_absent (f : Form) : f.withStaged .absent = f := rfl

section
variable {s u : State} {i : CircuitId} {e : Entry} {t : Take}

theorem State.staleHead_live (ht : s.take? e.handle = some t) (h : e.resume.isSome = true ∨
    (s.circuit i).active.stale.get e.prio = 0 ∨
      (s.ms - t.readyTime.getD 0).toNat ≤ (s.circuit i).active.stale.get e.prio * 60000) : s.staleHead i e = false := by
  simp only [State.staleHead, ht, Bool.and_eq_false_iff, decide_eq_false_iff_not]
  rcases h with h | h | h
  · exact .inl (.inl (by rw [Option.isNone_eq_false_iff]; exact h))
  · exact .inl (.inr (by omega))
  · exact .inr (by omega)

theorem State.staleHead_stale (ht : s.take? e.handle = some t) (hr : e.resume = none)
    (hl : 0 < (s.circuit i).active.stale.get e.prio)
    (h : (s.circuit i).active.stale.get e.prio * 60000 < (s.ms - t.readyTime.getD 0).toNat) : s.staleHead i e = true := by
  simp only [State.staleHead, ht, hr, hl, h, Option.isNone_none, decide_true, Bool.and_self]

/-- A state that differs in copy alone, with one circuit replaced. -/
theorem State.CopyOnly.replaced (h : s.CopyOnly u) (hc : u.circuits = s.circuits) (i : CircuitId) (c : Circuit)
    (ys : List Story) :
    let v : State := ({ u with stories := ys } : State).setCircuit i c
    v = { s with
      circuits := s.circuits.set i (v.circuit i)
      store := { s.store with takes := v.store.takes, free := v.store.free }, stories := v.stories } := by
  intro v
  have hv : s.CopyOnly v := h.trans rfl
  have hcircuit : v.circuit i = c := State.setCircuit_circuit_self ..
  have hcircuits : v.circuits = s.circuits.set i (v.circuit i) := by
    rw [hcircuit, ← hc]
    rfl
  exact hv.eq.trans (congrArg (fun cs => { s with
    circuits := cs, store := { s.store with takes := v.store.takes, free := v.store.free }, stories := v.stories })
    hcircuits)

theorem State.characterEnd_ready (hs : (s.circuit i).state = .ready) {rest : List Entry}
    (hq : (s.circuit i).queue = e :: rest) : s.characterEnd i = (s.headSelect i false false).sendOrIdle i := by
  simp only [State.characterEnd, hs, hq]
  rfl

end

/-- What an idle mode puts on the line (R117). -/
def IdleMode.slot : IdleMode → Slot
  | .mark => .mark
  | .fill => .char .ltrs

/-- The idle output of READY at a character-time end, the pacer going on (R117, R145). -/
theorem Circuit.idleAtEnd_relatch {c : Circuit} (hp : c.pacer.running = true) : c.idleAtEnd.relatchPacer =
    { c with
      slot := c.active.idleMode.slot
      pacer := { running := true, period := c.active.form.period, charLen := c.active.form.stop.charLen } } := by
  rw [Circuit.relatchPacer_running (c := c.idleAtEnd) hp]
  unfold Circuit.idleAtEnd
  cases c.active.idleMode <;> rfl

/-! ### O42 -/

section
variable {s : State} {i : CircuitId} {f : Flight} {t : Take}

theorem choose_trailerDone {fm : Form} {tbl : Vector SubstEntry 32} {x : Context} (hx : x.sequence = [])
    (hp : x.phase = .trailer .done) : choose fm tbl t x = .takeEnd := by
  cases hk : x.lineEnd with
  | some k =>
    rw [choose_of_lineEnd hx hk]
    simp only [lineEndDone, hp]
    rfl
  | none =>
    rw [choose_of_phase hx hk, hp]
    rfl

theorem State.sendingEnd_takeEnd (hn : (s.circuit i).stopNow = false) (hb : (s.circuit i).breakSeen = false)
    (ht : s.take? f.entry.handle = some t)
    (hc : choose (s.circuit i).active.form s.subst t f.ctx = .takeEnd) :
    s.sendingEnd i f = if f.ctx.stopPending then (s.takeEnd i f).modCircuit i (·.enterStoppedAtEnd)
      else ((s.takeEnd i f).headSelect i false false).sendOrIdle i := by
  simp only [State.sendingEnd, hn, hb, State.chosen, ht, hc, Bool.false_eq_true, if_false]

end

theorem Entry.firstChar_columns (e : Entry) (fm : Form) : (e.firstChar fm).columns = 0 := by
  unfold Entry.firstChar
  split <;> rfl

theorem Entry.begun_column (e : Entry) (fm : Form) (t : Take) (stopPending : Bool) : (e.begun fm t stopPending).column = 0 :=
  (Nat.zero_add _).trans (e.firstChar_columns fm)

theorem Entry.begun_shift (e : Entry) (fm : Form) (t : Take) (stopPending : Bool) : (e.begun fm t stopPending).shift =
    if e.resume.isNone = true ∧ 0 < fm.bells.get e.prio then .figures else .letters := by
  unfold Entry.begun Entry.firstChar
  split <;> rfl

/-- The head of the queue taken into flight at a character-time end (R131, R133). -/
theorem exec_nextHead {s u : State} {i : CircuitId} {e : Entry} {rest : List Entry} {w : Take} {stopPending : Bool}
    (hr : s.resetHeld = false) (hp : (s.circuit i).pacer.running = true)
    (h : s.characterEnd i = (u.headSelect i false stopPending).sendOrIdle i) (hu : u.settled)
    (hup : (u.circuit i).pacer.running = true) (hq : (u.circuit i).queue = e :: rest) (ht : u.take? e.handle = some w)
    (hl : u.staleHead i e = false) :
    exec (.characterTimeEnd i) s = .next (({ u with stories := w.sentOn i u.stories } : State).setCircuit i
      { u.circuit i with
        queue := rest, backlog := (u.circuit i).backlog - e.estimate, state := .sending
        flight := some { entry := e, ctx := e.begun (u.circuit i).active.form w stopPending }
        slot := .char (e.firstChar (u.circuit i).active.form)
        pacer :=
          { running := true, period := (u.circuit i).active.form.period
            charLen := (u.circuit i).active.form.stop.charLen } }) :=
  exec_characterTimeEnd_circuit (u := ({ u with stories := w.sentOn i u.stories } : State)) hr hu hp
    (h.trans (State.sendHead hq ht hl (choose_fresh ..))) (Circuit.relatchPacer_running hup)

/-- A circuit whose take has ended: the counters raised and staged values active (R133). -/
def Circuit.takeEnded (c : Circuit) (slots : Nat) : Circuit :=
  ((({ c with flight := none } : Circuit).count .slotsSent slots).count .takesSent 1).applyStaged

section
variable {s : State} {i : CircuitId} {f : Flight} {t : Take}

/-- A take's end with stop-pending set (R133). -/
theorem exec_takeEnd_stop (hr : s.resetHeld = false) (hs : s.settled) (hq : s.Quiet)
    (hp : (s.circuit i).pacer.running = true)
    (h : s.characterEnd i = (s.takeEnd i f).modCircuit i (·.enterStoppedAtEnd)) :
    exec (.characterTimeEnd i) s = .next ((s.dropRef f.entry.handle).setCircuit i
      (((s.circuit i).takeEnded f.ctx.slots).endedBy true)) := by
  refine exec_characterTimeEnd_circuit (c' := ((s.circuit i).takeEnded f.ctx.slots).endedBy true) hr
    ((State.dropRef_copyOnly hq _).settled hs) hp ?_ rfl
  rw [h, State.takeEnd_eq hq, State.modCircuit, State.setCircuit_circuit_self, State.setCircuit_setCircuit]
  rfl

theorem State.takeEnd_circuit (hq : s.Quiet) (i : CircuitId) (f : Flight) :
    (s.takeEnd i f).circuit i = (s.circuit i).takeEnded f.ctx.slots := by
  rw [State.takeEnd_eq hq]
  exact State.setCircuit_circuit_self ..

/-- A take's end with a live head behind it (R133, step 5). -/
theorem exec_takeEnd_next {e : Entry} {rest : List Entry} {w : Take} (hr : s.resetHeld = false) (hs : s.settled)
    (hq : s.Quiet) (hp : (s.circuit i).pacer.running = true)
    (h : s.characterEnd i = ((s.takeEnd i f).headSelect i false false).sendOrIdle i)
    (hqueue : (s.circuit i).queue = e :: rest) (hw : (s.dropRef f.entry.handle).take? e.handle = some w)
    (hl : (s.takeEnd i f).staleHead i e = false) :
    let d := s.dropRef f.entry.handle
    let c := (s.circuit i).takeEnded f.ctx.slots
    exec (.characterTimeEnd i) s = .next (({ d with stories := w.sentOn i d.stories } : State).setCircuit i
      { c with
        queue := rest, backlog := c.backlog - e.estimate, state := .sending
        flight := some { entry := e, ctx := e.begun c.active.form w false }, slot := .char (e.firstChar c.active.form)
        pacer := { running := true, period := c.active.form.period, charLen := c.active.form.stop.charLen } }) := by
  intro d c
  have hd : s.CopyOnly d := State.dropRef_copyOnly hq _
  have hu : s.takeEnd i f = d.setCircuit i c := State.takeEnd_eq hq i f
  have hcircuit : (s.takeEnd i f).circuit i = c := State.takeEnd_circuit hq i f
  have htake : (s.takeEnd i f).take? e.handle = some w := by
    rw [hu]
    exact hw
  refine (exec_nextHead hr hp h (by rw [hu]; exact hd.settled hs) (by rw [hcircuit]; exact hp)
    (by rw [hcircuit]; exact hqueue) htake hl).trans (congrArg Host.Outcome.next ?_)
  rw [hcircuit, hu]
  exact State.setCircuit_setCircuit ({ d with stories := w.sentOn i d.stories } : State) i _ _

/-- After a dropped reference a take that keeps one is listed with one less, any other as before. -/
theorem State.dropRef_leaves {n m : Nat} {v : Take} (hq : s.Quiet) (ht : s.take? n = some t) (hv : s.take? m = some v)
    (h : m = n → 1 < t.refs) : ∃ w, (s.dropRef n).take? m = some w ∧ w = { v with refs := w.refs } := by
  have hdrop := State.dropRef_take? hq n m
  rw [hv] at hdrop
  by_cases hsame : n = m
  · have hvt : v = t := Option.some.inj (hv.symm.trans (hsame ▸ ht))
    rw [if_pos hsame, Option.bind_some, Take.lessRefs_one, if_neg (by rw [hvt]; exact Nat.not_le.2 (h hsame.symm))] at hdrop
    exact ⟨_, hdrop, rfl⟩
  · rw [if_neg hsame] at hdrop
    exact ⟨v, hdrop, rfl⟩

theorem State.dropRef_take_self {n : Nat} (hq : s.Quiet) (ht : s.take? n = some t) :
    (s.dropRef n).take? n = if t.refs ≤ 1 then none else some { t with refs := t.refs - 1 } := by
  have htake := State.dropRef_take? hq n n
  rw [ht, if_pos rfl] at htake
  exact htake

/-- A take's end with nothing queued (R133). -/
theorem exec_takeEnd_idle (hr : s.resetHeld = false) (hs : s.settled) (hq : s.Quiet)
    (hp : (s.circuit i).pacer.running = true)
    (h : s.characterEnd i = ((s.takeEnd i f).headSelect i false false).sendOrIdle i) (hqueue : (s.circuit i).queue = []) :
    exec (.characterTimeEnd i) s = .next ((s.dropRef f.entry.handle).setCircuit i
      ({ (s.circuit i).takeEnded f.ctx.slots with state := .ready } : Circuit).idleAtEnd.relatchPacer) := by
  refine exec_characterTimeEnd_circuit (u := s.dropRef f.entry.handle) hr ((State.dropRef_copyOnly hq _).settled hs) hp ?_ rfl
  have hended := State.takeEnd_circuit hq i f
  rw [h, State.headSelect_empty (by rw [hended]; exact hqueue), State.sendOrIdle_idle (by rw [hended]; rfl), hended,
    State.takeEnd_eq hq, State.setCircuit_setCircuit]

end

/-- Settles O42, by what follows the take. -/
theorem takeEndCountsTake : Obligations.TakeEndCountsTake := by
  unfold Obligations.TakeEndCountsTake
  refine ⟨?_, ?_⟩
  · intro s i f t hr hs hw hlow c hp hstate hn hb hab hf ht hm hx hph hnext form ended
    have hq : s.Quiet := ⟨hw, hlow⟩
    let d : State := s.dropRef f.entry.handle
    have hd : s.CopyOnly d := State.dropRef_copyOnly hq _
    have hend : s.characterEnd i = if f.ctx.stopPending then (s.takeEnd i f).modCircuit i (·.enterStoppedAtEnd)
        else ((s.takeEnd i f).headSelect i false false).sendOrIdle i :=
      (State.characterEnd_sending hstate hf).trans (State.sendingEnd_takeEnd hn hb ht (choose_trailerDone hx hph))
    have hexec : ∃ c', exec (.characterTimeEnd i) s = .next (d.setCircuit i c') ∧
        (f.ctx.stopPending = true → c' = (c.takeEnded f.ctx.slots).endedBy true) ∧
        (f.ctx.stopPending = false →
          c' = ({ c.takeEnded f.ctx.slots with state := .ready } : Circuit).idleAtEnd.relatchPacer) := by
      cases hsp : f.ctx.stopPending with
      | true =>
        rw [hsp] at hend
        exact ⟨_, exec_takeEnd_stop hr hs hq hp hend, fun _ => rfl, fun h => absurd h Bool.true_eq_false.mp⟩
      | false =>
        rw [hsp] at hend
        exact ⟨_, exec_takeEnd_idle hr hs hq hp hend (hnext.resolve_left (by simp [hsp])),
          fun h => absurd h Bool.false_ne_true, fun _ => rfl⟩
    obtain ⟨c', hexec, hstop, hready⟩ := hexec
    refine ⟨d.setCircuit i c', hexec, ?_, fun j hj => ?_, hd.trans rfl, ?_, fun h => ?_, fun h => ?_⟩
    · exact State.dropRef_take_self hq ht
    · rw [State.setCircuit_circuit_ne (h := hj), State.dropRef_circuit]
    · refine (State.dropRef_stories hq ht).trans ?_
      unfold Take.releasedFrom
      cases t.story with
      | none => exact ite_self _
      | some k => rfl
    · rw [State.setCircuit_circuit_self, hstop h]
      refine ((Circuit.endedBy_stopNow (c := c.takeEnded f.ctx.slots) hp).1 hm).trans ?_
      simp only [ended, hn, hb, hab]
      rfl
    · rw [State.setCircuit_circuit_self, hready h, Circuit.idleAtEnd_relatch (by exact hp)]
      refine congrArg (fun v : Slot => { ended with
        state := .ready, slot := v, pacer := { running := true, period := form.period, charLen := form.stop.charLen } }) ?_
      change c.active.idleMode.slot = _
      cases c.active.idleMode <;> rfl
  · intro s i f t v e rest hr hs hw hlow c hp hstate hn hb hf ht hx hph hsp hqueue hv hown hlive form released
    have hq : s.Quiet := ⟨hw, hlow⟩
    let d : State := s.dropRef f.entry.handle
    have hd : s.CopyOnly d := State.dropRef_copyOnly hq _
    have hend : s.characterEnd i = ((s.takeEnd i f).headSelect i false false).sendOrIdle i := by
      rw [State.characterEnd_sending hstate hf, State.sendingEnd_takeEnd hn hb ht (choose_trailerDone hx hph), hsp]
      rfl
    obtain ⟨w, hw, hwv⟩ := State.dropRef_leaves hq ht hv hown
    have hready : w.readyTime = v.readyTime := by rw [hwv]
    have hstory : w.story = v.story := by rw [hwv]
    have hheader : e.header form w = e.header form v := by
      rw [hwv]
      rfl
    have hu : s.takeEnd i f = d.setCircuit i (c.takeEnded f.ctx.slots) := State.takeEnd_eq hq i f
    have hms : (s.takeEnd i f).ms = s.ms := by
      rw [hu]
      exact (congrArg State.ms hd.eq :)
    have hliveNow : (s.takeEnd i f).staleHead i e = false := by
      refine State.staleHead_live (t := w) (by rw [hu]; exact hw) ?_
      rw [State.takeEnd_circuit hq, hready, hms]
      exact hlive
    have hstories : d.stories = released := by
      refine (State.dropRef_stories hq ht).trans ?_
      unfold Take.releasedFrom
      simp only [released]
      cases t.story with
      | none => exact ite_self _
      | some k => rfl
    refine ⟨_, e.begun form w false, exec_takeEnd_next hr hs hq hp hend hqueue hw hliveNow, ?_, rfl, rfl,
      e.begun_column form w false, rfl, rfl, rfl, rfl, rfl, rfl, rfl, ?_, State.dropRef_take_self hq ht,
      State.CopyOnly.replaced hd (s.dropRef_circuits _) i _ _, ?_⟩
    · rw [State.setCircuit_circuit_self, ← show c.state = .sending from hstate]
      rfl
    · exact congrArg (fun items => Phase.header items.tail) hheader
    · rw [← hstories, ← hstory]
      rfl

end Sys2Proof.Machine
end


-- ==== sitting 4: SENDING ended under orders, and READY heads (R74, R119, R128, R131, R138, R140) ====
section
/-! A take that ends or is abandoned under STOP NOW, a receiver break or a copy restart; and the head of a READY circuit. -/

namespace Sys2Proof.Machine

open Sys2Proof

section
variable {s : State} {i : CircuitId} {f : Flight}

theorem State.settleTake_done (h : f.ctx.trailerDone = true) : s.settleTake i f = s.takeEnd i f := if_pos h

theorem State.settleTake_cut (h : f.ctx.trailerDone = false) (hc : f.ctx.cut = true) :
    s.settleTake i f = s.endFlight i f := by
  rw [State.settleTake, if_neg (by simp [h]), if_pos hc]

/-- A circuit whose take is settled under an order: counted as sent where its trailer is complete, and its slots counted
(R112, R119, R128). -/
def Circuit.settled (c : Circuit) (f : Flight) : Circuit :=
  if f.ctx.trailerDone then c.takeEnded f.ctx.slots
  else ({ c with flight := none } : Circuit).count .slotsSent f.ctx.slots

theorem State.settleTake_eq (hq : s.Quiet) (h : f.ctx.trailerDone = true ∨ f.ctx.cut = true) : s.settleTake i f =
    (s.dropRef f.entry.handle).setCircuit i ((s.circuit i).settled f) := by
  unfold Circuit.settled
  cases hd : f.ctx.trailerDone with
  | true =>
    rw [State.settleTake_done hd, State.takeEnd_eq hq]
    rfl
  | false =>
    rw [State.settleTake_cut hd (h.resolve_left (by simp [hd])), State.endFlight_eq hq]
    rfl

/-- STOP NOW or a receiver break at the end of a SENDING circuit's character, its take ended (R119, R128, R138). -/
theorem exec_settleTake (hr : s.resetHeld = false) (hs : s.settled) (hq : s.Quiet)
    (hp : (s.circuit i).pacer.running = true) (hend : s.characterEnd i = s.sendingEnd i f)
    (horder : (s.circuit i).stopNow = true ∨ (s.circuit i).breakSeen = true)
    (h : f.ctx.trailerDone = true ∨ f.ctx.cut = true) :
    exec (.characterTimeEnd i) s = .next ((s.dropRef f.entry.handle).setCircuit i
      (((s.circuit i).settled f).endedBy (s.circuit i).stopNow)) := by
  refine exec_characterTimeEnd_circuit hr ((State.dropRef_copyOnly hq _).settled hs) hp ?_ rfl
  rw [hend]
  cases hn : (s.circuit i).stopNow with
  | true =>
    rw [State.sendingEnd_stopNow hn, State.settleTake_eq hq h, State.modCircuit, State.setCircuit_circuit_self,
      State.setCircuit_setCircuit]
    rfl
  | false =>
    rw [State.sendingEnd_break hn (horder.resolve_left (by simp [hn])), State.settleTake_eq hq h, State.modCircuit,
      State.setCircuit_circuit_self, State.setCircuit_setCircuit]
    rfl

theorem State.characterEnd_abandoned (hs : (s.circuit i).state = .sending) (hf : (s.circuit i).flight = none) :
    s.characterEnd i = s.setCircuit i (s.circuit i).endAbandoned := by
  simp only [State.characterEnd, hs, hf]
  rfl

end

theorem Circuit.endAbandoned_ordered {c : Circuit} (h : c.stopNow = true ∨ c.breakSeen = true) :
    c.endAbandoned.relatchPacer = c.endedBy c.stopNow := by
  unfold endAbandoned endedBy
  cases hn : c.stopNow with
  | true => rfl
  | false =>
    rw [h.resolve_left (by simp [hn])]
    rfl

/-- A pacer that runs under a form (R144). -/
def Form.going (f : Form) : Pacer := { running := true, period := f.period, charLen := f.stop.charLen }

theorem Circuit.endAbandoned_ready {c : Circuit} (hp : c.pacer.running = true) (hn : c.stopNow = false)
    (hb : c.breakSeen = false) : c.endAbandoned.relatchPacer =
      { c.applyStaged with
        state := .ready, abandoned := false, slot := c.active.idleMode.slot, pacer := c.applyStaged.active.form.going } := by
  rw [endAbandoned, hn, hb]
  exact Circuit.idleAtEnd_relatch (c := { c.applyStaged with state := .ready, abandoned := false }) hp

/-- Settles O43, by the order and by what becomes of the take. -/
theorem sendingEndsUnderOrders : Obligations.SendingEndsUnderOrders := by
  unfold Obligations.SendingEndsUnderOrders
  intro s i hr hs hw hlow c hp hstate form still going applied cleared out
  have hq : s.Quiet := ⟨hw, hlow⟩
  have hout (x : Circuit) (hx : x.pacer = c.pacer)
      (he : ({ x.applyStaged with
        flight := none, stopNow := false, breakSeen := false, abandoned := false, requestStep := 0, window := none
        buffer := [], receiving := none, spacing := none } : Circuit) = { cleared with counters := x.counters }) :
      x.endedBy c.stopNow = out { cleared with counters := x.counters } := by
    have hmode : x.active.stopMode = c.active.stopMode := congrArg (·.active.stopMode) he
    have hform : x.active.form.withStaged x.staged = form := congrArg (·.active.form) he
    cases hn : c.stopNow with
    | true =>
      obtain ⟨hmark, hspace, hfill⟩ := Circuit.endedBy_stopNow (c := x) (by rw [hx]; exact hp)
      simp only [out, hn, if_true]
      cases hm : c.active.stopMode with
      | mark =>
        rw [hmark (hmode.trans hm), hx]
        exact congrArg (fun y : Circuit => { y with state := .stopped, marking := none, slot := .mark, pacer := still }) he
      | space =>
        rw [hspace (hmode.trans hm), hx]
        exact congrArg (fun y : Circuit => { y with state := .stopped, marking := none, slot := .space, pacer := still }) he
      | fill =>
        have hpacer : (x.active.form.withStaged x.staged).going = going := by
          rw [hform]
          rfl
        rw [hfill (hmode.trans hm)]
        refine (congrArg (fun y : Circuit => { y with
          state := .stopped, marking := none, slot := .char .ltrs
          pacer := (x.active.form.withStaged x.staged).going }) he).trans ?_
        exact congrArg (fun p : Pacer => ({ cleared with
          counters := x.counters, state := .stopped, marking := none, slot := .char .ltrs, pacer := p } : Circuit)) hpacer
    | false =>
      simp only [out, hn, Bool.false_eq_true, if_false]
      rw [Circuit.endedBy_break]
      exact congrArg (fun y : Circuit => { y with
        state := .broken, marking := if y.returnMark then some 0 else none, slot := .mark
        pacer := { y.pacer with running := false } }) he
  refine ⟨fun f t hf ht horder hdone => ?_, fun hf horder => ?_, fun hf hn hb => ?_⟩
  · have hd : s.CopyOnly (s.dropRef f.entry.handle) := State.dropRef_copyOnly hq _
    refine ⟨_, exec_settleTake hr hs hq hp (State.characterEnd_sending hstate hf) horder hdone,
      State.dropRef_take_self hq ht, fun j hj => ?_, hd.trans rfl, ?_⟩
    · rw [State.setCircuit_circuit_ne (h := hj), State.dropRef_circuit]
    · rw [State.setCircuit_circuit_self]
      unfold Circuit.settled
      cases hdone' : f.ctx.trailerDone with
      | true => exact hout (c.takeEnded f.ctx.slots) rfl rfl
      | false => exact hout (({ c with flight := none } : Circuit).count .slotsSent f.ctx.slots) rfl rfl
  · rw [exec_characterTimeEnd_circuit hr hs hp (State.characterEnd_abandoned hstate hf) (Circuit.endAbandoned_ordered horder)]
    exact congrArg (fun x => Host.Outcome.next (s.setCircuit i x)) (hout c rfl rfl)
  · rw [exec_characterTimeEnd_circuit hr hs hp (State.characterEnd_abandoned hstate hf)
      (Circuit.endAbandoned_ready (c := c) hp hn hb)]
    refine congrArg (fun v : Slot => Host.Outcome.next (s.setCircuit i
      { applied with state := .ready, abandoned := false, pacer := going, slot := v })) ?_
    cases c.active.idleMode <;> rfl

/-! ### READY heads (R74, R106, R107, R131) -/

section
variable {s : State} {i : CircuitId} {e : Entry} {t : Take}

theorem State.removeAt_head {rest : List Entry} (hq : s.Quiet) (hqueue : (s.circuit i).queue = e :: rest) :
    s.removeAt i 0 = (s.dropRef e.handle).setCircuit i
      { s.circuit i with queue := rest, backlog := (s.circuit i).backlog - e.estimate } := by
  unfold State.removeAt
  simp only [hqueue, List.getElem?_cons_zero]
  rw [State.modCircuit, State.dropRef_setCircuit hq]
  simp only [hqueue, List.eraseIdx_cons_zero]

/-- A lone stale head removed and counted (R74). -/
theorem State.headSelect_stale (hq : s.Quiet) (hqueue : (s.circuit i).queue = [e]) (h : s.staleHead i e = true)
    (lead stopPending : Bool) : s.headSelect i lead stopPending = (s.dropRef e.handle).setCircuit i
      (({ s.circuit i with queue := [], backlog := (s.circuit i).backlog - e.estimate } : Circuit).count .stale 1) := by
  have hdropped : dropStale 1 s i = (s.dropRef e.handle).setCircuit i
      (({ s.circuit i with queue := [], backlog := (s.circuit i).backlog - e.estimate } : Circuit).count .stale 1) := by
    simp only [dropStale, hqueue, h, if_true]
    rw [State.removeAt_head hq hqueue, State.countCircuit, State.modCircuit, State.setCircuit_circuit_self,
      State.setCircuit_setCircuit]
  unfold State.headSelect
  rw [hqueue, List.length_singleton, hdropped]
  unfold State.intoFlight
  simp only [State.setCircuit_circuit_self]
  rfl

end

theorem digitByte_of_lt {n : Nat} (h : n < 10) : digitByte n = BitVec.ofNat 8 (0x30 + n) := by
  rw [digitByte, Nat.mod_eq_of_lt h]

theorem decimal_of_lt {n : Nat} (h : n < 100) : decimal n =
    if n < 10 then [BitVec.ofNat 8 (0x30 + n)] else [BitVec.ofNat 8 (0x30 + n / 10), BitVec.ofNat 8 (0x30 + n % 10)] := by
  unfold decimal
  split
  · next hlt => rw [digitByte_of_lt hlt]
  · rw [digitByte_of_lt (by omega), digitByte]

theorem decimal_isEmpty (n : Nat) : (decimal n).isEmpty = false := by
  unfold decimal
  split <;> rfl

/-- The words of a header line none of which is empty stand as they are (R106). -/
theorem headerLine_filtered {ws vs : List (List Byte)} (h : ws.filter (fun w => !w.isEmpty) = vs) :
    headerLine ws = (vs.map HeaderItem.word).intersperse .space ++ [.close] := by
  rw [headerLine, h]

/-- A character of the word alphabet prints: one column, and no shift of its own (R88, R97). -/
theorem unitOf_columns (b : Byte) : (unitOf b).columns = 1 := by
  unfold unitOf
  split <;> rfl

theorem unitOf_caseAfter (b : Byte) (unshift : Bool) (k : ShiftCase) : (unitOf b).caseAfter unshift k = k := by
  unfold unitOf
  split <;> rfl

theorem Context.emit_unitOf (x : Context) (fm : Form) (b : Byte) :
    x.emit fm (unitOf b) = { x with slots := x.slots + 1, column := x.column + 1 } := by
  unfold Context.emit
  rw [unitOf_columns, unitOf_caseAfter]

theorem choose_header {fm : Form} {tbl : Vector SubstEntry 32} {t : Take} {x : Context} {items : List HeaderItem}
    (hx : x.sequence = []) (hk : x.lineEnd = none) (hp : x.phase = .header items) :
    choose fm tbl t x = headerNext fm tbl t x items := by
  rw [choose_of_phase hx hk, hp]

theorem headerNext_items {fm : Form} {tbl : Vector SubstEntry 32} {t : Take} {x : Context} {items : List HeaderItem}
    (h : x.lead = false) : headerNext fm tbl t x items = headerItems fm tbl t x items := if_neg (by simp [h])

/-- Settles O40: a head taken into flight or found stale, the header lines, and the Packer on each item. -/
theorem readyHeadSelection : Obligations.ReadyHeadSelection := by
  unfold Obligations.ReadyHeadSelection
  refine ⟨?_, ?_, ?_, ?_⟩
  · intro s i e rest t hr hs c hp hstate hqueue ht hlive
    have hend := State.characterEnd_ready hstate hqueue
    refine ⟨_, e.begun c.active.form t false, exec_nextHead hr hp hend hs hp hqueue ht (State.staleHead_live ht hlive), ?_,
      rfl, rfl, e.begun_column _ t false, rfl, rfl, rfl, rfl, rfl, rfl, rfl, rfl, rfl, rfl, e.begun_shift _ t false, rfl,
      ?_, ?_⟩
    · rw [State.setCircuit_circuit_self]
      rfl
    · rw [State.setCircuit_circuit_self]
      rfl
    · rfl
  · intro s i e t hr hs hw hlow c hp hstate hf hqueue ht hresume hlimit hstale
    have hq : s.Quiet := ⟨hw, hlow⟩
    have hend := State.characterEnd_ready hstate hqueue
    let d : State := s.dropRef e.handle
    have hd : s.CopyOnly d := State.dropRef_copyOnly hq _
    let x : Circuit := ({ c with queue := [], backlog := c.backlog - e.estimate } : Circuit).count .stale 1
    have hidle : s.characterEnd i = d.setCircuit i ({ x with state := .ready } : Circuit).idleAtEnd := by
      have hx : (d.setCircuit i x).circuit i = x := State.setCircuit_circuit_self ..
      rw [hend, State.headSelect_stale hq hqueue (State.staleHead_stale ht hresume hlimit hstale),
        State.sendOrIdle_idle (s := d.setCircuit i x) (by rw [hx]; exact hf), hx, State.setCircuit_setCircuit]
    have hexec := exec_characterTimeEnd_circuit hr (hd.settled hs) hp hidle
      (Circuit.idleAtEnd_relatch (c := { x with state := .ready }) hp)
    refine ⟨_, hexec, ?_, State.dropRef_take_self hq ht, State.CopyOnly.replaced hd (s.dropRef_circuits _) i _ d.stories⟩
    rw [State.setCircuit_circuit_self, ← show c.state = .ready from hstate]
    refine congrArg (fun v : Slot => ({ x with slot := v, pacer := c.active.form.going } : Circuit)) ?_
    change c.active.idleMode.slot = _
    cases c.active.idleMode <;> rfl
  · intro fm p t htag hslug hpart digit part classWord takeWord line
    have hdecimal : decimal t.part = part := decimal_of_lt hpart
    have hnum : (part.isEmpty : Bool) = false := hdecimal ▸ decimal_isEmpty t.part
    have hnonempty (w : List Byte) (hw : w ≠ []) : w.isEmpty = false := by simpa using hw
    refine ⟨?_, ?_⟩
    · have hwords : [priorityWord p, dispositionWord t.disp, t.tag, t.slug, part].filter (fun w => !w.isEmpty) =
          classWord ++ takeWord ++ [t.tag, t.slug, part] := by
        simp only [classWord, takeWord]
        cases p <;> cases t.disp <;>
          simp [priorityWord, dispositionWord, hnonempty _ htag, hnonempty _ hslug, hnum]
      rw [takeHeader, hdecimal, headerLine_filtered hwords, bellItems]
      simp [line]
    · have hwords : [resumeWord, t.tag, t.slug, part].filter (fun w => !w.isEmpty) = [resumeWord, t.tag, t.slug, part] := by
        simp [resumeWord, hnonempty _ htag, hnonempty _ hslug, hnum]
      rw [resumeHeader, hdecimal, headerLine_filtered hwords]
      rfl
  · intro fm tbl t x rest hx hk after
    refine ⟨fun hlead hp => ?_, fun hlead => ⟨fun f hf hp => ?_, fun b bs hp => ⟨fun hcol hwide => ?_, fun hfits => ⟨fun hn => ?_,
      fun k hn hne => ?_⟩⟩, fun hp => ⟨fun hlt => ?_, fun hle => ?_⟩, fun hp => ?_⟩⟩
    · rw [choose_header hx hk hp, headerNext, if_pos hlead]
      rfl
    · rw [choose_header hx hk hp, headerNext_items hlead]
      simp only [List.mem_cons, List.not_mem_nil, or_false] at hf
      rcases hf with rfl | rfl | rfl <;> rfl
    · rw [choose_header hx hk hp, headerNext_items hlead, headerItems, if_pos ⟨hcol, hwide⟩, ← hp]
    · have hstays : ¬(0 < x.column ∧ fm.width < x.column + (b :: bs).length) := by omega
      rw [choose_header hx hk hp, headerNext_items hlead, headerItems, if_neg hstays]
      refine (Context.want_fits (by exact .inr hn) ..).trans ?_
      rw [Context.emit_unitOf]
      cases bs <;> rfl
    · have hstays : ¬(0 < x.column ∧ fm.width < x.column + (b :: bs).length) := by omega
      rw [choose_header hx hk hp, headerNext_items hlead, headerItems, if_neg hstays, ← hp]
      exact Context.want_shift (x := x) hn hne ..
    · rw [choose_header hx hk hp, headerNext_items hlead, headerItems, if_pos hlt]
      rfl
    · rw [choose_header hx hk hp, headerNext_items hlead, headerItems, if_neg (Nat.not_lt.2 hle)]
    · rw [choose_header hx hk hp, headerNext_items hlead, headerItems]

end Sys2Proof.Machine
end


-- ==== sitting 4: break-in (R105, R108, R135, R136) ====
section
/-! An insertion offered for break-in, and the exchange of the takes at the end of a text line. -/

namespace Sys2Proof.Machine

open Sys2Proof

theorem BreakInLevel.admits_iff (b : BreakInLevel) (p : Priority) : b.admits p = true ↔
    b = .flash ∧ p = .flash ∨ b = .flashBulletin ∧ (p = .flash ∨ p = .bulletin) := by
  cases b <;> cases p <;> decide

/-- A break-in that is pending ends the context at a complete text line end (R105, R136). -/
theorem choose_breakIn {fm : Form} {tbl : Vector SubstEntry 32} {t : Take} {x : Context} {k : LineEnd}
    (hx : x.sequence = []) (hk : x.lineEnd = some k) (hp : x.phase = .text) (hb : x.breakIn = true) (hc : x.cut = false)
    (hl : x.read.pos < t.length) : choose fm tbl t x = .breakIn := by
  rw [choose_of_lineEnd hx hk]
  simp only [lineEndDone, hp, hb, hc, Nat.not_le.2 hl, if_true, if_false, Bool.false_eq_true]

theorem placeResumed_behind {e f : Entry} (h : e.prio.num < f.prio.num) (rest : List Entry) :
    placeResumed (e :: rest) f = e :: placeResumed rest f := by
  simp [placeResumed, h]

section
variable {s : State} {i : CircuitId} {f : Flight} {t : Take}

theorem State.sendingEnd_breakIn (hn : (s.circuit i).stopNow = false) (hb : (s.circuit i).breakSeen = false)
    (ht : s.take? f.entry.handle = some t) (hc : choose (s.circuit i).active.form s.subst t f.ctx = .breakIn) :
    s.sendingEnd i f = (((s.returnTake i f f.ctx.read).countCircuit i .breakIns 1).headSelect i true
      f.ctx.stopPending).sendOrIdle i := by
  simp only [State.sendingEnd, hn, hb, State.chosen, ht, hc, Bool.false_eq_true, if_false]

/-- A break-in already pending is not changed by another one. -/
theorem State.setCircuit_breakIn (hf : (s.circuit i).flight = some f) (hb : f.ctx.breakIn = true) :
    s.setCircuit i { s.circuit i with flight := some { f with ctx := { f.ctx with breakIn := true } } } = s := by
  rw [← hb, ← hf]
  exact s.setCircuit_self i

end

/-- Settles O44: the offer, and the exchange. -/
theorem breakInTakesLine : Obligations.BreakInTakesLine := by
  unfold Obligations.BreakInTakesLine
  refine ⟨?_, ?_⟩
  · intro s i p f t hf ht
    unfold State.offerBreakIn
    simp only [hf, ht, BreakInLevel.admits_iff]
    cases hb : f.ctx.breakIn with
    | true =>
      rw [State.setCircuit_breakIn hf hb, ite_self]
      exact if_neg fun h => Bool.true_eq_false.mp h.2.2.2.2.1
    | false =>
      simp only [true_and, State.modCircuit]
  · intro s i f t v e rest k hr hs c hp hstate hn hb hf ht hx hk hph hbreak hcut hleft hqueue hord hprio hv hresume hlimit est
    let fm : Form := c.active.form
    let x : Context := ({ freshContext fm e v true f.ctx.stopPending with lead := false } : Context).emit fm .lf
    let c2 : Circuit := ((({ c with
      flight := none, queue := placeResumed c.queue { f.entry with resume := some f.ctx.read, estimate := est }
      backlog := c.backlog + est } : Circuit).count .slotsSent f.ctx.slots).count .breakIns 1)
    let u : State := s.setCircuit i c2
    have hu : (s.returnTake i f f.ctx.read).countCircuit i .breakIns 1 = u := by
      rw [State.returnTake_eq ht, State.countCircuit, State.modCircuit, State.setCircuit_circuit_self,
        State.setCircuit_setCircuit]
    have hcircuit : u.circuit i = c2 := State.setCircuit_circuit_self ..
    have hhead : (u.circuit i).queue =
        e :: placeResumed rest { f.entry with resume := some f.ctx.read, estimate := est } := by
      rw [hcircuit]
      exact (congrArg (placeResumed · _) hqueue).trans (placeResumed_behind (by exact hprio) rest)
    have hlive : u.staleHead i e = false :=
      State.staleHead_live (t := v) hv (.inr (.inl (by rw [hcircuit]; exact hlimit)))
    have hend : s.characterEnd i = (u.headSelect i true f.ctx.stopPending).sendOrIdle i := by
      rw [State.characterEnd_sending hstate hf,
        State.sendingEnd_breakIn hn hb ht (choose_breakIn hx hk hph hbreak hcut hleft), hu]
    have hchoose : choose (u.circuit i).active.form u.subst v
        (freshContext (u.circuit i).active.form e v true f.ctx.stopPending) = .char .lf x 0 false := by
      rw [hcircuit]
      exact choose_freshLead ..
    refine ⟨x, ?_, rfl, rfl, rfl, rfl, rfl, rfl, rfl, rfl, ?_⟩
    · refine (exec_characterTimeEnd_circuit hr (by exact hs) hp (hend.trans (State.sendHead hhead hv hlive hchoose))
        (Circuit.relatchPacer_running (by rw [hcircuit]; exact hp))).trans (congrArg Host.Outcome.next ?_)
      rw [hcircuit]
      refine (State.setCircuit_setCircuit s i c2 _).trans (congrArg (s.setCircuit i) ?_)
      rw [← show c.state = .sending from hstate]
      rfl
    · have hphase : x.phase = .header (e.header fm v) := rfl
      rw [hphase, Entry.header, hresume]
      rfl

end Sys2Proof.Machine
end


-- ==== sitting 4: what the Packer emits of a trailer (R96, R103, R109 to R111) ====
section
/-! A run of the Packer cut into pieces: each piece is emitted from one context and leads to another. The trailer is put
together from its pieces: line ends, the characters of tag and clock, the marks due. -/

namespace Sys2Proof.Machine

open Sys2Proof

section
variable {fm : Form} {tbl : Vector SubstEntry 32} {t : Take}

/-! ### Pieces of a run -/

/-- From the first context the Packer emits these characters and then goes on as from the second. -/
def Emits (fm : Form) (tbl : Vector SubstEntry 32) (t : Take) (x : Context) (l : List FiveUnit) (y : Context) : Prop :=
  ∀ n, emitted fm tbl t (l.length + n) x = l ++ emitted fm tbl t n y

namespace Emits

variable {x y z : Context} {l l' : List FiveUnit}

theorem nil (x : Context) : Emits fm tbl t x [] x := fun n => congrArg (emitted fm tbl t · x) (Nat.zero_add n)

theorem char {f : FiveUnit} {u : Nat} {start : Bool} (h : choose fm tbl t x = .char f y u start) :
    Emits fm tbl t x [f] y := fun n => by
  rw [List.length_singleton, Nat.add_comm, emitted_of_char n h]
  rfl

theorem trans (h : Emits fm tbl t x l y) (h' : Emits fm tbl t y l' z) : Emits fm tbl t x (l ++ l') z := fun n => by
  rw [List.length_append, Nat.add_assoc, h, h', List.append_assoc]

/-- A run that reaches the take's end within the slots allowed. -/
theorem emitted_eq (h : Emits fm tbl t x l y) (hend : choose fm tbl t y = .takeEnd) {n : Nat} (hn : l.length ≤ n) :
    emitted fm tbl t n x = l := by
  have hrun := h (n - l.length)
  rwa [Nat.add_sub_cancel' hn, emitted_of_takeEnd _ hend, List.append_nil] at hrun

end Emits

theorem emitted_congr {x y : Context} (h : choose fm tbl t x = choose fm tbl t y) (n : Nat) :
    emitted fm tbl t n x = emitted fm tbl t n y := by
  cases n with
  | zero => rfl
  | succ n =>
    unfold emitted
    rw [h]

/-! ### Line ends -/

/-- A line end that is no paragraph's (R103). -/
def Form.lineEnd (fm : Form) : List FiveUnit :=
  List.replicate fm.nCR .cr ++ List.replicate fm.nLF .lf ++ (if fm.reassert then [.ltrs] else [])

theorem Form.lineEnd_eq (fm : Form) (h : 1 ≤ fm.nCR) : .cr :: lineEndRest fm .trailer = fm.lineEnd := by
  rw [cr_lineEndRest fm .trailer h]
  simp [Form.lineEnd]

theorem Form.lineEnd_length {fm : Form} (h : fm.inRange) : fm.lineEnd.length ≤ 5 := by
  obtain ⟨-, -, ⟨-, hcr⟩, ⟨-, hlf⟩, -⟩ := h
  have hltrs : (if fm.reassert then [FiveUnit.ltrs] else []).length ≤ 1 := by split <;> simp
  simp only [Form.lineEnd, List.length_append, List.length_replicate]
  omega

/-- A context in its trailer at a step, between characters, in an assumed case and with cut-pending set or not. -/
structure Context.InTrailer (x : Context) (step : TrailerStep) (k : ShiftCase) (cut : Bool) : Prop where
  sequence : x.sequence = []
  phase : x.phase = .trailer step
  shift : x.shift = k
  cut : x.cut = cut

/-- The rest of a line end in progress in the trailer. -/
theorem emits_sequence (l : List FiveUnit) {x : Context} {step : TrailerStep} (hx : x.sequence = l)
    (hl : ∀ f ∈ l, f = .cr ∨ f = .lf ∨ f = .ltrs) (hp : x.phase = .trailer step) : ∃ y, Emits fm tbl t x l y ∧
      y.InTrailer step (if .ltrs ∈ l then .letters else x.shift) x.cut := by
  induction l generalizing x with
  | nil => exact ⟨x, Emits.nil x, hx, hp, rfl, rfl⟩
  | cons f rest ih =>
    let next : Context := (({ x with sequence := rest } : Context).emit fm f).markLineStart
    have hnext : next.sequence = rest ∧ next.phase = .trailer step ∧ next.cut = x.cut ∧
        next.shift = f.caseAfter fm.unshift x.shift := by
      simp only [next, Context.markLineStart_eq]
      exact ⟨rfl, hp, rfl, rfl⟩
    obtain ⟨hseq, hphase, hcut, hshift⟩ := hnext
    obtain ⟨y, hy, hin⟩ := ih hseq (fun g hg => hl g (List.mem_cons_of_mem f hg)) hphase
    refine ⟨y, (Emits.char (choose_of_sequence hx)).trans hy, ?_⟩
    rw [hcut, hshift] at hin
    rcases hl f List.mem_cons_self with rfl | rfl | rfl <;> simpa [FiveUnit.caseAfter] using hin

/-- A whole line end of the trailer (R110). -/
theorem emits_trailerLineEnd {x w : Context} {step : TrailerStep} (hcr : 1 ≤ fm.nCR)
    (hc : choose fm tbl t x = w.beginLineEnd fm .trailer 0) (hp : w.phase = .trailer step) :
    ∃ y, Emits fm tbl t x fm.lineEnd y ∧ y.InTrailer step (if fm.reassert then .letters else w.shift) w.cut := by
  have hafter : w.afterCR fm .trailer = { w with
      sequence := lineEndRest fm .trailer, lineEnd := some .trailer, column := 0, slots := w.slots + 1 } := by
    rw [Context.afterCR_eq, hp]
    simp
  have hrest : ∀ f ∈ lineEndRest fm .trailer, f = .cr ∨ f = .lf ∨ f = .ltrs := by
    intro f hf
    simp only [lineEndRest, List.mem_append, List.mem_replicate] at hf
    rcases hf with ((⟨-, rfl⟩ | ⟨-, rfl⟩) | hf) | hf
    · exact .inl rfl
    · exact .inr (.inl rfl)
    · split at hf
      · exact .inr (.inr (by simpa using hf))
      · simp at hf
    · simp at hf
  have hltrs : FiveUnit.ltrs ∈ lineEndRest fm .trailer ↔ fm.reassert = true := by
    simp [lineEndRest, List.mem_replicate]
  have hfirst : choose fm tbl t x = .char .cr (w.afterCR fm .trailer) 0 false := hc
  obtain ⟨y, hy, hin⟩ := emits_sequence (fm := fm) (tbl := tbl) (t := t) _ (x := w.afterCR fm .trailer)
    (by rw [hafter]) hrest (by rw [hafter]; exact hp)
  refine ⟨y, ?_, ?_⟩
  · rw [← Form.lineEnd_eq fm hcr]
    exact (Emits.char hfirst).trans hy
  · simpa only [hafter, hltrs] using hin

/-! ### Tag, clock and marks (R110, R111) -/

variable {x : Context} {k : ShiftCase} {cut : Bool}

theorem choose_trailer {step : TrailerStep} (hx : x.sequence = []) (hp : x.phase = .trailer step) :
    choose fm tbl t x = trailerNext fm t { x with lineEnd := none } step 0 := by
  cases hk : x.lineEnd with
  | some e =>
    rw [choose_of_lineEnd hx hk]
    simp only [lineEndDone, hp]
  | none =>
    have hsame : ({ x with lineEnd := none } : Context) = x := by rw [← hk]
    rw [choose_of_phase hx hk, hsame, hp]

/-- The character of a trailer byte (R110). -/
def trailerUnit (b : Byte) : FiveUnit := if b = byteSpace then .space else unitOf b

theorem choose_body {b : Byte} {bs : List Byte} (h : x.InTrailer (.body (b :: bs)) k cut) : choose fm tbl t x =
    ({ x with lineEnd := none, phase := .trailer (.body (b :: bs)) } : Context).want fm (trailerUnit b)
      (fun y => { y with phase := .trailer (.body bs) }) 0 := choose_trailer h.sequence h.phase

/-- A byte of the trailer in the assumed case. -/
theorem emits_body {b : Byte} {bs : List Byte} (h : x.InTrailer (.body (b :: bs)) k cut)
    (hn : (trailerUnit b).needs = none ∨ (trailerUnit b).needs = some k) :
    ∃ y, Emits fm tbl t x [trailerUnit b] y ∧
      y.InTrailer (.body bs) ((trailerUnit b).caseAfter fm.unshift k) cut := by
  refine ⟨_, Emits.char ((choose_body h).trans (Context.want_fits (by rw [← h.shift] at hn; exact hn) ..)),
    h.sequence, rfl, ?_, h.cut⟩
  rw [← h.shift]
  rfl

/-- The shift that a byte of the trailer needs. -/
theorem emits_bodyShift {b : Byte} {bs : List Byte} {k' : ShiftCase} (h : x.InTrailer (.body (b :: bs)) k cut)
    (hn : (trailerUnit b).needs = some k') (hk : k' ≠ k) :
    ∃ y, Emits fm tbl t x [k'.shift] y ∧ y.InTrailer (.body (b :: bs)) k' cut :=
  ⟨_, Emits.char ((choose_body h).trans (Context.want_shift hn (by rw [← h.shift] at hk; exact hk) ..)),
    h.sequence, rfl, rfl, h.cut⟩

/-- The last line ends of a trailer (R110, step 4), and the take's end (R96). -/
theorem emits_close (hcr : 1 ≤ fm.nCR) {w : Context} (hc : choose fm tbl t x = trailerClose fm w 0) :
    ∃ y, Emits fm tbl t x (fm.lineEnd ++ fm.lineEnd) y ∧ choose fm tbl t y = .takeEnd := by
  obtain ⟨y, hy, hin⟩ := emits_trailerLineEnd hcr hc rfl
  obtain ⟨z, hz, hend⟩ := emits_trailerLineEnd hcr (choose_trailer (fm := fm) (tbl := tbl) (t := t) hin.sequence hin.phase) rfl
  exact ⟨z, hy.trans hz, choose_trailer hend.sequence hend.phase⟩

/-- The mark of a trailer where it is due. -/
def markDue (due : Bool) (mark : Byte) : List FiveUnit := if due then [.figure mark] else []

/-- A mark that is due, in the figures case, goes without a shift. -/
theorem emits_mark {w : Context} {mark : Byte} {step : TrailerStep} (hw : w.shift = .figures) (hs : w.sequence = [])
    (hc : choose fm tbl t x = w.want fm (.figure mark) (fun y => { y with phase := .trailer step }) 0) :
    ∃ y, Emits fm tbl t x [.figure mark] y ∧ y.InTrailer step .figures w.cut :=
  ⟨_, Emits.char (hc.trans (Context.want_fits (.inr (by rw [hw]; rfl)) ..)), hs, rfl, hw, rfl⟩

theorem emits_cutMark {w : Context} (hcr : 1 ≤ fm.nCR) (hw : w.shift = .figures) (hs : w.sequence = [])
    (hc : choose fm tbl t x = trailerCutMark fm w 0) :
    ∃ y, Emits fm tbl t x (markDue w.cut 0x2F ++ (fm.lineEnd ++ fm.lineEnd)) y ∧ choose fm tbl t y = .takeEnd := by
  unfold trailerCutMark markDue at *
  cases hcut : w.cut with
  | true =>
    rw [hcut] at hc
    obtain ⟨y, hy, hin⟩ := emits_mark (by exact hw) (by exact hs) hc
    obtain ⟨z, hz, hend⟩ := emits_close hcr (choose_trailer (fm := fm) (tbl := tbl) (t := t) hin.sequence hin.phase)
    exact ⟨z, hy.trans hz, hend⟩
  | false =>
    rw [hcut] at hc
    exact emits_close hcr hc

theorem emits_truncatedMark {w : Context} (hcr : 1 ≤ fm.nCR) (hw : w.shift = .figures) (hs : w.sequence = [])
    (hc : choose fm tbl t x = trailerTruncatedMark fm t w 0) :
    ∃ y, Emits fm tbl t x (markDue t.truncated 0x2B ++ (markDue w.cut 0x2F ++ (fm.lineEnd ++ fm.lineEnd))) y ∧
      choose fm tbl t y = .takeEnd := by
  unfold trailerTruncatedMark at hc
  cases hmark : t.truncated with
  | true =>
    rw [hmark] at hc
    obtain ⟨y, hy, hin⟩ := emits_mark (by exact hw) (by exact hs) hc
    obtain ⟨z, hz, hend⟩ := emits_cutMark hcr (by exact hin.shift) (by exact hin.sequence)
      (choose_trailer (fm := fm) (tbl := tbl) (t := t) hin.sequence hin.phase)
    refine ⟨z, hy.trans ?_, hend⟩
    have hcut := hin.cut
    rwa [← hcut]
  | false =>
    rw [hmark] at hc
    exact emits_cutMark hcr hw hs hc

theorem emits_suspectMark {w : Context} (hcr : 1 ≤ fm.nCR) (hw : w.shift = .figures) (hs : w.sequence = [])
    (hc : choose fm tbl t x = trailerSuspectMark fm t w 0) :
    ∃ y, Emits fm tbl t x (markDue t.suspect 0x3F ++ (markDue t.truncated 0x2B ++ (markDue w.cut 0x2F ++
      (fm.lineEnd ++ fm.lineEnd)))) y ∧ choose fm tbl t y = .takeEnd := by
  unfold trailerSuspectMark at hc
  cases hmark : t.suspect with
  | true =>
    rw [hmark] at hc
    obtain ⟨y, hy, hin⟩ := emits_mark (by exact hw) (by exact hs) hc
    obtain ⟨z, hz, hend⟩ := emits_truncatedMark hcr (by exact hin.shift) (by exact hin.sequence)
      (choose_trailer (fm := fm) (tbl := tbl) (t := t) hin.sequence hin.phase)
    refine ⟨z, hy.trans ?_, hend⟩
    have hcut := hin.cut
    rwa [← hcut]
  | false =>
    rw [hmark] at hc
    exact emits_truncatedMark hcr hw hs hc

/-! ### The whole trailer -/

theorem Emits.of_choose {y : Context} (h : choose fm tbl t x = choose fm tbl t y) : Emits fm tbl t x [] y := fun n => by
  rw [List.length_nil, Nat.zero_add, emitted_congr h]
  rfl

theorem digitByte_toNat (n : Nat) : (digitByte n).toNat = 0x30 + n % 10 := by
  rw [digitByte, BitVec.toNat_ofNat]
  omega

theorem trailerUnit_digit (n : Nat) : trailerUnit (digitByte n) = .figure (digitByte n) := by
  have hn := digitByte_toNat n
  have hspace : digitByte n ≠ byteSpace := fun h => by
    have hnat : (digitByte n).toNat = 0x20 := congrArg BitVec.toNat h
    omega
  have hletter : isLetter (digitByte n) = false := by
    simp only [isLetter, hn, decide_eq_false_iff_not]
    omega
  rw [trailerUnit, if_neg hspace, unitOf, if_neg (by simp [hletter])]

theorem trailerUnit_letter {b : Byte} (h : isLetter b = true) : trailerUnit b = .letter b := by
  have hspace : b ≠ byteSpace := fun hb => by
    rw [hb] at h
    exact absurd h (by decide)
  rw [trailerUnit, if_neg hspace, unitOf, if_pos h]

theorem emits_digits (ns : List Nat) (h : x.InTrailer (.body (ns.map digitByte)) .figures cut) :
    ∃ y, Emits fm tbl t x (ns.map fun n => .figure (digitByte n)) y ∧ y.InTrailer (.body []) .figures cut := by
  induction ns generalizing x with
  | nil => exact ⟨x, Emits.nil x, h⟩
  | cons n ns ih =>
    obtain ⟨y, hy, hin⟩ := emits_body (fm := fm) (tbl := tbl) (t := t) h (.inr (by rw [trailerUnit_digit]; rfl))
    rw [trailerUnit_digit] at hy hin
    obtain ⟨z, hz, hend⟩ := ih hin
    exact ⟨z, hy.trans hz, hend⟩

/-- The characters of a tag, the first behind the shift it needs. -/
theorem emits_tag {a b : Byte} {bs : List Byte} (ha : isLetter a = true) (hb : isLetter b = true)
    (h : x.InTrailer (.body (a :: b :: byteSpace :: bs)) k cut) :
    ∃ y, Emits fm tbl t x ((if k = .figures then [.ltrs] else []) ++ [.letter a, .letter b, .space]) y ∧
      y.InTrailer (.body bs) .letters cut := by
  have hshifted : ∃ x', Emits fm tbl t x (if k = .figures then [.ltrs] else []) x' ∧
      x'.InTrailer (.body (a :: b :: byteSpace :: bs)) .letters cut := by
    cases k with
    | letters => exact ⟨x, Emits.nil x, h⟩
    | figures => exact emits_bodyShift (k' := .letters) h (by rw [trailerUnit_letter ha]; rfl) (by decide)
  obtain ⟨x', hx', hin⟩ := hshifted
  obtain ⟨y, hy, hin⟩ := emits_body (fm := fm) (tbl := tbl) (t := t) hin (.inr (by rw [trailerUnit_letter ha]; rfl))
  rw [trailerUnit_letter ha] at hy hin
  obtain ⟨z, hz, hin⟩ := emits_body (fm := fm) (tbl := tbl) (t := t) hin (.inr (by rw [trailerUnit_letter hb]; rfl))
  rw [trailerUnit_letter hb] at hz hin
  obtain ⟨w, hw, hin⟩ := emits_body (fm := fm) (tbl := tbl) (t := t) hin (.inl rfl)
  refine ⟨w, hx'.trans (hy.trans (hz.trans hw)), ?_⟩
  have hcase : (trailerUnit byteSpace).caseAfter fm.unshift ((FiveUnit.letter b).caseAfter fm.unshift
      ((FiveUnit.letter a).caseAfter fm.unshift .letters)) = .letters := ite_self (c := fm.unshift = true) _
  rwa [hcase] at hin

/-- The trailer from its opening on (R110). -/
theorem emits_trailer {w : Context} {a b : Byte} {hh mm : Nat} (hcr : 1 ≤ fm.nCR) (hw : w.sequence = [])
    (hk : w.lineEnd = none) (hc : choose fm tbl t x = startTrailer fm t w 0) (htag : t.tag = [a, b]) (ha : isLetter a = true)
    (hb : isLetter b = true) (hclock : t.readyClock = some (hh, mm)) :
    ∃ y, Emits fm tbl t x ((if 0 < w.column then fm.lineEnd else []) ++
      (((if (if 0 < w.column ∧ fm.reassert = true then ShiftCase.letters else w.shift) = .figures then [.ltrs] else []) ++
        [.letter a, .letter b, .space]) ++ ([.figs] ++
          ([hh / 10, hh, mm / 10, mm].map fun n => FiveUnit.figure (digitByte n)) ++ (markDue t.suspect 0x3F ++
            (markDue t.truncated 0x2B ++ (markDue w.cut 0x2F ++ (fm.lineEnd ++ fm.lineEnd))))))) y ∧
      choose fm tbl t y = .takeEnd := by
  have htext : trailerText t = a :: b :: byteSpace :: [hh / 10, hh, mm / 10, mm].map digitByte := by
    simp [trailerText, htag, hclock, twoDigits]
  have hopening : ∃ y, Emits fm tbl t x (if 0 < w.column then fm.lineEnd else []) y ∧
      y.InTrailer (.body (trailerText t)) (if 0 < w.column ∧ fm.reassert = true then ShiftCase.letters else w.shift)
        w.cut := by
    unfold startTrailer trailerNext at hc
    dsimp only at hc
    by_cases hcol : 0 < w.column
    · rw [if_pos hcol] at hc
      obtain ⟨y, hy, hin⟩ := emits_trailerLineEnd hcr hc rfl
      simp only [hcol, true_and, if_true]
      exact ⟨y, hy, hin⟩
    · rw [if_neg hcol] at hc
      simp only [hcol, false_and, if_false]
      let y : Context := { w with phase := .trailer (.body (trailerText t)), word := none, breakIn := false }
      refine ⟨y, Emits.of_choose (hc.trans ?_), hw, rfl, rfl, rfl⟩
      have hy : choose fm tbl t y = trailerBody fm t y (trailerText t) 0 := choose_of_phase (x := y) hw hk
      rw [hy, htext]
      rfl
  obtain ⟨y1, h1, hin1⟩ := hopening
  rw [htext] at hin1
  obtain ⟨y2, h2, hin2⟩ := emits_tag (fm := fm) (tbl := tbl) (t := t) ha hb hin1
  obtain ⟨y3, h3, hin3⟩ := emits_bodyShift (fm := fm) (tbl := tbl) (t := t) (k' := .figures) hin2
    (by rw [trailerUnit_digit]; rfl) (by decide)
  obtain ⟨y4, h4, hin4⟩ := emits_digits (fm := fm) (tbl := tbl) (t := t) [hh / 10, hh, mm / 10, mm] hin3
  obtain ⟨y5, h5, hend⟩ := emits_suspectMark (tbl := tbl) hcr (by exact hin4.shift) (by exact hin4.sequence)
    (choose_trailer (fm := fm) (tbl := tbl) (t := t) hin4.sequence hin4.phase)
  refine ⟨y5, h1.trans (h2.trans ((h3.trans h4).trans ?_)), hend⟩
  rw [← hin4.cut]
  exact h5

end

end Sys2Proof.Machine
end


-- ==== sitting 4: the Packer in text (R98 to R102, R104) ====
section
/-! The text from a read position on as a list of bytes, its first word and what the examination of that word finds; and
with these the Packer's answers in text. -/

namespace Sys2Proof.Machine

open Sys2Proof

/-! ### The bytes of a take from a position on -/

/-- The stored bytes from a position to the end (R34). -/
def Take.bytesFrom (t : Take) (pos : Nat) : List Byte := (List.range (t.length - pos)).map fun j => t.charAt (pos + j)

theorem Take.bytesFrom_end {t : Take} {pos : Nat} (h : t.length ≤ pos) : t.bytesFrom pos = [] := by
  simp [bytesFrom, Nat.sub_eq_zero_of_le h]

theorem Take.bytesFrom_cons {t : Take} {pos : Nat} (h : pos < t.length) :
    t.bytesFrom pos = t.charAt pos :: t.bytesFrom (pos + 1) := by
  have hlen : t.length - pos = t.length - (pos + 1) + 1 := by omega
  simp only [bytesFrom, hlen, List.range_succ_eq_map, List.map_cons, List.map_map, Nat.add_zero, List.cons.injEq, true_and]
  exact List.map_congr_left fun j _ => congrArg t.charAt (by simp only [Nat.succ_eq_add_one]; omega)

theorem endsWord_iff (b : Byte) : endsWord b = true ↔ b = 0x20 ∨ b = 0x0A := decide_eq_true_iff

theorem endsWord_eq (b : Byte) : (b != 0x20 && b != 0x0A) = !endsWord b := by
  have hends := endsWord_iff b
  by_cases h : b = 0x20 <;> by_cases h' : b = 0x0A <;> simp_all

/-- The word at a position: its bytes up to the next space or paragraph mark (R98). -/
def Take.wordAt (t : Take) (pos : Nat) : List Byte := (t.bytesFrom pos).takeWhile fun b => b != 0x20 && b != 0x0A

theorem Take.wordAt_none {t : Take} {pos : Nat} (h : t.length ≤ pos ∨ endsWord (t.charAt pos) = true) :
    t.wordAt pos = [] := by
  unfold wordAt
  rcases Nat.lt_or_ge pos t.length with hlt | hge
  · rw [bytesFrom_cons hlt, List.takeWhile_cons_of_neg (by rw [endsWord_eq, h.resolve_left (by omega)]; decide)]
  · rw [bytesFrom_end hge]
    rfl

theorem Take.wordAt_cons {t : Take} {pos : Nat} (h : pos < t.length) (he : endsWord (t.charAt pos) = false) :
    t.wordAt pos = t.charAt pos :: t.wordAt (pos + 1) := by
  unfold wordAt
  rw [bytesFrom_cons h, List.takeWhile_cons_of_pos (by rw [endsWord_eq, he]; rfl)]

theorem Take.wordAt_length (t : Take) (pos : Nat) : (t.wordAt pos).length ≤ t.length - pos := by
  have hbytes : (t.bytesFrom pos).length = t.length - pos := by simp [bytesFrom]
  rw [← hbytes]
  exact (List.takeWhile_prefix _).length_le

/-! ### The examination of a word (R99) -/

/-- The characters of a list of expansions that are still to be sent, from an offset within the first. -/
def unsent (parts : List (List Byte)) (off : Nat) : List Byte := (parts.headD []).drop off ++ parts.tail.flatten

theorem unsent_cons (e : List Byte) (es : List (List Byte)) (off : Nat) :
    unsent (e :: es) off = e.drop off ++ unsent es 0 := by
  cases es <;> simp [unsent]

theorem unsent_nil (off : Nat) : unsent [] off = [] := by simp [unsent]

theorem unsent_length (w : HeldWord) (off : Nat) : w.remaining off = (unsent w.ahead off).length := by
  obtain ⟨ahead, long, fresh⟩ := w
  cases ahead with
  | nil => simp [unsent_nil]
  | cons e es => simp [unsent, List.length_flatten]

theorem unsent_prefix {ps qs : List (List Byte)} (h : ps <+: qs) (off : Nat) : unsent ps off <+: unsent qs off := by
  obtain ⟨rs, rfl⟩ := h
  cases ps with
  | nil => simp [unsent_nil]
  | cons e es => exact ⟨rs.flatten, by simp [unsent]⟩

variable {tbl : Vector SubstEntry 32} {t : Take}

/-- The expansions of a word (R82, R99). -/
def expansions (tbl : Vector SubstEntry 32) (bs : List Byte) : List (List Byte) := bs.map fun b => (expansion tbl b).1

/-- The unprintable bytes of a word (R82). -/
def missing (tbl : Vector SubstEntry 32) (bs : List Byte) : Nat := (bs.map fun b => (expansion tbl b).2).sum

/-- What the examination of a word finds: whether it is longer than the width; the expansions of all its bytes and the
unprintable ones among them, or, of a long word, those up to the one that passes the width. -/
theorem examineFrom_spec (width : Nat) (n pos off count : Nat) (hn : t.length - pos ≤ n) (hcount : count ≤ width) :
    let r := examineFrom tbl t width n pos off count
    let parts := expansions tbl (t.wordAt pos)
    (r.2.2 = true → width < count + (unsent r.1 off).length ∧ r.1 <+: parts) ∧
      (r.2.2 = false → r.1 = parts ∧ r.2.1 = missing tbl (t.wordAt pos) ∧ count + (unsent parts off).length ≤ width) := by
  induction n generalizing pos off count with
  | zero =>
    have hnone : t.wordAt pos = [] := Take.wordAt_none (.inl (by omega))
    simp [examineFrom, hnone, expansions, missing, unsent_nil, hcount]
  | succ n ih =>
    unfold examineFrom
    by_cases hend : t.length ≤ pos ∨ endsWord (t.charAt pos) = true
    · rw [if_pos hend, Take.wordAt_none hend]
      simp [expansions, missing, unsent_nil, hcount]
    · obtain ⟨hlt, he⟩ := not_or.1 hend
      have hword := Take.wordAt_cons (Nat.lt_of_not_le hlt) (by simpa using he)
      rw [if_neg hend, hword]
      have hparts : expansions tbl (t.charAt pos :: t.wordAt (pos + 1)) =
          (expansion tbl (t.charAt pos)).1 :: expansions tbl (t.wordAt (pos + 1)) := rfl
      have hmissing : missing tbl (t.charAt pos :: t.wordAt (pos + 1)) =
          (expansion tbl (t.charAt pos)).2 + missing tbl (t.wordAt (pos + 1)) := rfl
      simp only [hparts, hmissing, unsent_cons, List.length_append, List.length_drop]
      split
      · next hlong =>
        refine ⟨fun _ => ⟨by simpa [unsent_cons, unsent_nil] using hlong, ?_⟩, fun h => absurd h (by simp)⟩
        exact ⟨expansions tbl (t.wordAt (pos + 1)), rfl⟩
      · next hshort =>
        obtain ⟨hlong, hfits⟩ := ih (pos + 1) 0 (count + ((expansion tbl (t.charAt pos)).1.length - off)) (by omega)
          (by omega)
        refine ⟨fun h => ?_, fun h => ?_⟩
        · obtain ⟨hlen, hpre⟩ := hlong h
          refine ⟨?_, List.prefix_cons_inj _ |>.2 hpre⟩
          simp only [unsent_cons, List.length_append, List.length_drop]
          omega
        · obtain ⟨hall, hu, hlen⟩ := hfits h
          exact ⟨by rw [hall], by rw [hu], by omega⟩

/-! ### Words on the line (R99, R101) -/

variable {fm : Form}

theorem Context.wordFolds_long {x : Context} {w : HeldWord} (h : w.long = true) (width : Nat) :
    x.wordFolds w width = ((w.fresh && decide (0 < x.column)) || decide (width ≤ x.column)) := if_pos h

theorem Context.wordFolds_short {x : Context} {w : HeldWord} (h : w.long = false) (width : Nat) :
    x.wordFolds w width = decide (0 < x.column ∧ width < x.column + (unsent w.ahead x.read.off).length) := by
  rw [wordFolds, if_neg (by simp [h]), unsent_length]

/-- A held word that folds before its first character (R101). -/
theorem packText_fold {x : Context} {w : HeldWord} {e : List Byte} {es : List (List Byte)} {u : Nat} (n : Nat)
    (hpos : x.read.pos < t.length) (hw : x.word = some w) (ha : w.ahead = e :: es) (hfresh : w.fresh = true)
    (hfold : x.wordFolds w fm.width = true) : packText fm tbl t (n + 1) x u =
      ({ x with word := some { w with fresh := false } } : Context).beginLineEnd fm .fold u := by
  rw [packText, if_neg (Nat.not_le.2 hpos)]
  simp only [hw, ha]
  rw [if_pos ⟨hfresh, hfold⟩]

/-- A held word whose next character stands in the expansion at its head: it folds or goes on. -/
theorem packText_next {x : Context} {w : HeldWord} {e : List Byte} {es : List (List Byte)} {c : Byte} {u : Nat} (n : Nat)
    (hpos : x.read.pos < t.length) (hw : x.word = some w) (ha : w.ahead = e :: es) (hc : e[x.read.off]? = some c) :
    packText fm tbl t (n + 1) x u =
      if x.wordFolds w fm.width then
        ({ x with word := some { w with fresh := false } } : Context).beginLineEnd fm .fold u
      else
        ({ x with word := some { w with fresh := false } } : Context).want fm (unitOf c) (Context.passChar w e es) u := by
  rw [packText, if_neg (Nat.not_le.2 hpos)]
  simp only [hw, ha, hc]
  cases x.wordFolds w fm.width <;> simp

/-- An expansion with nothing left to send is passed over (R98). -/
theorem packText_drop {x : Context} {w : HeldWord} {e : List Byte} {es : List (List Byte)} {u : Nat} (n : Nat)
    (hpos : x.read.pos < t.length) (hw : x.word = some w) (ha : w.ahead = e :: es) (hc : e[x.read.off]? = none)
    (hfold : x.wordFolds w fm.width = false) : packText fm tbl t (n + 1) x u =
      packText fm tbl t n
        { x with read := { pos := x.read.pos + 1, off := 0 }, word := some { w with ahead := es } } u := by
  rw [packText, if_neg (Nat.not_le.2 hpos)]
  simp only [hw, ha, hc, hfold, Bool.false_eq_true, and_false, if_false]

/-- The next byte of a word longer than the width looked up as its turn comes (R99). -/
theorem packText_lookUp {x : Context} {w : HeldWord} {u : Nat} (n : Nat) (hpos : x.read.pos < t.length)
    (hw : x.word = some w) (ha : w.ahead = []) (hl : w.long = true) (he : endsWord (t.charAt x.read.pos) = false) :
    packText fm tbl t (n + 1) x u =
      packText fm tbl t n { x with word := some { w with ahead := [(expansion tbl (t.charAt x.read.pos)).1] } }
        (u + (expansion tbl (t.charAt x.read.pos)).2) := by
  rw [packText, if_neg (Nat.not_le.2 hpos)]
  simp only [hw, ha]
  rw [if_pos ⟨hl, he⟩]

theorem Context.passChar_column (w : HeldWord) (e : List Byte) (es : List (List Byte)) (x : Context) :
    (Context.passChar w e es x).column = x.column := by
  unfold passChar
  split <;> rfl

/-- The first character of a held word that does not fold, the expansions before it being empty (R98, R99). -/
theorem packText_firstChar {x : Context} {w : HeldWord} {c : Byte} {rest : List Byte} {u : Nat} {n : Nat}
    (hpos : x.read.pos + w.ahead.length ≤ t.length) (hn : w.ahead.length ≤ n) (hw : x.word = some w)
    (hfold : x.wordFolds w fm.width = false) (hc : unsent w.ahead x.read.off = c :: rest) :
    ∃ (z : Context) (past : Context → Context), packText fm tbl t n x u = z.want fm (unitOf c) past u ∧
      z.column = x.column ∧ z.shift = x.shift ∧ (past z).column = x.column := by
  generalize ha : w.ahead = ahead at hpos hn hc
  induction ahead generalizing x w n with
  | nil => simp [unsent_nil] at hc
  | cons e es ih =>
    rw [List.length_cons] at hpos hn
    obtain ⟨m, rfl⟩ : ∃ m, n = m + 1 := ⟨n - 1, by omega⟩
    rw [unsent_cons] at hc
    cases he : e[x.read.off]? with
    | some c' =>
      obtain ⟨hlt, hget⟩ := List.getElem?_eq_some_iff.1 he
      rw [List.drop_eq_getElem_cons hlt, hget, List.cons_append, List.cons.injEq] at hc
      rw [packText_next m (by omega) hw ha he, hfold, hc.1]
      exact ⟨_, _, rfl, rfl, rfl, Context.passChar_column ..⟩
    | none =>
      have hdrop : e.drop x.read.off = [] := List.drop_eq_nil_of_le (List.getElem?_eq_none_iff.1 he)
      rw [hdrop, List.nil_append] at hc
      rw [packText_drop m (by omega) hw ha he hfold]
      refine ih (w := { w with ahead := es }) rfl ?_ rfl (by dsimp only; omega) (by omega) hc
      cases hlong : w.long with
      | true =>
        rw [Context.wordFolds_long hlong] at hfold
        rw [Context.wordFolds_long rfl]
        exact hfold
      | false =>
        rw [Context.wordFolds_short hlong, ha, unsent_cons, hdrop, List.nil_append] at hfold
        rw [Context.wordFolds_short rfl]
        exact hfold

/-! ### The Packer at the start of a word (R99, R101) -/

/-- A word looked up where none is held (R99). -/
theorem packText_examine {x : Context} {u : Nat} (n : Nat) (hpos : x.read.pos < t.length) (hw : x.word = none)
    (he : endsWord (t.charAt x.read.pos) = false) : packText fm tbl t (n + 1) x u =
      let r := examineFrom tbl t fm.width t.length x.read.pos x.read.off 0
      packText fm tbl t n { x with word := some { ahead := r.1, long := r.2.2, fresh := true } } (u + r.2.1) := by
  have hno : ¬(t.charAt x.read.pos = byteSpace ∨ t.charAt x.read.pos = byteParagraph) := fun h => by
    rw [(endsWord_iff _).2 h] at he
    exact Bool.noConfusion he
  obtain ⟨hspace, hmark⟩ := not_or.1 hno
  rw [packText, if_neg (Nat.not_le.2 hpos)]
  simp only [hw, hspace, hmark, if_false]

/-- The word that the Packer holds once it has examined the one at a position (R86, R99). -/
def heldAt (fm : Form) (tbl : Vector SubstEntry 32) (t : Take) (at_ : ReadPos) : HeldWord :=
  let r := examineFrom tbl t fm.width t.length at_.pos at_.off 0
  { ahead := r.1, long := r.2.2, fresh := true }

/-- The unprintable bytes counted in that examination (R82). -/
def countedAt (fm : Form) (tbl : Vector SubstEntry 32) (t : Take) (at_ : ReadPos) : Nat :=
  (examineFrom tbl t fm.width t.length at_.pos at_.off 0).2.1

/-- The characters of the word at a position still to be sent (R98). -/
def wordChars (tbl : Vector SubstEntry 32) (t : Take) (at_ : ReadPos) : List Byte :=
  unsent (expansions tbl (t.wordAt at_.pos)) at_.off

theorem heldAt_long {at_ : ReadPos} (h : (heldAt fm tbl t at_).long = true) :
    fm.width < (unsent (heldAt fm tbl t at_).ahead at_.off).length ∧
      (heldAt fm tbl t at_).ahead <+: expansions tbl (t.wordAt at_.pos) := by
  have hspec := (examineFrom_spec (tbl := tbl) (t := t) fm.width t.length at_.pos at_.off 0 (by omega) (by omega)).1 h
  rwa [Nat.zero_add] at hspec

theorem heldAt_short {at_ : ReadPos} (h : (heldAt fm tbl t at_).long = false) :
    (heldAt fm tbl t at_).ahead = expansions tbl (t.wordAt at_.pos) ∧
      countedAt fm tbl t at_ = missing tbl (t.wordAt at_.pos) ∧ (wordChars tbl t at_).length ≤ fm.width := by
  have hspec := (examineFrom_spec (tbl := tbl) (t := t) fm.width t.length at_.pos at_.off 0 (by omega) (by omega)).2 h
  rwa [Nat.zero_add] at hspec

theorem wordChars_of_long {at_ : ReadPos} (h : (heldAt fm tbl t at_).long = true) :
    fm.width < (wordChars tbl t at_).length := by
  obtain ⟨hlen, hpre⟩ := heldAt_long h
  exact Nat.lt_of_lt_of_le hlen (unsent_prefix hpre _).length_le

/-- A word no longer than the width is counted whole. -/
theorem countedAt_eq {at_ : ReadPos} (h : (wordChars tbl t at_).length ≤ fm.width) :
    countedAt fm tbl t at_ = missing tbl (t.wordAt at_.pos) := by
  cases hl : (heldAt fm tbl t at_).long with
  | true => exact absurd h (Nat.not_le.2 (wordChars_of_long hl))
  | false => exact (heldAt_short hl).2.1

theorem heldAt_length (at_ : ReadPos) (h : at_.pos < t.length) :
    at_.pos + (heldAt fm tbl t at_).ahead.length ≤ t.length := by
  have hword := t.wordAt_length at_.pos
  have hlen : (expansions tbl (t.wordAt at_.pos)).length = (t.wordAt at_.pos).length := List.length_map _
  cases hl : (heldAt fm tbl t at_).long with
  | true =>
    have hle := (heldAt_long hl).2.length_le
    omega
  | false =>
    rw [(heldAt_short hl).1]
    omega

/-- The word examined has something looked up. -/
theorem heldAt_ahead {at_ : ReadPos} (hpos : at_.pos < t.length) (he : endsWord (t.charAt at_.pos) = false) :
    ∃ e es, (heldAt fm tbl t at_).ahead = e :: es := by
  refine List.exists_cons_of_ne_nil fun hnil => ?_
  cases hl : (heldAt fm tbl t at_).long with
  | true =>
    have hlen := (heldAt_long hl).1
    rw [hnil, unsent_nil] at hlen
    exact absurd hlen (Nat.not_lt_zero _)
  | false =>
    have hparts := (heldAt_short hl).1
    rw [hnil, Take.wordAt_cons hpos he] at hparts
    exact absurd hparts.symm (List.cons_ne_nil _ _)

/-- The first character of the word is among those looked up. -/
theorem heldAt_unsent {at_ : ReadPos} {c : Byte} {rest : List Byte}
    (hc : wordChars tbl t at_ = c :: rest) : ∃ rest', unsent (heldAt fm tbl t at_).ahead at_.off = c :: rest' := by
  cases hl : (heldAt fm tbl t at_).long with
  | true =>
    obtain ⟨hlen, hpre⟩ := heldAt_long hl
    have hprefix := unsent_prefix hpre at_.off
    cases hu : unsent (heldAt fm tbl t at_).ahead at_.off with
    | nil =>
      rw [hu] at hlen
      exact absurd hlen (by simp)
    | cons c' rest' =>
      rw [hu, show unsent (expansions tbl (t.wordAt at_.pos)) at_.off = c :: rest from hc] at hprefix
      exact ⟨rest', by rw [(List.cons_prefix_cons.1 hprefix).1]⟩
  | false =>
    refine ⟨rest, ?_⟩
    rw [(heldAt_short hl).1]
    exact hc

section
variable {x : Context} (hpos : x.read.pos < t.length) (hw : x.word = none) (he : endsWord (t.charAt x.read.pos) = false)

/-- The context that holds the word it has examined. -/
def Context.examined (fm : Form) (tbl : Vector SubstEntry 32) (t : Take) (x : Context) : Context :=
  { x with word := some (heldAt fm tbl t x.read) }

include hpos hw he in
theorem textNext_examine : textNext fm tbl t x =
    packText fm tbl t (4 * t.length + 3) (x.examined fm tbl t) (0 + countedAt fm tbl t x.read) :=
  packText_examine _ hpos hw he

include hpos hw he in
/-- A word that does not fit folds before its first byte (R101, R104). -/
theorem textNext_folds (hcol : 0 < x.column)
    (hfold : fm.width < (wordChars tbl t x.read).length ∨ fm.width < x.column + (wordChars tbl t x.read).length) :
    ∃ y, textNext fm tbl t x = .char .cr y (countedAt fm tbl t x.read) false ∧ y.lineEnd = some .fold ∧ y.column = 0 ∧
      y.read = x.read := by
  obtain ⟨e, es, ha⟩ := heldAt_ahead (fm := fm) (tbl := tbl) hpos he
  have hfolds : (x.examined fm tbl t).wordFolds (heldAt fm tbl t x.read) fm.width = true := by
    cases hl : (heldAt fm tbl t x.read).long with
    | true =>
      rw [Context.wordFolds_long hl]
      have hcol' : 0 < (x.examined fm tbl t).column := hcol
      simp [heldAt, hcol']
    | false =>
      rw [Context.wordFolds_short hl, (heldAt_short hl).1]
      have hwide : fm.width < x.column + (wordChars tbl t x.read).length :=
        hfold.resolve_left (Nat.not_lt.2 (heldAt_short hl).2.2)
      exact decide_eq_true ⟨hcol, hwide⟩
  rw [textNext_examine hpos hw he, packText_fold _ (by exact hpos) rfl ha rfl hfolds, Nat.zero_add,
    Context.beginLineEnd_eq, Context.afterCR_eq]
  exact ⟨_, rfl, rfl, rfl, rfl⟩

include hpos hw he in
/-- A word that fits goes on with its first character, behind the shift it needs (R89, R99). -/
theorem textNext_word {c : Byte} {rest : List Byte} (hwidth : 0 < fm.width) (hc : wordChars tbl t x.read = c :: rest)
    (hfits : x.column = 0 ∨ x.column + (wordChars tbl t x.read).length ≤ fm.width) :
    ∃ (z : Context) (past : Context → Context), textNext fm tbl t x =
      z.want fm (unitOf c) past (countedAt fm tbl t x.read) ∧
      z.column = x.column ∧ z.shift = x.shift ∧ (past z).column = x.column := by
  obtain ⟨rest', hunsent⟩ := heldAt_unsent (fm := fm) hc
  have hstays : (x.examined fm tbl t).wordFolds (heldAt fm tbl t x.read) fm.width = false := by
    cases hl : (heldAt fm tbl t x.read).long with
    | true =>
      have hlong := wordChars_of_long hl
      have hcol : (x.examined fm tbl t).column = 0 := hfits.resolve_right (by omega)
      rw [Context.wordFolds_long hl, hcol]
      simp [Nat.ne_of_gt hwidth]
    | false =>
      rw [Context.wordFolds_short hl, (heldAt_short hl).1]
      refine decide_eq_false fun h => ?_
      have hwide : fm.width < x.column + (wordChars tbl t x.read).length := h.2
      have hcol : 0 < x.column := h.1
      omega
  have hlen := heldAt_length (fm := fm) (tbl := tbl) x.read hpos
  rw [textNext_examine hpos hw he, Nat.zero_add]
  exact packText_firstChar (x := x.examined fm tbl t) hlen (by omega) rfl hstays hunsent

end

end Sys2Proof.Machine
end


-- ==== sitting 4: the Packer's line and trailer (R88, R89, R97, R99 to R105, R109 to R111) ====
section
/-! The clauses about line ends, spaces, marks, words and trailers, from the Packer's answers. -/

namespace Sys2Proof.Machine

open Sys2Proof

variable {fm : Form} {tbl : Vector SubstEntry 32} {t : Take} {x : Context}

/-! ### Text (R98 to R102) -/

theorem choose_text (hx : x.sequence = []) (hk : x.lineEnd = none) (hp : x.phase = .text) :
    choose fm tbl t x = textNext fm tbl t x := by
  rw [choose_of_phase hx hk, hp]

theorem textNext_end (h : t.length ≤ x.read.pos) : textNext fm tbl t x = startTrailer fm t x 0 := by
  rw [textNext, packText, if_pos h]

theorem textNext_space (hpos : x.read.pos < t.length) (hw : x.word = none) (hs : t.charAt x.read.pos = byteSpace) :
    textNext fm tbl t x =
      if x.column < fm.width then
        .char .space (({ x with read := { pos := x.read.pos + 1, off := 0 } } : Context).emit fm .space) 0 false
      else ({ x with read := { pos := afterSpaces t t.length x.read.pos, off := 0 } } : Context).beginLineEnd fm .fold 0 := by
  rw [textNext, packText, if_neg (Nat.not_le.2 hpos)]
  simp only [hw, hs, if_true]

theorem textNext_paragraph (hpos : x.read.pos < t.length) (hw : x.word = none)
    (hs : t.charAt x.read.pos = byteParagraph) : textNext fm tbl t x =
      ({ x with read := { pos := x.read.pos + 1, off := 0 } } : Context).beginLineEnd fm .paragraph 0 := by
  have hne : byteParagraph ≠ byteSpace := by decide
  rw [textNext, packText, if_neg (Nat.not_le.2 hpos)]
  simp only [hw, hs, if_true, if_neg hne]

/-- A run of spaces passed over (R100): up to the end of the text or the first other byte. -/
theorem afterSpaces_spec (t : Take) (n pos : Nat) (hn : t.length - pos ≤ n) (hpos : pos ≤ t.length) :
    pos ≤ afterSpaces t n pos ∧
      (∀ j, pos ≤ j → j < afterSpaces t n pos → t.charAt j = byteSpace) ∧
      (afterSpaces t n pos = t.length ∨
        (afterSpaces t n pos < t.length ∧ t.charAt (afterSpaces t n pos) ≠ byteSpace)) := by
  induction n generalizing pos with
  | zero => exact ⟨Nat.le_refl _, fun j hj hlt => absurd hlt (Nat.not_lt.2 hj), .inl (by simp only [afterSpaces]; omega)⟩
  | succ n ih =>
    unfold afterSpaces
    split
    · next h =>
      obtain ⟨hle, hall, hend⟩ := ih (pos + 1) (by omega) (by omega)
      refine ⟨by omega, fun j hj hlt => ?_, hend⟩
      rcases Nat.eq_or_lt_of_le hj with rfl | hlt'
      · exact h.2
      · exact hall j hlt' hlt
    · next h =>
      refine ⟨Nat.le_refl _, fun j hj hlt => absurd hlt (Nat.not_lt.2 hj), ?_⟩
      rcases Nat.lt_or_ge pos t.length with hlt | hge
      · exact .inr ⟨hlt, fun hs => h ⟨hlt, hs⟩⟩
      · exact .inl (by omega)

theorem afterSpaces_past (hpos : x.read.pos < t.length) (hs : t.charAt x.read.pos = byteSpace) :
    x.read.pos < afterSpaces t t.length x.read.pos := by
  obtain ⟨n, hn⟩ : ∃ n, t.length = n + 1 := ⟨t.length - 1, by omega⟩
  have hstep : afterSpaces t t.length x.read.pos = afterSpaces t n (x.read.pos + 1) := by
    rw [hn, afterSpaces, if_pos ⟨hpos, hs⟩]
  have hle := (afterSpaces_spec t n (x.read.pos + 1) (by omega) (by omega)).1
  rw [hstep]
  exact hle

/-! ### Words longer than the width (R99, R101) -/

/-- A byte with something to send in its place is not counted as unprintable (R82). -/
theorem expansion_printable {b c : Byte} {off : Nat} (h : (expansion tbl b).1[off]? = some c) : (expansion tbl b).2 = 0 := by
  unfold expansion at *
  split
  · rfl
  · next hw =>
    rw [if_neg hw] at h
    split
    · rfl
    · next hn =>
      rw [hn] at h
      simp at h

/-- The next character of a split word (R101). -/
theorem textNext_split {w : HeldWord} {c : Byte} (hw : x.word = some w) (hl : w.long = true) (hf : w.fresh = false)
    (hpos : x.read.pos < t.length) (hword : w.ahead = [] → endsWord (t.charAt x.read.pos) = false)
    (hc : (w.ahead.headD (expansion tbl (t.charAt x.read.pos)).1)[x.read.off]? = some c) :
    ∃ (z : Context) (past : Context → Context), textNext fm tbl t x =
      (if fm.width ≤ x.column then z.beginLineEnd fm .fold 0 else z.want fm (unitOf c) past 0) ∧ z.read = x.read ∧
      z.column = x.column ∧ z.shift = x.shift ∧ (past z).column = x.column := by
  cases ha : w.ahead with
  | cons e es =>
    rw [ha, List.headD_cons] at hc
    refine ⟨{ x with word := some { w with fresh := false } }, Context.passChar w e es, ?_, rfl, rfl, rfl,
      Context.passChar_column ..⟩
    rw [textNext, packText_next _ hpos hw ha hc, Context.wordFolds_long hl, hf]
    simp
  | nil =>
    rw [ha, List.headD_nil] at hc
    let v : HeldWord := { w with ahead := [(expansion tbl (t.charAt x.read.pos)).1] }
    refine ⟨{ x with word := some { v with fresh := false } },
      Context.passChar v (expansion tbl (t.charAt x.read.pos)).1 [], ?_, rfl, rfl, rfl, Context.passChar_column ..⟩
    rw [textNext, packText_lookUp _ hpos hw ha hl (hword ha), expansion_printable hc]
    refine (packText_next (x := { x with word := some v }) _ hpos rfl rfl hc).trans ?_
    have hfresh : v.fresh = false := hf
    rw [Context.wordFolds_long (by exact hl), hfresh]
    simp

/-! ### The clauses -/

theorem choose_afterSequence {f : FiveUnit} {rest : List FiveUnit} (h : x.sequence = f :: rest) :
    choose fm tbl t x = .char f
      ({ ({ x with sequence := rest } : Context).emit fm f with
        lineStart := if rest = [] ∧ x.phase = .text then x.read else x.lineStart }) 0 false := by
  rw [choose_of_sequence h, Context.markLineStart_eq]
  rfl

/-- What a character chosen between characters leaves: the line-start position stays, one slot is taken, and a line end
is in progress only behind its CR. -/
def Chosen.Between (fm : Form) (x : Context) (c : Chosen) : Prop :=
  ∀ f y u start, c = .char f y u start → y.lineStart = x.lineStart ∧ y.slots = x.slots + 1 ∧
    ((y.lineEnd = none ∧ y.sequence = []) ∨
      ∃ k, y.lineEnd = some k ∧ f = .cr ∧ y.column = 0 ∧ y.sequence = lineEndRest fm k)

theorem answerForms_between (hlf : 1 ≤ fm.nLF) (x : Context) : AnswerForms fm x (Chosen.Between fm x) where
  lineEnd y k u hy f z v start h := by
    obtain ⟨-, -, hline, hslots⟩ := hy
    rw [Context.beginLineEnd_eq, Chosen.char.injEq] at h
    obtain ⟨rfl, rfl, -, -⟩ := h
    refine ⟨(y.afterCR_lineStart k hlf).trans hline, ?_, .inr ⟨k, ?_⟩⟩
    · rw [Context.afterCR_eq]
      exact congrArg (· + 1) hslots
    · rw [Context.afterCR_eq]
      exact ⟨rfl, rfl, rfl, rfl⟩
  want y f past u hy hpast g z v start h := by
    obtain ⟨hseq, hk, hline, hslots⟩ := hy
    obtain ⟨hseq', hk', hline', hslots'⟩ := hpast
    unfold Context.want at h
    split at h
    · rw [Chosen.char.injEq] at h
      obtain ⟨-, rfl, -, -⟩ := h
      exact ⟨hline', congrArg (· + 1) hslots', .inl ⟨hk', hseq'⟩⟩
    · rw [Chosen.char.injEq] at h
      obtain ⟨-, rfl, -, -⟩ := h
      exact ⟨hline, congrArg (· + 1) hslots, .inl ⟨hk, hseq⟩⟩
  emit y f u hy g z v start h := by
    obtain ⟨hseq, hk, hline, hslots⟩ := hy
    rw [Chosen.char.injEq] at h
    obtain ⟨-, rfl, -, -⟩ := h
    exact ⟨hline, congrArg (· + 1) hslots, .inl ⟨hk, hseq⟩⟩
  takeEnd f y u start h := by simp at h
  breakIn f y u start h := by simp at h

theorem choose_between (hlf : 1 ≤ fm.nLF) (hx : x.sequence = []) : (choose fm tbl t x).Between fm x :=
  (answerForms_between hlf x).choose hx fun _ _ y f rest hy g z v start h => by
    obtain ⟨hseq, hk, hline, hslots⟩ := hy
    rw [Chosen.char.injEq] at h
    obtain ⟨-, rfl, -, -⟩ := h
    exact ⟨hline, congrArg (· + 1) hslots, .inl ⟨hk, hseq⟩⟩

/-- A context past a complete line end. -/
def Context.past (x : Context) : Context := { x with lineEnd := none }

/-- A context that begins its trailer (R105, R109). -/
def Context.intoTrailer (x : Context) : Context :=
  { x.past with phase := .trailer .opening, word := none, breakIn := false }

theorem startTrailer_eq (hx : x.sequence = []) : startTrailer fm t x.past 0 = choose fm tbl t x.intoTrailer :=
  (choose_of_phase (x := x.intoTrailer) hx rfl).symm

theorem lineEndDone_header {items : List HeaderItem} {k : LineEnd} (hp : x.phase = .header items) :
    lineEndDone fm tbl t x k =
      if x.cut then startTrailer fm t x 0
      else if k = .headerClose then textNext fm tbl t { x with phase := .text } else headerNext fm tbl t x items := by
  simp only [lineEndDone, hp]

theorem lineEndDone_text {k : LineEnd} (hp : x.phase = .text) : lineEndDone fm tbl t x k =
    if t.length ≤ x.read.pos then startTrailer fm t x 0
    else if x.cut then startTrailer fm t x 0 else if x.breakIn then .breakIn else textNext fm tbl t x := by
  simp only [lineEndDone, hp]

/-- The Packer at a complete line end of the header (R105). -/
theorem choose_headerLineEnd {items : List HeaderItem} {k : LineEnd} (hx : x.sequence = []) (hk : x.lineEnd = some k)
    (hp : x.phase = .header items) : choose fm tbl t x =
      choose fm tbl t (if x.cut then x.intoTrailer else if k = .headerClose then { x.past with phase := .text }
        else x.past) := by
  have hdone : choose fm tbl t x = lineEndDone fm tbl t x.past k := choose_of_lineEnd hx hk
  rw [hdone, lineEndDone_header (x := x.past) hp]
  cases hcut : x.cut with
  | true => exact (if_pos hcut).trans (startTrailer_eq hx)
  | false =>
    refine (if_neg (Bool.eq_false_iff.1 hcut)).trans ?_
    rw [if_neg Bool.false_ne_true]
    by_cases hclose : k = .headerClose
    · rw [if_pos hclose, if_pos hclose]
      exact (choose_text (x := { x.past with phase := .text }) hx rfl rfl).symm
    · rw [if_neg hclose, if_neg hclose]
      exact (choose_header (x := x.past) hx rfl hp).symm

/-- A complete line end of the text at its end, or with a cut pending, leads to the trailer (R105, R109). -/
theorem choose_textLineEnd_ends {k : LineEnd} (hx : x.sequence = []) (hk : x.lineEnd = some k) (hp : x.phase = .text)
    (h : t.length ≤ x.read.pos ∨ x.cut = true) : choose fm tbl t x = startTrailer fm t x.past 0 := by
  have hdone : choose fm tbl t x = lineEndDone fm tbl t x.past k := choose_of_lineEnd hx hk
  rw [hdone, lineEndDone_text (x := x.past) hp]
  by_cases hl : t.length ≤ x.past.read.pos
  · rw [if_pos hl]
  · have hcut : x.past.cut = true := h.resolve_left hl
    rw [if_neg hl, if_pos hcut]

/-- Else, with no break-in pending, the text goes on (R105). -/
theorem choose_textLineEnd_on {k : LineEnd} (hx : x.sequence = []) (hk : x.lineEnd = some k) (hp : x.phase = .text)
    (hl : x.read.pos < t.length) (hc : x.cut = false) (hb : x.breakIn = false) :
    choose fm tbl t x = choose fm tbl t x.past := by
  have hdone : choose fm tbl t x = lineEndDone fm tbl t x.past k := choose_of_lineEnd hx hk
  have hcut : ¬x.past.cut = true := Bool.eq_false_iff.1 hc
  have hbreak : ¬x.past.breakIn = true := Bool.eq_false_iff.1 hb
  have hleft : ¬t.length ≤ x.past.read.pos := Nat.not_le.2 hl
  rw [hdone, lineEndDone_text (x := x.past) hp, if_neg hleft, if_neg hcut, if_neg hbreak, choose_text (x := x.past) hx rfl hp]

/-- Where a trailer begins: behind the text, or at a complete line end with nothing to follow or with a cut pending
(R105, R109). -/
theorem choose_opening (hx : x.sequence = [])
    (h : (x.lineEnd = none ∧ x.phase = .text ∧ t.length ≤ x.read.pos) ∨
      ((∃ k, x.lineEnd = some k) ∧ x.phase = .text ∧ (t.length ≤ x.read.pos ∨ x.cut = true)) ∨
      ((∃ k, x.lineEnd = some k) ∧ (∃ items, x.phase = .header items) ∧ x.cut = true)) :
    choose fm tbl t x = startTrailer fm t x.past 0 := by
  rcases h with ⟨hk, hp, hl⟩ | ⟨⟨k, hk⟩, hp, hends⟩ | ⟨⟨k, hk⟩, ⟨items, hp⟩, hcut⟩
  · have hpast : x.past = x := by rw [Context.past, ← hk]
    rw [choose_text hx hk hp, textNext_end hl, hpast]
  · exact choose_textLineEnd_ends hx hk hp hends
  · rw [choose_headerLineEnd hx hk hp, if_pos hcut, startTrailer_eq hx]

/-- Settles O52, clause by clause. -/
theorem packerTextAndTrailers : Obligations.PackerTextAndTrailers := by
  unfold Obligations.PackerTextAndTrailers
  refine ⟨?lineEnd, ?sequence, ?between, ?complete, ?shift, ?space, ?paragraph, ?word, ?split, ?trailer⟩
  case lineEnd =>
    intro fm k x u hcr
    have hafter := x.afterCR_eq fm k
    refine ⟨x.afterCR fm k, rfl, ?_, ?_, ?_, ?_, ?_, fun hlf => x.afterCR_lineStart k hlf, ?_⟩
    iterate 5 rw [hafter]
    rw [hafter, cr_lineEndRest fm k hcr]
  case sequence =>
    intro fm tbl t x f rest hx
    exact ⟨_, choose_afterSequence hx, rfl, rfl, rfl, rfl, rfl, rfl, rfl⟩
  case between =>
    intro fm tbl t x y f u start hcr hlf hx hc
    obtain ⟨hline, hslots, hends⟩ := choose_between hlf hx f y u start hc
    refine ⟨hline, hslots, hends.imp id fun ⟨k, hk, hf, hcol, hseq⟩ => ⟨k, hk, hf, hcol, ?_⟩⟩
    rw [hseq, cr_lineEndRest fm k hcr]
  case complete =>
    intro fm tbl t x k hx hk on trailer
    exact ⟨fun items hp => choose_headerLineEnd hx hk hp,
      fun hp => ⟨fun h => (choose_textLineEnd_ends hx hk hp h).trans (startTrailer_eq hx),
        fun hl hc hb => choose_breakIn hx hk hp hb hc hl, fun hl hc hb => choose_textLineEnd_on hx hk hp hl hc hb⟩,
      fun step hp => (choose_trailer hx hp).trans (choose_trailer (x := x.past) hx hp).symm⟩
  case shift =>
    intro fm x f past u
    exact ⟨fun h => Context.want_fits h fm past u, fun k h hk => Context.want_shift h hk fm past u⟩
  case space =>
    intro fm tbl t x hx hk hp hw hpos hs
    rw [choose_text hx hk hp, textNext_space hpos hw hs]
    refine ⟨fun hlt => ?_, fun hle => ?_⟩
    · rw [if_pos hlt]
      exact ⟨_, rfl, rfl, rfl⟩
    · obtain ⟨-, hall, hend⟩ := afterSpaces_spec t t.length x.read.pos (by omega) (by omega)
      rw [if_neg (Nat.not_lt.2 hle), Context.beginLineEnd_eq, Context.afterCR_eq]
      exact ⟨_, afterSpaces t t.length x.read.pos, rfl, rfl, rfl, afterSpaces_past hpos hs, hall, hend⟩
  case paragraph =>
    intro fm tbl t x hx hk hp hw hpos hs
    rw [choose_text hx hk hp, textNext_paragraph hpos hw hs]
  case word =>
    intro fm tbl t x hwidth hx hk hp hw hpos hspace hmark span parts chars missing' gives
    have he : endsWord (t.charAt x.read.pos) = false :=
      Bool.eq_false_iff.2 fun h => ((endsWord_iff _).1 h).elim hspace hmark
    have hchars : wordChars tbl t x.read = chars := rfl
    have hcount (h : chars.length ≤ fm.width) : countedAt fm tbl t x.read = missing' := countedAt_eq h
    refine ⟨fun hcol hfold => ?_, fun c rest hc hfits => ?_⟩
    · obtain ⟨y, hy, hline, hcolumn, hread⟩ := textNext_folds hpos hw he hcol hfold
      exact ⟨y, _, (choose_text hx hk hp).trans hy, hline, hcolumn, hread, hcount⟩
    · obtain ⟨z, past, hz, hcolumn, hshift, hpast⟩ := textNext_word hpos hw he hwidth hc hfits
      rw [← choose_text hx hk hp] at hz
      refine ⟨fun hn => ?_, fun k hn hne => ?_⟩
      · rw [Context.want_fits (.inr (by rw [hshift]; exact hn))] at hz
        exact ⟨_, _, hz, by rw [Context.emit_unitOf, hpast], hcount⟩
      · rw [Context.want_shift hn (by rw [hshift]; exact hne)] at hz
        exact ⟨_, _, hz, hcolumn, hcount⟩
  case split =>
    intro fm tbl t x w c hx hk hp hw hl hf hpos hword hc
    have hends (h : w.ahead = []) : endsWord (t.charAt x.read.pos) = false :=
      Bool.eq_false_iff.2 fun he => ((endsWord_iff _).1 he).elim (hword h).1 (hword h).2
    obtain ⟨z, past, hz, hread, hcolumn, hshift, hpast⟩ := textNext_split (fm := fm) hw hl hf hpos hends hc
    rw [← choose_text hx hk hp] at hz
    refine ⟨fun hle => ?_, fun hlt => ⟨fun hn => ?_, fun k hn hne => ?_⟩⟩
    · rw [if_pos hle, Context.beginLineEnd_eq, Context.afterCR_eq] at hz
      exact ⟨_, hz, rfl, rfl, hread⟩
    · rw [if_neg (Nat.not_le.2 hlt), Context.want_fits (.inr (by rw [hshift]; exact hn))] at hz
      exact ⟨_, hz, by rw [Context.emit_unitOf, hpast]⟩
    · rw [if_neg (Nat.not_le.2 hlt), Context.want_shift hn (by rw [hshift]; exact hne)] at hz
      exact ⟨_, hz, hcolumn⟩
  case trailer =>
    intro fm tbl t x a b hh mm hrange hx hstart htag ha hb hclock hhour hminute lineEnd digit marked
    have hcr : 1 ≤ fm.nCR := hrange.2.2.1.1
    obtain ⟨y, hy, hend⟩ := emits_trailer (w := x.past) hcr hx rfl (choose_opening hx hstart) htag ha hb hclock
    have hdigits : [hh / 10, hh, mm / 10, mm].map (fun n => FiveUnit.figure (digitByte n)) =
        [digit (hh / 10), digit (hh % 10), digit (mm / 10), digit (mm % 10)] := by
      simp only [List.map_cons, List.map_nil, digit, digitByte, Nat.mod_eq_of_lt (show hh / 10 < 10 by omega),
        Nat.mod_eq_of_lt (show mm / 10 < 10 by omega)]
    have hcase : (if (if 0 < x.column ∧ fm.reassert = true then ShiftCase.letters else x.shift) = .figures then
        [FiveUnit.ltrs] else []) = if x.shift = .figures ∧ ¬(0 < x.column ∧ fm.reassert = true) then [.ltrs] else [] := by
      by_cases h : 0 < x.column ∧ fm.reassert = true
      · simp [h]
      · simp only [h, if_false, not_false_eq_true, and_true]
    have hmark (due : Bool) (mark : Byte) : (markDue due mark).length ≤ 1 := by
      unfold markDue
      split <;> simp
    have hopen : (if 0 < x.column then fm.lineEnd else []).length ≤ 5 := by
      split
      · exact Form.lineEnd_length hrange
      · simp
    have hshift : (if x.shift = .figures ∧ ¬(0 < x.column ∧ fm.reassert = true) then [FiveUnit.ltrs] else []).length ≤ 1 := by
      split <;> simp
    have hclose := Form.lineEnd_length hrange
    have hsuspect := hmark t.suspect 0x3F
    have htruncated := hmark t.truncated 0x2B
    have hcut := hmark x.cut 0x2F
    have hy' : Emits fm tbl t x ((if 0 < x.column then fm.lineEnd else []) ++
        (((if x.shift = .figures ∧ ¬(0 < x.column ∧ fm.reassert = true) then [.ltrs] else []) ++
          [.letter a, .letter b, .space]) ++ ([.figs] ++ [digit (hh / 10), digit (hh % 10), digit (mm / 10), digit (mm % 10)] ++
            (markDue t.suspect 0x3F ++ (markDue t.truncated 0x2B ++ (markDue x.cut 0x2F ++
              (fm.lineEnd ++ fm.lineEnd))))))) y := by
      rw [← hcase, ← hdigits]
      exact hy
    refine (Emits.emitted_eq hy' hend ?_).trans ?_
    · simp only [List.length_append, List.length_cons, List.length_nil]
      omega
    · simp only [List.flatten_cons, List.flatten_nil, List.append_nil, List.append_assoc, List.cons_append, List.nil_append]
      rfl

end Sys2Proof.Machine
end


-- ==== sitting 4: places and insertions (R64, R65, R67 to R70, R72) ====
section
/-! Where an entry stands in a queue in class order, and what an insertion on a circuit does. -/

namespace Sys2Proof.Machine

open Sys2Proof

/-! ### Places in a queue (R64, R65) -/

/-- In a queue in class order an entry behind the first of its class or below that fails a test is itself no higher. -/
theorem inClassOrder.dropWhile_above {q : List Entry} (hq : inClassOrder q) {p : Entry → Bool} {m : Nat}
    (hp : ∀ x, p x = false → m ≤ x.prio.num) : ∀ x ∈ q.dropWhile p, m ≤ x.prio.num := by
  cases hd : q.dropWhile p with
  | nil => simp
  | cons y ys =>
    have hy : m ≤ y.prio.num := hp y (by
      have hhead := List.head_dropWhile_not p (show q.dropWhile p ≠ [] by simp [hd])
      simpa [hd] using hhead)
    have horder : inClassOrder (y :: ys) := hd ▸ hq.sublist (List.dropWhile_sublist p)
    intro x hx
    rcases List.mem_cons.1 hx with rfl | hx
    · exact hy
    · exact hy.trans (List.rel_of_pairwise_cons horder hx)

theorem placeEntry_stands {q : List Entry} (e : Entry) (hq : inClassOrder q) : ∃ a b, q = a ++ b ∧
    placeEntry q e = a ++ e :: b ∧ (∀ x ∈ a, x.prio.num ≤ e.prio.num) ∧ ∀ x ∈ b, e.prio.num < x.prio.num :=
  ⟨_, _, List.takeWhile_append_dropWhile.symm, rfl, fun _ hx => of_decide_eq_true (List.mem_takeWhile_imp hx :),
    hq.dropWhile_above fun _ h => Nat.lt_of_not_le (of_decide_eq_false h)⟩

theorem placeResumed_stands {q : List Entry} (e : Entry) (hq : inClassOrder q) : ∃ a b, q = a ++ b ∧
    placeResumed q e = a ++ e :: b ∧ (∀ x ∈ a, x.prio.num < e.prio.num) ∧ ∀ x ∈ b, e.prio.num ≤ x.prio.num :=
  ⟨_, _, List.takeWhile_append_dropWhile.symm, rfl, fun _ hx => of_decide_eq_true (List.mem_takeWhile_imp hx :),
    hq.dropWhile_above fun _ h => Nat.le_of_not_lt (of_decide_eq_false h)⟩

/-! ### A placed entry (R67) -/

/-- The entry of a take newly inserted on a circuit (R67, R72). -/
def Circuit.entryOf (c : Circuit) (n : Nat) (t : Take) (p : Priority) : Entry :=
  { handle := n, prio := p, resume := none, estimate := estimate c.active.form t.length }

/-- A circuit with an entry more in its queue. -/
def Circuit.entered (c : Circuit) (e : Entry) : Circuit :=
  { c with queue := placeEntry c.queue e, backlog := c.backlog + e.estimate }

namespace State

variable {s : State} {i : CircuitId} {n : Nat} {t : Take} {p : Priority}

theorem place_eq (ht : s.take? n = some t) (u : Take) : s.place i n u p =
    ((s.setCircuit i ((s.circuit i).entered ((s.circuit i).entryOf n u p))).putTake n
      { t with refs := t.refs + 1 }).offerBreakIn i p := by
  rw [place, addRef, modTake_of_take (t := t) (by exact ht)]
  rfl

theorem offerBreakIn_idle (hf : (s.circuit i).flight = none) : s.offerBreakIn i p = s := by
  simp only [offerBreakIn, hf]

theorem place_idle (ht : s.take? n = some t) (hf : (s.circuit i).flight = none) (u : Take) : s.place i n u p =
    (s.setCircuit i ((s.circuit i).entered ((s.circuit i).entryOf n u p))).putTake n { t with refs := t.refs + 1 } := by
  rw [place_eq ht]
  refine offerBreakIn_idle ?_
  rw [putTake_circuit, setCircuit_circuit_self]
  exact hf

/-! ### An insertion (R67 to R69) -/

theorem insert_shed (ht : s.take? n = some t) (h : (s.circuit i).sheds p = true) :
    s.insert i n p = s.countCircuit i .shed 1 := by
  simp only [insert, ht, h, if_true]

theorem insert_placed (ht : s.take? n = some t) (h : (s.circuit i).sheds p = false) (hfull : s.full i = false) :
    s.insert i n p = s.place i n t p := by
  simp only [insert, ht, h, hfull, if_true, Bool.false_eq_true, if_false]

theorem insert_over (ht : s.take? n = some t) (h : (s.circuit i).sheds p = false)
    (hover : (s.circuit i).active.depth < (s.circuit i).occupancy) : s.insert i n p = s.countCircuit i .refusedFull 1 := by
  have hfull : s.full i = true := decide_eq_true (.inl hover.le)
  simp only [insert, ht, h, hfull, hover, if_true, Bool.false_eq_true, if_false, Bool.true_eq_false]

theorem insert_atDepth (ht : s.take? n = some t) (h : (s.circuit i).sheds p = false) (hfull : s.full i = true)
    (hdepth : (s.circuit i).occupancy ≤ (s.circuit i).active.depth) : s.insert i n p =
      (displacedAt (s.circuit i).queue p).elim (s.countCircuit i .refusedFull 1) fun m =>
        ((s.removeAt i m).countCircuit i .displaced 1).place i n t p := by
  simp only [insert, ht, h, hfull, Nat.not_lt.2 hdepth, Bool.false_eq_true, if_false, Bool.true_eq_false]
  cases displacedAt (s.circuit i).queue p <;> rfl

end State

/-! ### The displaced entry (R69) -/

theorem Entry.not_displaceable {p : Priority} {x : Entry} (h : x.prio.num ≤ p.num ∨ x.resume ≠ none) :
    x.displaceable p = false := by
  rw [displaceable, Bool.and_eq_false_iff, decide_eq_false_iff_not, Nat.not_lt, Option.isNone_eq_false_iff,
    Option.isSome_iff_ne_none]
  exact h

theorem displacedAt_none {q : List Entry} {p : Priority} (h : ∀ x ∈ q, x.displaceable p = false) : displacedAt q p = none := by
  rw [displacedAt, Option.map_eq_none_iff, List.findIdx?_eq_none_iff]
  exact fun x hx => h x (List.mem_reverse.1 hx)

theorem findIdx?_reverse_last {α : Type} {f : α → Bool} {a b : List α} {x : α} (hx : f x = true) (hb : ∀ y ∈ b, f y = false) :
    ((a ++ x :: b).reverse.findIdx? f).map (fun n => (a ++ x :: b).length - 1 - n) = some a.length := by
  have hfind : (a ++ x :: b).reverse.findIdx? f = some b.length := by
    rw [List.reverse_append, List.reverse_cons, List.append_assoc, List.findIdx?_append,
      List.findIdx?_eq_none_iff.2 fun y hy => hb y (List.mem_reverse.1 hy)]
    simp [List.findIdx?_cons, hx]
  rw [hfind]
  simp only [Option.map_some, List.length_append, List.length_cons, Option.some.injEq]
  omega

/-- The displaceable entry behind which none is displaceable is the displaced one. -/
theorem displacedAt_append {a b : List Entry} {x : Entry} {p : Priority} (hx : x.displaceable p = true)
    (hb : ∀ y ∈ b, y.displaceable p = false) : displacedAt (a ++ x :: b) p = some a.length :=
  findIdx?_reverse_last hx hb

theorem State.removeAt_append {u : State} {i : CircuitId} {a b : List Entry} {x : Entry}
    (hq : (u.circuit i).queue = a ++ x :: b) : u.removeAt i a.length = (u.setCircuit i
    { u.circuit i with queue := a ++ b, backlog := (u.circuit i).backlog - x.estimate }).dropRefs [x] := by
  have hx : (u.circuit i).queue[a.length]? = some x := by rw [hq]; simp
  have herase : (u.circuit i).queue.eraseIdx a.length = a ++ b := by
    rw [hq, List.eraseIdx_append_of_length_le (Nat.le_refl _), Nat.sub_self, List.eraseIdx_cons_zero]
  simp only [removeAt, hx, modCircuit, herase]
  rfl

/-- An entry of a take with other references removed. -/
theorem State.removeAt_shared {s : State} {i : CircuitId} {a b : List Entry} {x : Entry} {u : Take}
    (hq : (s.circuit i).queue = a ++ x :: b) (hu : s.take? x.handle = some u) (h : 1 < u.refs) :
    s.removeAt i a.length = (s.setCircuit i
      { s.circuit i with queue := a ++ b, backlog := (s.circuit i).backlog - x.estimate }).putTake x.handle
        { u with refs := u.refs - 1 } :=
  (removeAt_append hq).trans (dropRef_shared (s := s.setCircuit i _) hu h)

/-- Settles O48: the places first, then the insertion by what it meets. -/
theorem queuePlacesAndInsertions : Obligations.QueuePlacesAndInsertions := by
  unfold Obligations.QueuePlacesAndInsertions
  refine ⟨fun q e hq => ⟨placeEntry_stands e hq, placeResumed_stands e hq⟩, ?_⟩
  intro s i n p t ht c hf est e shed
  have hocc : c.occupancy = c.queue.length := by simp only [Circuit.occupancy, hf]; rfl
  have hsheds : c.sheds p = true ↔ shed := by
    simp only [shed]
    cases p <;> simp [Circuit.sheds, Nat.mul_assoc]
  have hkept (h : ¬shed) : c.sheds p = false := Bool.eq_false_iff.2 (mt hsheds.1 h)
  have hfull : s.full i = true ↔ c.active.depth ≤ c.queue.length ∨ s.freeEntries = 0 := by
    rw [← hocc]
    exact decide_eq_true_iff
  refine ⟨fun h => State.insert_shed ht (hsheds.2 h), fun h hroom hfree => ?_, fun h hroom => ⟨fun hnone => ?_, ?_⟩,
    fun h hover => State.insert_over ht (hkept h) (by rw [hocc]; exact hover)⟩
  · have hnot : s.full i = false := Bool.eq_false_iff.2 fun h => (hfull.1 h).elim (by omega) (by omega)
    exact (State.insert_placed ht (hkept h) hnot).trans (State.place_idle ht hf t)
  all_goals
    have hat := State.insert_atDepth ht (hkept h) (hfull.2 (hroom.imp (fun h => h.ge) (·.2)))
      (by rw [hocc]; exact hroom.elim (·.le) (·.1.le))
  · rw [hat, displacedAt_none fun x hx => Entry.not_displaceable (hnone x hx)]
    rfl
  · intro a x b u hq hprio hres hb hu hrefs hne
    have hx : x.displaceable p = true := by simp [Entry.displaceable, hprio, hres]
    rw [hat, hq, displacedAt_append hx fun y hy => Entry.not_displaceable (hb y hy), Option.elim_some, State.removeAt_shared hq hu hrefs]
    refine (State.place_idle (t := t) ?_ ?_ t).trans ?_
    · exact (Takes.get_put_other _ _ (Ne.symm hne)).trans ht
    · simp only [State.countCircuit, State.modCircuit, State.setCircuit_circuit_self, State.putTake_circuit]
      exact hf
    · simp only [State.countCircuit, State.modCircuit, State.setCircuit_circuit_self, State.putTake_circuit]
      exact congrArg (fun v : State => (v.putTake x.handle { u with refs := u.refs - 1 }).putTake n
        { t with refs := t.refs + 1 }) (((State.setCircuit_setCircuit _ i _ _).trans
          (State.setCircuit_setCircuit _ i _ _)).trans (State.setCircuit_setCircuit _ i _ _).symm)

end Sys2Proof.Machine
end


-- ==== sitting 4: frames that end badly (R12, R14, R17, R36) ====
section
/-! A BEGIN in TEXT is covered by the check (R7), yet the check value it leaves is not looked at again: the new frame starts
with the initial value. So what happens between the two, up to the Router, is shown not to see the check value of a link
that does not wait. -/

namespace Sys2Proof.Machine

open Sys2Proof

/-- The state with another check value on a link. -/
def State.withCrc (s : State) (l : LinkId) (v : Byte) : State := s.modLink l fun k => { k with crc := v }

theorem Link.aside_crc (v : Byte) : Link.Aside fun k => { k with crc := v } := fun _ => ⟨rfl, fun _ _ => rfl⟩

/-- A link goes on not to wait for a segment through all that the Router does. -/
theorem routingKeeps_waitless (l : LinkId) : RoutingKeeps fun s => s.waits l = false where
  number _ h := h
  setFault _ h := h
  push _ _ h := h
  linkCounters _ _ h := h
  take _ _ h := h
  freeTake {s} g h := (State.LeftAlone.freeTake (k := s.link l) g ⟨h, rfl⟩).1
  stories _ h := h
  queue _ h := h

namespace State

variable {s : State} {l : LinkId} (v : Byte)

/-! ### What reads no check value at all -/

@[simp] theorem withCrc_take? (n : Nat) : (s.withCrc l v).take? n = s.take? n := rfl
@[simp] theorem withCrc_circuit (i : CircuitId) : (s.withCrc l v).circuit i = s.circuit i := rfl
@[simp] theorem withCrc_store : (s.withCrc l v).store = s.store := rfl
@[simp] theorem withCrc_waits (m : LinkId) : (s.withCrc l v).waits m = s.waits m := rfl

theorem withCrc_modCircuit (i : CircuitId) (f : Circuit → Circuit) :
    (s.withCrc l v).modCircuit i f = (s.modCircuit i f).withCrc l v := rfl

theorem withCrc_modTake (n : Nat) (f : Take → Take) : (s.withCrc l v).modTake n f = (s.modTake n f).withCrc l v := by
  rw [modTake, modTake, withCrc_take?]
  cases s.take? n <;> rfl

theorem waits_modTake (n : Nat) (f : Take → Take) : (s.modTake n f).waits l = s.waits l := by
  rw [waits, (CopyOnly.modTake s n f).waiting]
  rfl

theorem withCrc_recordFault (src : Fin 26) (code : FaultCode) :
    (s.withCrc l v).recordFault src code = (s.recordFault src code).withCrc l v :=
  recordFault_modLink (Link.aside_crc v) src code

theorem withCrc_modLink {f : Link → Link} (hf : ∀ k : Link, f { k with crc := v } = { f k with crc := v }) (m : LinkId) :
    (s.withCrc l v).modLink m f = (s.modLink m f).withCrc l v :=
  s.modLink_comm (f := fun k => { k with crc := v }) fun k => (hf k).symm

theorem withCrc_countLink (m : LinkId) (p : LinkPoint) (n : Nat) :
    (s.withCrc l v).countLink m p n = (s.countLink m p n).withCrc l v :=
  withCrc_modLink v (fun _ => rfl) m

theorem withCrc_mapLinks {f : Link → Link} (hf : ∀ k : Link, f { k with crc := v } = { f k with crc := v }) :
    ({ s.withCrc l v with links := (s.withCrc l v).links.map f } : State) =
      ({ s with links := s.links.map f } : State).withCrc l v := by
  have hlinks : (s.withCrc l v).links.map f = (({ s with links := s.links.map f } : State).withCrc l v).links := by
    have hset : (s.withCrc l v).links = s.links.set l { s.link l with crc := v } := rfl
    have hset' : (({ s with links := s.links.map f } : State).withCrc l v).links =
        (s.links.map f).set l { (({ s with links := s.links.map f } : State).link l) with crc := v } := rfl
    rw [hset, hset', Vector.map_set, hf]
    simp [link]
  exact congrArg (fun ks => ({ s with links := ks } : State)) hlinks

/-! ### Grants and returned segments -/

theorem withCrc_testLowEntry : (s.withCrc l v).testLowEntry = s.testLowEntry.withCrc l v := by
  unfold testLowEntry
  rw [withCrc_store]
  split
  · have hfault : ((s.withCrc l v).modStore fun st => { st with low := true }).recordFault storeSource .storeLow =
        ((s.modStore fun st => { st with low := true }).recordFault storeSource .storeLow).withCrc l v :=
      withCrc_recordFault (s := s.modStore fun st => { st with low := true }) v _ _
    rw [hfault]
    refine withCrc_mapLinks v fun k => ?_
    unfold Link.refreshHold Link.holdWanted
    split <;> rfl
  · rfl

theorem withCrc_testLowExit : (s.withCrc l v).testLowExit = s.testLowExit.withCrc l v := by
  unfold testLowExit
  rw [withCrc_store]
  split
  · refine withCrc_mapLinks (s := { s with store := { s.store with low := false } }) v fun k => ?_
    unfold Link.refreshHold Link.holdWanted
    dsimp only
    split <;> rfl
  · rfl

theorem withCrc_noteGrant : (s.withCrc l v).noteGrant = s.noteGrant.withCrc l v := by
  have hmod (u : State) (g : Store → Store) : (u.withCrc l v).modStore g = (u.modStore g).withCrc l v := rfl
  unfold noteGrant
  simp only [withCrc_store, hmod, withCrc_recordFault, ← apply_ite (State.withCrc · l v), withCrc_testLowEntry]

theorem withCrc_grantSegment (n : Nat) (b : Byte) :
    (s.withCrc l v).grantSegment n b = (s.grantSegment n b).withCrc l v := by
  unfold grantSegment
  rw [withCrc_take?]
  cases s.take? n with
  | none => rfl
  | some t => exact withCrc_noteGrant (s := s.putTake n (t.appendNew b)) v

theorem withCrc_grantWaiting {w : WaitingRequest} (hw : w.link ≠ l) :
    (s.withCrc l v).grantWaiting w = (s.grantWaiting w).withCrc l v := by
  have hlink : (s.withCrc l v).link w.link = s.link w.link := by rw [withCrc, modLink_link, if_neg hw]
  have hdrain : (((s.withCrc l v).withdraw w.link).modLink w.link (·.drainHead)) =
      ((s.withdraw w.link).modLink w.link (·.drainHead)).withCrc l v := by
    have hset : ((s.withCrc l v).withdraw w.link).modLink w.link (·.drainHead) =
        (s.withdraw w.link |>.withCrc l v).setLink w.link ((s.withCrc l v).link w.link).drainHead := rfl
    rw [hset, hlink, withCrc, modLink, withCrc, modLink, modLink, setLink_link_ne _ (Ne.symm hw), setLink_comm _ hw]
    rfl
  unfold grantWaiting
  rw [hlink, hdrain]
  split
  · exact withCrc_grantSegment v _ _
  · rfl

theorem withCrc_runArbiter (hw : s.waits l = false) : (s.withCrc l v).runArbiter = s.runArbiter.withCrc l v := by
  have hall (n : Nat) : arbitrate n (s.withCrc l v) = (arbitrate n s).withCrc l v := by
    induction n generalizing s with
    | zero => rfl
    | succ n ih =>
      unfold arbitrate
      rw [withCrc_store]
      cases hserved : s.store.nextServed with
      | none => rfl
      | some w =>
        have hkept : (s.grantWaiting w).LeftAlone (s.link l) l := LeftAlone.grantWaiting hserved ⟨hw, rfl⟩
        have hne : w.link ≠ l := by
          rintro rfl
          simp only [waits, List.any_eq_false, beq_iff_eq] at hw
          exact hw w (Store.nextServed_mem hserved).1 rfl
        simp only [withCrc_grantWaiting v hne]
        exact ih hkept.1
  exact hall _

theorem withCrc_freeTake (hw : s.waits l = false) (n : Nat) : (s.withCrc l v).freeTake n = (s.freeTake n).withCrc l v := by
  unfold freeTake
  rw [withCrc_take?]
  cases s.take? n with
  | none => rfl
  | some t =>
    have hreturn (u : State) (hu : u.waits l = false) (m : Nat) :
        (u.withCrc l v).returnSegments m = (u.returnSegments m).withCrc l v := by
      unfold returnSegments
      split
      · rfl
      · have hmod (g : Store → Store) : (u.withCrc l v).modStore g = (u.modStore g).withCrc l v := rfl
        rw [hmod, withCrc_testLowExit, withCrc_runArbiter]
        simpa [waits] using hu
    exact hreturn (s.modStore fun st => { st with takes := Takes.erase st.takes n }) hw _

/-! ### The Router -/

theorem withCrc_foldl {α : Type} {f : State → α → State}
    (hf : ∀ (u : State) (x : α), u.waits l = false → f (u.withCrc l v) x = (f u x).withCrc l v)
    (hk : ∀ (u : State) (x : α), u.waits l = false → (f u x).waits l = false) (hw : s.waits l = false) (xs : List α) :
    xs.foldl f (s.withCrc l v) = (xs.foldl f s).withCrc l v := by
  induction xs generalizing s with
  | nil => rfl
  | cons x xs ih => rw [List.foldl_cons, List.foldl_cons, hf s x hw, ih (hk s x hw)]

theorem withCrc_dropRef (hw : s.waits l = false) (n : Nat) : (s.withCrc l v).dropRef n = (s.dropRef n).withCrc l v := by
  have hreport (t : Take) : (s.withCrc l v).reportRelease t = (s.reportRelease t).withCrc l v := by
    unfold reportRelease
    split <;> rfl
  unfold dropRef
  rw [withCrc_take?]
  cases s.take? n with
  | none => rfl
  | some t =>
    dsimp only
    split
    · rw [hreport]
      exact withCrc_freeTake v ((routingKeeps_waitless l).reportRelease t hw) n
    · rfl

theorem withCrc_dropRefs (hw : s.waits l = false) (es : List Entry) :
    (s.withCrc l v).dropRefs es = (s.dropRefs es).withCrc l v :=
  withCrc_foldl (f := fun (u : State) (e : Entry) => u.dropRef e.handle) v (fun _ e hu => withCrc_dropRef v hu e.handle)
    (fun _ e => (routingKeeps_waitless l).dropRef e.handle) hw es

theorem withCrc_removeAt (hw : s.waits l = false) (i : CircuitId) (n : Nat) :
    (s.withCrc l v).removeAt i n = (s.removeAt i n).withCrc l v := by
  unfold removeAt
  rw [withCrc_circuit]
  cases (s.circuit i).queue[n]? with
  | none => rfl
  | some e =>
    dsimp only
    rw [withCrc_modCircuit]
    exact withCrc_dropRef v (by exact hw) e.handle

theorem withCrc_offerBreakIn (i : CircuitId) (p : Priority) :
    (s.withCrc l v).offerBreakIn i p = (s.offerBreakIn i p).withCrc l v := by
  unfold offerBreakIn
  rw [withCrc_circuit]
  cases (s.circuit i).flight with
  | none => rfl
  | some f =>
    simp only [withCrc_take?]
    cases s.take? f.entry.handle with
    | none => rfl
    | some t =>
      dsimp only
      rw [apply_ite (State.withCrc · l v)]
      rfl

theorem withCrc_place (i : CircuitId) (n : Nat) (t : Take) (p : Priority) :
    (s.withCrc l v).place i n t p = (s.place i n t p).withCrc l v := by
  unfold place addRef
  simp only [withCrc_circuit, withCrc_modCircuit, withCrc_modTake, withCrc_offerBreakIn]

theorem withCrc_insert (hw : s.waits l = false) (i : CircuitId) (n : Nat) (p : Priority) :
    (s.withCrc l v).insert i n p = (s.insert i n p).withCrc l v := by
  have hfull : (s.withCrc l v).full i = s.full i := rfl
  have hcount (u : State) (q : CircuitPoint) : (u.withCrc l v).countCircuit i q 1 = (u.countCircuit i q 1).withCrc l v := rfl
  unfold insert
  rw [withCrc_take?, withCrc_circuit, hfull]
  cases s.take? n with
  | none => rfl
  | some t =>
    dsimp only
    split
    · rfl
    · split
      · exact withCrc_place v i n t p
      · split
        · rfl
        · cases displacedAt (s.circuit i).queue p with
          | none => rfl
          | some m => simp only [withCrc_removeAt v hw, hcount, withCrc_place]

theorem withCrc_insertAll (hw : s.waits l = false) (n : Nat) (p : Priority) (is : List CircuitId) :
    (s.withCrc l v).insertAll n p is = (s.insertAll n p is).withCrc l v :=
  withCrc_foldl v (fun _ i hu => withCrc_insert v hu i n p) (fun _ i => (routingKeeps_waitless l).insert i n p) hw is

theorem withCrc_replaceAt (hw : s.waits l = false) (i : CircuitId) (m n : Nat) (t : Take) :
    (s.withCrc l v).replaceAt i m n t = (s.replaceAt i m n t).withCrc l v := by
  unfold replaceAt
  rw [withCrc_circuit]
  cases (s.circuit i).queue[m]? with
  | none => rfl
  | some e =>
    simp only [withCrc_modCircuit, addRef, withCrc_modTake]
    exact withCrc_dropRef v ((waits_modTake n _).trans (by exact hw)) e.handle

theorem withCrc_correctOn (hw : s.waits l = false) (n : Nat) (t : Take) (p : Priority) (i : CircuitId) :
    (s.withCrc l v).correctOn n t p i = (s.correctOn n t p i).withCrc l v := by
  have hmatch : (s.withCrc l v).matchesCorrection t = s.matchesCorrection t := rfl
  have hkeeps := routingKeeps_waitless l
  unfold correctOn
  rw [withCrc_circuit, hmatch]
  cases (s.circuit i).queue.findIdx? (s.matchesCorrection t) with
  | none => rfl
  | some m =>
    have hbehind : (s.withCrc l v).removeBehind i m (s.matchesCorrection t) =
        (s.removeBehind i m (s.matchesCorrection t)).withCrc l v := by
      unfold removeBehind
      rw [withCrc_modCircuit, withCrc_circuit]
      exact withCrc_dropRefs v (by exact hw) _
    have hwb := hkeeps.removeBehind i m (s.matchesCorrection t) hw
    simp only [hbehind]
    split
    · exact withCrc_replaceAt v hwb i m n t
    · rw [withCrc_removeAt v hwb, withCrc_insert v (hkeeps.removeAt i m hwb)]

theorem withCrc_correct (hw : s.waits l = false) (n : Nat) (t : Take) (p : Priority) (set : CircuitSet) :
    (s.withCrc l v).correct n t p set = (s.correct n t p set).withCrc l v := by
  have hmatched : (s.withCrc l v).matched t = s.matched t := rfl
  have hopen : (s.withCrc l v).openMembers set = s.openMembers set := rfl
  have hkeeps := routingKeeps_waitless l
  unfold correct
  rw [hmatched, hopen, withCrc_foldl v (fun _ i hu => withCrc_correctOn v hu n t p i) (fun _ i => hkeeps.correctOn n t p i) hw,
    withCrc_insertAll]
  exact List.foldlRecOn (motive := fun u : State => u.waits l = false) _ _ hw fun _ hu i _ => hkeeps.correctOn n t p i hu

theorem withCrc_cutStory (k : StoryKey) : (s.withCrc l v).cutStory k = (s.cutStory k).withCrc l v := by
  unfold cutStory
  have hsame : (s.withCrc l v).inFlightOf k = s.inFlightOf k := rfl
  rw [hsame]
  clear hsame
  generalize s.inFlightOf k = is
  induction is generalizing s with
  | nil => rfl
  | cons i is ih =>
    rw [List.foldl_cons, List.foldl_cons, ← ih]
    refine congrArg (fun u : State => is.foldl _ u) ?_
    rw [withCrc_circuit]
    cases (s.circuit i).flight with
    | none => rfl
    | some f =>
      have hcut : (s.withCrc l v).cutOrder i f.entry.handle = (s.cutOrder i f.entry.handle).withCrc l v := by
        rw [cutOrder_eq, cutOrder_eq]
        rfl
      dsimp only
      rw [hcut]
      rfl

theorem withCrc_purge (hw : s.waits l = false) (k : StoryKey) : (s.withCrc l v).purge k = (s.purge k).withCrc l v :=
  withCrc_foldl (f := fun u i => u.removeEntries i fun e => u.ofStory k e.handle) v
    (fun u i hu => by
      rw [removeEntries_eq, removeEntries_eq]
      exact withCrc_dropRefs (s := u.setCircuit i _) v hu _)
    (fun _ i => (routingKeeps_waitless l).removeEntries i _) hw _

theorem withCrc_handleKill (hw : s.waits l = false) (n : Nat) (t : Take) (p : Priority) (set : CircuitSet) (c : StoryCase) :
    (s.withCrc l v).handleKill n t p set c = (s.handleKill n t p set c).withCrc l v := by
  have hkeeps := routingKeeps_waitless l
  have hmod (u : State) (k : StoryKey) (f : Story → Story) :
      (u.withCrc l v).modStory k f = (u.modStory k f).withCrc l v := rfl
  have hkill (u : State) (hu : u.waits l = false) (q : Priority) (k : StoryKey) :
      (u.withCrc l v).queueKill n q k = (u.queueKill n q k).withCrc l v := withCrc_insertAll v hu n q _
  have hfan (u : State) (hu : u.waits l = false) (q : Priority) :
      (u.withCrc l v).fanOut n q set = (u.fanOut n q set).withCrc l v := withCrc_insertAll v hu n q _
  unfold handleKill
  cases c with
  | active =>
    have hcut := hkeeps.cutStory t.key (hkeeps.purge t.key hw)
    simp only [withCrc_purge v hw, withCrc_cutStory, withCrc_modTake, hkill _ ((waits_modTake n _).trans hcut), hmod]
  | killed =>
    simp only [withCrc_modTake, hkill _ ((waits_modTake n _).trans hw)]
  | fresh | unindexed =>
    simp only [withCrc_modTake, hfan _ ((waits_modTake n _).trans hw)]

theorem withCrc_disposition (hw : s.waits l = false) (n : Nat) (t : Take) (p : Priority) (set : CircuitSet) (c : StoryCase) :
    (s.withCrc l v).disposition n t p set c = (s.disposition n t p set c).withCrc l v := by
  unfold disposition
  cases t.disp with
  | normal =>
    dsimp only
    split
    · rfl
    · exact withCrc_insertAll v hw n p _
  | correction =>
    dsimp only
    split
    · rfl
    · exact withCrc_correct v hw n t p set
  | kill => exact withCrc_handleKill v hw n t p set c

theorem withCrc_indexStory (n : Nat) (t : Take) :
    (s.withCrc l v).indexStory n t = ((s.indexStory n t).1.withCrc l v, (s.indexStory n t).2) := by
  have hstory : (s.withCrc l v).story? t.key = s.story? t.key := rfl
  have hstories : (s.withCrc l v).stories = s.stories := rfl
  have htouch (e : Story) : (s.withCrc l v).touchStory e = (s.touchStory e).withCrc l v := rfl
  have hset (es : List Story) : ({ s.withCrc l v with stories := es } : State) = ({ s with stories := es } : State).withCrc l v :=
    rfl
  unfold indexStory
  rw [hstory, hstories]
  cases s.story? t.key with
  | some e => simp only [htouch, withCrc_modTake]
  | none =>
    dsimp only
    split <;> simp only [hset, withCrc_modTake]

theorem withCrc_endRouting (hw : s.waits l = false) (n : Nat) (afterKill : Bool) :
    (s.withCrc l v).endRouting n afterKill = (s.endRouting n afterKill).withCrc l v := by
  unfold endRouting
  rw [withCrc_take?]
  cases s.take? n with
  | none => rfl
  | some t =>
    dsimp only
    split
    · rw [withCrc_freeTake v hw, withCrc_countLink]
    · split <;> rfl

theorem withCrc_route (hw : s.waits l = false) (n : Nat) : (s.withCrc l v).route n = (s.route n).withCrc l v := by
  have hkeeps := routingKeeps_waitless l
  have hlookup (m : LinkId) (c : Fin 27) : (s.withCrc l v).lookup m c = s.lookup m c := rfl
  unfold route
  rw [withCrc_take?]
  cases s.take? n with
  | none => rfl
  | some t =>
    have hindexed (f : Take → Take) := hkeeps.indexStory (s := s.modTake n f) n t ((waits_modTake n f).trans hw)
    simp only [hlookup, withCrc_modTake, withCrc_indexStory]
    rw [withCrc_disposition v (hindexed _), withCrc_endRouting v (hkeeps.disposition n t _ _ _ (hindexed _))]

/-! ### Acceptance (R13, R16) -/

theorem withCrc_trackSerial (m : LinkId) (serial : Nat) :
    (s.withCrc l v).trackSerial m serial = (s.trackSerial m serial).withCrc l v := by
  have hexpected : ((s.withCrc l v).link m).expected = (s.link m).expected := by
    rw [withCrc, modLink_link]
    split <;> rfl
  have htest : (s.withCrc l v).testSerial m serial = (s.testSerial m serial).withCrc l v := by
    unfold testSerial
    rw [hexpected]
    cases (s.link m).expected with
    | none => rfl
    | some e =>
      dsimp only
      rw [withCrc_recordFault, withCrc_recordFault, withCrc_countLink]
      split
      · rfl
      · split <;> rfl
  rw [trackSerial, trackSerial, htest, withCrc_modLink]
  exact fun _ => rfl

theorem waits_trackSerial (m : LinkId) (serial : Nat) : (s.trackSerial m serial).waits l = s.waits l := by
  have htest : (s.testSerial m serial).store = s.store := by
    unfold testSerial
    split
    · rfl
    · split
      · rfl
      · rw [apply_ite State.store, countLink, modLink_store, recordFault_store, recordFault_store, ite_self]
  rw [waits, trackSerial, modLink_store, htest]
  rfl

theorem withCrc_accept (hw : s.waits l = false) (m : LinkId) (n : Nat) :
    (s.withCrc l v).accept m n = (s.accept m n).withCrc l v := by
  unfold accept
  rw [withCrc_take?]
  cases s.take? n with
  | none => rfl
  | some t =>
    have hstamp : (s.withCrc l v).stampReady n = (s.stampReady n).withCrc l v := withCrc_modTake v n _
    have hwaits : (((s.stampReady n).trackSerial m t.serial).countLink m .takesAccepted 1).waits l = false := by
      have hstamped : (s.stampReady n).waits l = false := (waits_modTake n _).trans hw
      exact (waits_trackSerial m t.serial).trans hstamped
    dsimp only
    rw [hstamp, withCrc_trackSerial, withCrc_countLink, withCrc_route v hwaits]

end State

end Sys2Proof.Machine
end


-- ==== sitting 4: a failed check, and BEGIN where it is misplaced (R12, R14, R17) ====
section
/-! The check byte that disagrees, and the frame that a BEGIN ends. -/

namespace Sys2Proof.Machine

open Sys2Proof

namespace State

variable {s : State} {l : LinkId} {hd : Nat}

theorem withdraw_of_waitless (hw : s.waits l = false) : s.withdraw l = s := by
  have hfilter : s.store.waiting.filter (·.link != l) = s.store.waiting :=
    List.filter_eq_self.2 fun w hmem => by
      simp only [waits, List.any_eq_false] at hw
      simpa using hw w hmem
  rw [withdraw, modStore, Store.withdraw, hfilter]

theorem waits_recordFault_setRx (src : Fin 26) (code : FaultCode) (r : Rx) :
    ((s.recordFault src code).setRx l r).waits l = s.waits l := s.recordFault_waits src code l

/-! ### BEGIN in a copy frame (R17) -/

theorem misplacedBegin_copy (hx : (∃ closed, (s.link l).rx = .text hd closed) ∨ (s.link l).rx = .checkCopy hd) :
    s.misplacedBegin l = (((s.recordFault (linkSource l) .abandoned).setRx l .idle).endCopy l hd).beginFrame l := by
  rw [misplacedBegin, abandonFrame]
  rcases hx with ⟨closed, hx⟩ | hx <;> simp only [hx]

theorem misplacedBegin_service {r : Request} (hx : (s.link l).rx = .checkService r) :
    s.misplacedBegin l = ((s.recordFault (linkSource l) .abandoned).setRx l .idle).beginFrame l := by
  rw [misplacedBegin, abandonFrame]
  simp only [hx]

theorem withCrc_endCopy (v : Byte) (hw : s.waits l = false) :
    (s.withCrc l v).endCopy l hd = (s.endCopy l hd).withCrc l v := by
  have hpolicy : ((s.withCrc l v).link l).profile.policy = (s.link l).profile.policy := by
    rw [withCrc, modLink_link_self]
  cases hp : (s.link l).profile.policy with
  | mark =>
    rw [endCopy_mark hp, endCopy_mark (hpolicy.trans hp), withdraw_of_waitless hw,
      withdraw_of_waitless ((withCrc_waits v l).trans hw), withCrc_modTake, withCrc_accept v ((waits_modTake hd _).trans hw)]
  | discard =>
    rw [endCopy_discard hp, endCopy_discard (hpolicy.trans hp), withdraw_of_waitless hw,
      withdraw_of_waitless ((withCrc_waits v l).trans hw), withCrc_freeTake v hw]

/-- The check value that a misplaced BEGIN leaves is not looked at. -/
theorem withCrc_misplacedBegin (v : Byte) (hw : s.waits l = false)
    (hx : (∃ closed, (s.link l).rx = .text hd closed) ∨ (s.link l).rx = .checkCopy hd) :
    (s.withCrc l v).misplacedBegin l = s.misplacedBegin l := by
  have hrx : ((s.withCrc l v).link l).rx = (s.link l).rx := by rw [withCrc, modLink_link_self]
  have hidle (u : State) : (u.withCrc l v).setRx l .idle = (u.setRx l .idle).withCrc l v := withCrc_modLink v (fun _ => rfl) l
  rw [misplacedBegin_copy hx, misplacedBegin_copy (by rw [hrx]; exact hx), withCrc_recordFault, hidle,
    withCrc_endCopy v ((waits_recordFault_setRx _ _ _).trans hw)]
  exact modLink_modLink ..

/-- BEGIN in TEXT or in place of a check byte that disagrees. -/
theorem received_drainByte_begin (hf : (s.link l).fifo = []) (hw : s.waits l = false)
    (hx : (∃ closed, (s.link l).rx = .text hd closed) ∨ ((s.link l).rx = .checkCopy hd ∧ byteBegin ≠ (s.link l).crc)) :
    (s.received l byteBegin).drainByte l byteBegin = (s.setLink l (s.link l).stirred).misplacedBegin l := by
  rcases hx with ⟨closed, hx⟩ | ⟨hx, hcrc⟩
  · have hcovered : s.setLink l ((s.link l).covered byteBegin) =
        (s.setLink l (s.link l).stirred).withCrc l ((s.link l).covered byteBegin).crc := by
      rw [withCrc, setLink_modLink]
    rw [received_drainByte_text hx, textByte, if_pos rfl, received_pop hf, hcovered]
    exact withCrc_misplacedBegin _ hw (.inl ⟨closed, by rw [setLink_link_self]; exact hx⟩)
  · rw [received_drainByte_checkCopy hf hx, checkCopyByte, if_neg (by rw [setLink_link_self]; exact hcrc), if_pos rfl]

theorem received_drainByte_checkServiceByte {r : Request} (hf : (s.link l).fifo = []) (hx : (s.link l).rx = .checkService r)
    (b : Byte) : (s.received l b).drainByte l b = (s.setLink l (s.link l).stirred).checkServiceByte l r b := by
  have hrx : ((s.received l b).link l).rx = .checkService r := by simp [hx]
  unfold drainByte
  simp only [hrx]
  rw [received_popUncovered hf]

/-! ### The fate of a take (R12, R36) -/

theorem checkCopyByte_mark {b : Byte} (hb : b ≠ (s.link l).crc) (hbegin : b ≠ byteBegin)
    (hp : (s.link l).profile.policy = .mark) : s.checkCopyByte l hd b =
      ((((s.recordFault (linkSource l) .check).countLink l .checkFailures 1).setRx l .idle).modTake hd fun t =>
        { t with suspect := true }).accept l hd := by
  unfold checkCopyByte
  rw [if_neg hb, if_neg hbegin, hp]

theorem checkCopyByte_discard {b : Byte} (hb : b ≠ (s.link l).crc) (hbegin : b ≠ byteBegin)
    (hp : (s.link l).profile.policy = .discard) : s.checkCopyByte l hd b =
      (((s.recordFault (linkSource l) .check).countLink l .checkFailures 1).setRx l .idle).discard l hd := by
  unfold checkCopyByte
  rw [if_neg hb, if_neg hbegin, hp]

/-- A take discarded in a quiet store, its link waiting for nothing. -/
theorem discard_quiet {t : Take} (hq : s.Quiet) (ht : s.take? hd = some t) : s.discard l hd = s.modStore fun st =>
    { st with takes := Takes.erase st.takes hd, free := st.free + t.chain.length } := by
  have hw : s.waits l = false := by
    rw [waits, hq.waiting]
    rfl
  rw [discard, withdraw_of_waitless hw, freeTake_quiet ht hq.waiting hq.low]

end State

/-- Settles O13: the check byte of a service frame, that of a copy frame, and BEGIN. -/
theorem checksFailAndFramesAbandoned : Obligations.ChecksFailAndFramesAbandoned := by
  unfold Obligations.ChecksFailAndFramesAbandoned
  intro s l b hr hs hw k heard failed ended begun accepted dropped
  have hf := hs.fifo hw
  have hheard : heard.link l = k.stirred := s.setLink_link_self l _
  have hheardSet : heard.settled := State.setLink_settled hs (.inl hf)
  have hendedSame : heard.SameWaits ended := ((State.SameWaits.refl heard).recordFault l .abandoned).setRx l _
  have hfailedSame : heard.SameWaits failed :=
    (((State.SameWaits.refl heard).recordFault l .check).countLink l _ _).setRx l _
  have hset (u : State) (hsame : heard.SameWaits u) : u.settled := hheardSet.of_sameWaits hsame
  refine ⟨fun r hx hb => ⟨fun hbegin => ?_, fun hbegin => ?_⟩, fun hd t hx ht hb hbegin => ?_, fun hd t hx ht hbegin => ?_⟩
  · refine exec_byteArrives_of_settled hr hs hw (by rw [hx]; nofun) ?_ (hset _ hfailedSame)
    rw [State.received_drainByte_checkServiceByte hf hx, State.checkServiceByte, if_neg (by rw [hheard]; exact hb),
      if_neg hbegin]
    rfl
  · subst hbegin
    refine exec_byteArrives_of_settled hr hs hw (by rw [hx]; nofun) ?_
      (hset _ (State.modLink_sameWaits (fun _ => rfl) hendedSame))
    rw [State.received_drainByte_checkServiceByte hf hx, State.checkServiceByte, if_neg (by rw [hheard]; exact hb),
      if_pos rfl]
    exact State.misplacedBegin_service (by rw [hheard]; exact hx)
  · have htake : failed.take? hd = some t := (State.recordFault_take? heard _ _ hd).trans ht
    have hb' : b ≠ (heard.link l).crc := by
      rw [hheard]
      exact hb
    have hdrain : (s.received l b).drainByte l b = heard.checkCopyByte l hd b :=
      State.received_drainByte_checkCopy hf hx b
    have hpolicy : (heard.link l).profile.policy = k.profile.policy := by
      rw [hheard]
    refine ⟨fun hp => ?_, fun hp hwaiting hlow => ?_⟩
    · have hfate : heard.checkCopyByte l hd b = accepted failed hd { t with suspect := true } := by
        rw [State.checkCopyByte_mark hb' hbegin (hpolicy.trans hp)]
        refine (State.modTake_accept htake _ rfl).trans ?_
        have hms : failed.ms = s.ms := State.recordFault_ms heard _ _
        have hclock : failed.clock = s.clock := State.recordFault_clock heard _ _
        rw [hms, hclock]
      rw [exec_byteArrives hr hs hw (by rw [hx]; nofun), hdrain, hfate]
    · have hq : failed.Quiet :=
        ⟨(congrArg Store.waiting (State.recordFault_store heard _ _)).trans hwaiting,
          (congrArg Store.low (State.recordFault_store heard _ _)).trans hlow⟩
      refine exec_byteArrives_of_settled hr hs hw (by rw [hx]; nofun) ?_ (u := dropped failed hd t) ?_
      · rw [hdrain, State.checkCopyByte_discard hb' hbegin (hpolicy.trans hp)]
        exact State.discard_quiet hq htake
      · exact hset _ hfailedSame
  · subst hbegin
    have htake : ended.take? hd = some t := (State.recordFault_take? heard _ _ hd).trans ht
    have hon : (s.link l).rx ≠ .disabled := by
      rcases hx with ⟨closed, hx⟩ | ⟨hx, -⟩ <;> rw [hx] <;> nofun
    have hcopy : (∃ closed, (heard.link l).rx = .text hd closed) ∨ (heard.link l).rx = .checkCopy hd := by
      rw [hheard]
      exact hx.imp id (·.1)
    have hdrain : (s.received l byteBegin).drainByte l byteBegin = begun (ended.endCopy l hd) :=
      (State.received_drainByte_begin hf hw hx).trans (State.misplacedBegin_copy hcopy)
    have hpolicy : (ended.link l).profile.policy = k.profile.policy := by
      obtain ⟨rs, rate, h⟩ := heard.recordFault_link (linkSource l) .abandoned l
      rw [State.modLink_link_self, h, hheard]
    refine ⟨fun hp => ?_, fun hp hwaiting hlow => ?_⟩
    · have hwaits : ended.waits l = false := (State.recordFault_waits heard _ _ l).trans hw
      have hfate : ended.endCopy l hd = accepted ended hd { t with truncated := true, suspect := true } := by
        rw [State.endCopy_mark (hpolicy.trans hp), State.withdraw_of_waitless hwaits]
        refine (State.modTake_accept htake _ rfl).trans ?_
        have hms : ended.ms = s.ms := State.recordFault_ms heard _ _
        have hclock : ended.clock = s.clock := State.recordFault_clock heard _ _
        rw [hms, hclock]
      rw [exec_byteArrives hr hs hw hon, hdrain, hfate]
    · have hq : ended.Quiet :=
        ⟨(congrArg Store.waiting (State.recordFault_store heard _ _)).trans hwaiting,
          (congrArg Store.low (State.recordFault_store heard _ _)).trans hlow⟩
      refine exec_byteArrives_of_settled hr hs hw hon ?_ (hset (begun (dropped ended hd t))
        (State.modLink_sameWaits (fun _ => rfl) ⟨hendedSame.1, hendedSame.2⟩))
      rw [hdrain]
      exact congrArg begun ((State.endCopy_discard (hpolicy.trans hp)).trans (State.discard_quiet hq htake))

end Sys2Proof.Machine
end


-- ==== sitting 4: the Router on new copy, and the purge of a story (R42 to R50, R56, R57) ====
section
/-! Lookup, the adjusted priority, the route of a take of a story not yet indexed; and what a purge and the cut orders of a
kill do to the circuits. -/

namespace Sys2Proof.Machine

open Sys2Proof

/-! ### Lookup and priority (R44, R45) -/

theorem Priority.num_ofNum (n : Nat) : (Priority.ofNum n).num = max 1 (min 5 n) := by
  unfold Priority.ofNum
  split
  · simp only [num]; omega
  · split
    · simp only [num]; omega
    · split
      · simp only [num]; omega
      · split <;> simp only [num] <;> omega

theorem num_adjustedPriority (p : Priority) (a : Int) : ((adjustedPriority p a).num : Int) =
    if p = .flash then max 1 (min 5 (1 + a)) else max 2 (min 5 (p.num + a)) := by
  unfold adjustedPriority
  split
  · next h =>
    subst h
    rw [Priority.num_ofNum, Priority.num]
    omega
  · rw [Priority.num_ofNum]
    omega

/-! ### The directory -/

theorem Takes.erase_put (ts : List (Nat × Take)) (n : Nat) (t : Take) : Takes.erase (Takes.put ts n t) n = Takes.erase ts n := by
  induction ts with
  | nil => simp [Takes.put, Takes.erase]
  | cons e ts ih =>
    obtain ⟨k, u⟩ := e
    unfold Takes.put
    split
    · simp [Takes.erase]
    · split
      · next h =>
        subst h
        simp [Takes.erase]
      · simp only [Takes.erase, List.filter_cons] at ih ⊢
        rw [ih]

/-! ### Circuits of a set -/

theorem allCircuits_filter_unique {p : CircuitId → Bool} {i : CircuitId} (h : ∀ j, p j = true ↔ j = i) :
    allCircuits.filter p = [i] := by
  have hp : p = (· == i) := funext fun j => Bool.eq_iff_iff.2 ((h j).trans beq_iff_eq.symm)
  rw [hp, List.filter_beq, List.count_eq_one_of_mem allCircuits_nodup (allCircuits_mem i)]
  rfl

theorem allCircuits_filter_empty {p : CircuitId → Bool} (h : ∀ j, ¬p j = true) : allCircuits.filter p = [] :=
  List.filter_eq_nil_iff.2 fun j _ => h j

theorem State.openMembers_eq (s : State) (set : CircuitSet) :
    s.openMembers set = allCircuits.filter fun i => (s.circuit i).active.accepting && set.getLsbD i.val := by
  rw [openMembers, CircuitSet.members, List.filter_filter]
  rfl

/-! ### The story index (R47 to R49) -/

theorem State.story?_absent {s : State} {k : StoryKey} (h : s.story? k = none) (f : Story → Story) :
    s.stories.map (fun e => if e.key = k then f e else e) = s.stories := by
  refine (List.map_congr_left fun e he => ?_).trans (List.map_id _)
  have hne : ¬e.key = k := by simpa using List.find?_eq_none.1 h e he
  rw [if_neg hne, id]

theorem State.indexStory_fresh {s : State} {n : Nat} {t u : Take} (hu : s.take? n = some u) (h : s.story? t.key = none)
    (hlen : s.stories.length < 256) : s.indexStory n t =
      (({ s with stories := t.newStory :: s.stories } : State).putTake n { u with story := some t.key }, .fresh) := by
  have hroom : s.stories.length < Config.storyEntries := hlen
  simp only [indexStory, h, hroom, if_true]
  exact congrArg (·, StoryCase.fresh)
    (modTake_of_take (s := { s with stories := t.newStory :: s.stories }) hu fun u => { u with story := some t.key })

/-- The adjusted priority with which a take is routed (R45). -/
def State.routePriority (s : State) (t : Take) : Priority :=
  adjustedPriority t.prio (((s.lookup t.link t.category).map (·.adjust)).getD 0)

/-- The circuits that a take is routed to (R44). -/
def State.routeSet (s : State) (t : Take) : CircuitSet := ((s.lookup t.link t.category).map (·.circuits)).getD 0

/-- A take record as it is while its disposition is handled (R45, R48). -/
def Take.indexed (t : Take) (p : Priority) : Take := { t with adjusted := some p, story := some t.key }

section
variable {s : State} {n : Nat} {t : Take}

theorem State.route_eq (ht : s.take? n = some t) : s.route n =
    ((((s.putTake n { t with adjusted := some (s.routePriority t) }).indexStory n t).1.disposition n t (s.routePriority t)
      (s.routeSet t) ((s.putTake n { t with adjusted := some (s.routePriority t) }).indexStory n t).2).endRouting n
        (discardedAfterKill t.disp ((s.putTake n { t with adjusted := some (s.routePriority t) }).indexStory n t).2)) := by
  simp only [route, ht, modTake_of_take ht]
  rfl

/-- The route of a take of a story not yet indexed, up to the disposition (R42, R48). -/
theorem State.route_fresh (ht : s.take? n = some t) (h : s.story? t.key = none) (hlen : s.stories.length < 256) :
    s.route n = ((({ s with stories := t.newStory :: s.stories } : State).putTake n (t.indexed (s.routePriority t))).disposition
      n t (s.routePriority t) (s.routeSet t) .fresh).endRouting n false := by
  have hindex := indexStory_fresh (s := s.putTake n { t with adjusted := some (s.routePriority t) }) (n := n) (t := t)
    (take?_putTake_self ..) (by exact h) (by exact hlen)
  have hput : ({ s.putTake n { t with adjusted := some (s.routePriority t) } with
        stories := t.newStory :: s.stories } : State).putTake n (t.indexed (s.routePriority t)) =
      ({ s with stories := t.newStory :: s.stories } : State).putTake n (t.indexed (s.routePriority t)) :=
    putTake_putTake ({ s with stories := t.newStory :: s.stories } : State) n _ _
  have hkill : discardedAfterKill t.disp .fresh = false := Bool.and_false _
  rw [route_eq ht, hindex, hkill]
  exact congrArg (fun u : State => (u.disposition n t _ _ .fresh).endRouting n false) hput

/-- A take that has no reference at the end of its routing, in a quiet store. -/
theorem State.endRouting_unrouted (hq : s.Quiet) (ht : s.take? n = some t) (hr : t.refs = 0) (afterKill : Bool) :
    s.endRouting n afterKill = (s.modStore fun st =>
      { st with takes := Takes.erase st.takes n, free := st.free + t.chain.length }).countLink t.link
        (if afterKill then .afterKill else .unrouted) 1 := by
  simp only [endRouting, ht, hr, if_true]
  rw [freeTake_quiet ht hq.waiting hq.low]

theorem State.endRouting_routed (ht : s.take? n = some t) (hr : 0 < t.refs) (hs : t.story = some t.key) (afterKill : Bool) :
    s.endRouting n afterKill = s.modStory t.key fun e => { e with queued := e.queued + 1 } := by
  simp only [endRouting, ht, if_neg (Nat.ne_of_gt hr), hs]

/-- A new take that goes to one circuit alone. -/
theorem State.fanOut_one {set : CircuitSet} {i : CircuitId} {p : Priority}
    (hset : ∀ j : CircuitId, (set.getLsbD j.val = true ∧ (s.circuit j).active.accepting = true) ↔ j = i)
    (ht : s.take? n = some t) (hshed : (s.circuit i).sheds p = false) (hfull : s.full i = false)
    (hf : (s.circuit i).flight = none) : s.fanOut n p set =
      (s.setCircuit i ((s.circuit i).entered ((s.circuit i).entryOf n t p))).putTake n { t with refs := t.refs + 1 } := by
  have hone : s.openMembers set = [i] := by
    rw [openMembers_eq]
    exact allCircuits_filter_unique fun j => by rw [Bool.and_eq_true, and_comm]; exact hset j
  rw [fanOut, hone]
  exact (insert_placed ht hshed hfull).trans (place_idle ht hf t)

theorem State.fanOut_none {set : CircuitSet} {p : Priority}
    (hset : ∀ j : CircuitId, ¬(set.getLsbD j.val = true ∧ (s.circuit j).active.accepting = true)) : s.fanOut n p set = s := by
  have hnone : s.openMembers set = [] := by
    rw [openMembers_eq]
    exact allCircuits_filter_empty fun j => by rw [Bool.and_eq_true, and_comm]; exact hset j
  rw [fanOut, hnone]
  rfl

end

/-! ### A take of one circuit (R46, R59) -/

/-- A take of a new story that reaches one circuit, indexed and placed (R46, R48, R50). -/
theorem State.endRouting_one {s : State} {n : Nat} {t : Take} {i : CircuitId} {p q : Priority} (hnone : s.story? t.key = none)
    (hr : t.refs = 0) (c : Circuit) (afterKill : Bool) :
    ((({ s with stories := t.newStory :: s.stories } : State).setCircuit i c).putTake n
      { t.indexed q with adjusted := some p, refs := t.refs + 1 }).endRouting n afterKill =
    (({ s with stories := { t.newStory with queued := 1 } :: s.stories } : State).setCircuit i c).putTake n
      { t with adjusted := some p, story := some t.key, refs := 1 } := by
  let u : Take := { t.indexed q with adjusted := some p, refs := t.refs + 1 }
  have hu : ((({ s with stories := t.newStory :: s.stories } : State).setCircuit i c).putTake n u).take? n = some u :=
    take?_putTake_self ..
  rw [endRouting_routed hu (Nat.succ_pos _) rfl]
  have hstories : (t.newStory :: s.stories).map (fun e => if e.key = t.key then { e with queued := e.queued + 1 } else e) =
      { t.newStory with queued := 1 } :: s.stories := by
    rw [List.map_cons, story?_absent hnone]
    exact congrArg (· :: s.stories) (if_pos rfl)
  have hrefs : u = { t with adjusted := some p, story := some t.key, refs := 1 } := by
    simp only [u, hr]
    rfl
  rw [← hstories, ← hrefs]
  rfl

end Sys2Proof.Machine
end


-- ==== sitting 4: the purge of a story, and its cut orders (R56, R57) ====
section
/-! A purge looks up the take of each entry while it removes entries. Where the records count their references, a take with
an entry or a flight left is still listed with the same name, so the purge removes what it would have removed at once. -/

namespace Sys2Proof.Machine

open Sys2Proof

/-! ### What freeing a record leaves of the others (R31, R36) -/

/-- What a granted segment leaves of a take record: its references and its story. -/
def Take.standing (t : Take) : Nat × StoryKey := (t.refs, t.key)

/-- Every listed take stands as it did. -/
def State.StandsAs (s t : State) : Prop := ∀ m, (t.take? m).map Take.standing = (s.take? m).map Take.standing

namespace State

variable {s t : State}

theorem StandsAs.of_takes (h : t.store.takes = s.store.takes) : s.StandsAs t := fun m => by
  rw [take?, h]
  rfl

theorem StandsAs.trans {u : State} (h : s.StandsAs t) (h' : t.StandsAs u) : s.StandsAs u := fun m => (h' m).trans (h m)

theorem putTake_standsAs {n : Nat} {v w : Take} (hv : s.take? n = some v) (hw : w.standing = v.standing) :
    s.StandsAs (s.putTake n w) := fun m => by
  by_cases hm : m = n
  · subst hm
    rw [take?_putTake_self, hv]
    exact congrArg some hw
  · exact congrArg _ (Takes.get_put_other _ _ hm)

theorem grantSegment_standsAs (s : State) (n : Nat) (b : Byte) : s.StandsAs (s.grantSegment n b) := by
  unfold grantSegment
  split
  · next v hv =>
    refine (putTake_standsAs (w := v.appendNew b) hv rfl).trans (.of_takes ?_)
    rw [noteGrant_store]
  · exact fun _ => rfl

theorem grantWaiting_standsAs (u : State) (w : WaitingRequest) : u.StandsAs (u.grantWaiting w) := by
  rcases u.grantWaiting_cases w with ⟨m, _, b, _, -, -, he⟩ | ⟨-, he⟩
  · rw [he]
    have hdrained : u.StandsAs ((u.withdraw w.link).modLink w.link (·.drainHead)) := .of_takes rfl
    exact hdrained.trans (grantSegment_standsAs _ m _)
  · rw [he]
    exact .of_takes rfl

theorem returnSegments_standsAs (s : State) (n : Nat) : s.StandsAs (s.returnSegments n) := by
  unfold returnSegments
  split
  · exact fun _ => rfl
  · have hexit : s.StandsAs ((s.modStore fun st => { st with free := st.free + n }).testLowExit) :=
      .of_takes (by rw [testLowExit_store]; rfl)
    exact arbitrate_keeps (P := s.StandsAs) (fun {u w} _ hu => hu.trans (u.grantWaiting_standsAs w)) _ hexit

/-- The record freed is FREE, the others stand as they did. -/
theorem freeTake_standing (s : State) (n m : Nat) :
    ((s.freeTake n).take? m).map Take.standing = if m = n then none else (s.take? m).map Take.standing := by
  rcases s.freeTake_cases n with ⟨hn, he⟩ | ⟨v, -, he⟩ <;> rw [he]
  · split
    · next h => rw [h, hn, Option.map_none]
    · rfl
  · refine (returnSegments_standsAs _ _ m).trans ?_
    split
    · next h =>
      subst h
      exact congrArg _ (Takes.get_erase_self ..)
    · next h => exact congrArg _ (Takes.get_erase_other _ h)

/-! ### References counted while entries leave (R38) -/

/-- In `u`, reached from `s`, each listed record counts the references to it and the owed ones, and a take that has one is of
its story of old. -/
structure Traced (s : State) (es : List Entry) (u : State) : Prop where
  counted : ∀ m v, u.take? m = some v → v.refs = u.refsTo m + refsIn es m
  kept : ∀ m, 0 < u.refsTo m + refsIn es m → (u.take? m).map Take.key = (s.take? m).map Take.key

namespace Traced

variable {es : List Entry} {u : State}

theorem start (hr : s.refsCounted) : s.Traced [] s :=
  ⟨fun m v hv => by rw [refsIn_nil, Nat.add_zero]; exact hr (m, v) (Takes.get_mem hv), fun _ _ => rfl⟩

/-- A take that a circuit names is of its story of old. -/
theorem ofStory_of_handles (h : s.Traced [] u) (k : StoryKey) {i : CircuitId} {m : Nat} (hm : m ∈ (u.circuit i).handles) :
    u.ofStory k m = s.ofStory k m := by
  have hpos : 0 < u.refsTo m + refsIn [] m := by
    rw [refsIn_nil, Nat.add_zero]
    exact (u.refsTo_pos_iff _).2 ⟨i, hm⟩
  have hkey := h.kept _ hpos
  unfold State.ofStory
  cases hu : u.take? m <;> cases hs : s.take? m <;> simp_all

theorem ofStory (h : s.Traced [] u) (k : StoryKey) {i : CircuitId} {e : Entry} (he : e ∈ (u.circuit i).queue) :
    u.ofStory k e.handle = s.ofStory k e.handle :=
  h.ofStory_of_handles k (List.mem_append_left _ (List.mem_map_of_mem he))

theorem setCircuit {i : CircuitId} {c : Circuit} {fs : List Entry} (h : s.Traced es u)
    (hc : ∀ m, c.refsTo m + refsIn fs m = (u.circuit i).refsTo m + refsIn es m) : s.Traced fs (u.setCircuit i c) := by
  have hsum (m : Nat) : (u.setCircuit i c).refsTo m + refsIn fs m = u.refsTo m + refsIn es m := by
    have h1 := u.refsTo_setCircuit i c m
    have h2 := hc m
    omega
  exact ⟨fun m v hv => by rw [hsum]; exact h.counted m v hv, fun m hm => h.kept m (hsum m ▸ hm)⟩

theorem dropRef {e : Entry} (h : s.Traced (e :: es) u) : s.Traced es (u.dropRef e.handle) := by
  have hrefs (m : Nat) : (u.dropRef e.handle).refsTo m = u.refsTo m := by
    unfold State.refsTo State.circuit
    rw [dropRef_circuits]
  have hcounted {m : Nat} {v : Take} (hv : u.take? m = some v) :
      v.refs = u.refsTo m + (refsIn es m + if e.handle = m then 1 else 0) := by
    rw [h.counted m v hv, refsIn_cons]
  have hkept {m : Nat} (hm : 0 < u.refsTo m + refsIn es m) : (u.take? m).map Take.key = (s.take? m).map Take.key :=
    h.kept m (by rw [refsIn_cons]; omega)
  cases ht : u.take? e.handle with
  | none =>
    rw [dropRef_free ht]
    refine ⟨fun m v hv => ?_, fun m hm => hkept hm⟩
    have hne : e.handle ≠ m := by
      rintro rfl
      rw [ht] at hv
      cases hv
    rw [hcounted hv, if_neg hne, Nat.add_zero]
  | some t =>
    rcases Nat.lt_or_ge 1 t.refs with hlt | hle
    · rw [dropRef_shared ht hlt] at hrefs ⊢
      refine ⟨fun m v hv => ?_, fun m hm => ?_⟩
      · rw [hrefs]
        by_cases hm : m = e.handle
        · subst hm
          rw [take?_putTake_self] at hv
          cases hv
          have hold := hcounted ht
          rw [if_pos rfl] at hold
          simp only
          omega
        · have hother : (u.putTake e.handle { t with refs := t.refs - 1 }).take? m = u.take? m :=
            Takes.get_put_other _ _ hm
          rw [hother] at hv
          rw [hcounted hv, if_neg (Ne.symm hm), Nat.add_zero]
      · rw [hrefs] at hm
        rw [← hkept hm]
        by_cases hmn : m = e.handle
        · subst hmn
          rw [take?_putTake_self, ht]
          rfl
        · exact congrArg _ (Takes.get_put_other _ _ hmn)
    · have hnone : u.refsTo e.handle + refsIn es e.handle = 0 := by
        have hold := hcounted ht
        rw [if_pos rfl] at hold
        omega
      have hstand (m : Nat) : ((u.dropRef e.handle).take? m).map Take.standing =
          if m = e.handle then none else (u.take? m).map Take.standing := by
        simp only [State.dropRef, ht, if_pos hle]
        rw [freeTake_standing, take?, reportRelease_store]
        rfl
      refine ⟨fun m v hv => ?_, fun m hm => ?_⟩
      · have hm := hstand m
        rw [hv] at hm
        rw [hrefs]
        by_cases hmn : m = e.handle
        · rw [if_pos hmn] at hm
          cases hm
        · rw [if_neg hmn] at hm
          obtain ⟨w, hw, hst⟩ := Option.map_eq_some_iff.1 hm.symm
          have hsame : w.refs = v.refs := congrArg Prod.fst hst
          rw [← hsame, hcounted hw, if_neg (Ne.symm hmn), Nat.add_zero]
      · rw [hrefs] at hm
        have hmn : m ≠ e.handle := by
          rintro rfl
          omega
        have hkey : Take.key = Prod.snd ∘ Take.standing := rfl
        have hm' := hstand m
        rw [if_neg hmn] at hm'
        rw [← hkept hm, hkey, ← Option.map_map, hm', Option.map_map]

theorem dropRefs {fs : List Entry} (h : s.Traced (fs ++ es) u) : s.Traced es (u.dropRefs fs) := by
  induction fs generalizing u with
  | nil => exact h
  | cons e fs ih =>
    rw [dropRefs_cons]
    exact ih (Traced.dropRef h)

theorem removeEntries (h : s.Traced [] u) (i : CircuitId) (p : Entry → Bool) : s.Traced [] (u.removeEntries i p) := by
  rw [removeEntries_eq]
  refine dropRefs (h.setCircuit fun m => ?_)
  have hsplit := refsIn_filter_add (es := (u.circuit i).queue) (g := m) p
  have hflight : ((u.circuit i).without p).flightRef m = (u.circuit i).flightRef m := rfl
  have hqueue : ((u.circuit i).without p).queue = (u.circuit i).queue.filter fun e => !p e := rfl
  rw [List.append_nil, refsIn_nil, Circuit.refsTo_eq, Circuit.refsTo_eq, hflight, hqueue]
  omega

end Traced

/-! ### The purge (R56) -/

theorem removeEntries_congr {u : State} {i : CircuitId} {p q : Entry → Bool} (h : ∀ e ∈ (u.circuit i).queue, p e = q e) :
    u.removeEntries i p = u.removeEntries i q := by
  have hp : (u.circuit i).queue.filter p = (u.circuit i).queue.filter q := List.filter_congr h
  have hnp : (u.circuit i).queue.filter (fun e => !p e) = (u.circuit i).queue.filter fun e => !q e :=
    List.filter_congr fun e he => congrArg (!·) (h e he)
  rw [removeEntries_eq, removeEntries_eq, Circuit.without, Circuit.without, hp, hnp]

/-- Where the records count their references, the purge removes the entries whose takes are of the story at its start. -/
theorem purge_eq (hr : s.refsCounted) (k : StoryKey) :
    s.purge k = allCircuits.foldl (fun u i => u.removeEntries i fun e => s.ofStory k e.handle) s := by
  unfold purge
  have hall (is : List CircuitId) (u : State) (hu : s.Traced [] u) :
      is.foldl (fun u i => u.removeEntries i fun e => u.ofStory k e.handle) u =
        is.foldl (fun u i => u.removeEntries i fun e => s.ofStory k e.handle) u := by
    induction is generalizing u with
    | nil => rfl
    | cons i is ih =>
      have hsame : (u.removeEntries i fun e => u.ofStory k e.handle) = u.removeEntries i fun e => s.ofStory k e.handle :=
        removeEntries_congr fun e he => hu.ofStory k he
      rw [List.foldl_cons, List.foldl_cons, hsame, ih _ (hu.removeEntries i _)]
  exact hall _ s (.start hr)

theorem purge_traced (hr : s.refsCounted) (k : StoryKey) : s.Traced [] (s.purge k) := by
  rw [purge_eq hr]
  exact List.foldlRecOn _ _ (.start hr) fun _ hu i _ => hu.removeEntries i _

theorem purge_circuit (hr : s.refsCounted) (k : StoryKey) (i : CircuitId) :
    (s.purge k).circuit i = (s.circuit i).without fun e => s.ofStory k e.handle := by
  rw [purge_eq hr]
  exact foldl_allCircuits (g := fun c => c.without fun e => s.ofStory k e.handle)
    (fun u i j => removeEntries_circuit u i j _) s i

/-! ### The cut orders (R57) -/

theorem mem_inFlightOf {k : StoryKey} {i : CircuitId} {f : Flight} (hf : (s.circuit i).flight = some f) :
    i ∈ s.inFlightOf k ↔ s.ofStory k f.entry.handle = true := by
  simp only [inFlightOf, List.mem_filter, allCircuits_mem, hf, true_and]

theorem cutStory_circuit (s : State) (k : StoryKey) (i : CircuitId) : (s.cutStory k).circuit i =
    if i ∈ s.inFlightOf k then (s.circuit i).cutWhere fun _ => true else s.circuit i := by
  refine foldl_circuit (g := fun c => c.cutWhere fun _ => true) (fun u j m => ?_)
    (allCircuits_nodup.filter _) s i
  cases hf : (u.circuit j).flight with
  | none =>
    dsimp only
    split
    · next h =>
      rw [h]
      simp only [Circuit.cutWhere, hf, Option.map_none]
      rw [← hf]
    · rfl
  | some f =>
    dsimp only
    rw [modStory_circuit, cutOrder_circuit]
    split
    · next h =>
      rw [h]
      simp only [Circuit.cutWhere, hf, Option.map_some, beq_self_eq_true, if_true]
    · rfl

end State

/-- Settles O49. -/
theorem routerAndKills : Obligations.RouterAndKills := by
  unfold Obligations.RouterAndKills
  refine ⟨⟨num_adjustedPriority, fun s l cat => rfl, ?_⟩, fun s k i => ⟨fun _ hr => State.purge_circuit hr k i, ?_⟩⟩
  · intro s n t ht hd hr hst hnone hlen hw hlow entry set p story
    have hq : s.Quiet := ⟨hw, hlow⟩
    have hactive (queued : Nat) : story queued = { t.newStory with queued := queued } := by
      simp only [story, Take.newStory, hd]
      rfl
    let u : State := ({ s with stories := t.newStory :: s.stories } : State).putTake n (t.indexed p)
    have hu : u.take? n = some (t.indexed p) := State.take?_putTake_self ..
    have hroute : s.route n = (u.fanOut n p set).endRouting n false := by
      rw [State.route_fresh ht hnone hlen, State.disposition]
      simp only [hd]
      rfl
    constructor
    · intro i hset hshed hfull hf c est
      have hput := State.putTake_putTake (({ s with stories := t.newStory :: s.stories } : State).setCircuit i
        (c.entered (c.entryOf n t p))) n (t.indexed p) { t.indexed p with refs := t.refs + 1 }
      rw [hroute, State.fanOut_one (s := u) hset hu hshed hfull hf, hactive]
      exact (congrArg (State.endRouting · n false) hput).trans (State.endRouting_one (q := p) hnone hr _ false)
    · intro hset
      rw [hroute, State.fanOut_none (s := u) hset, State.endRouting_unrouted (s := u) ⟨hw, hlow⟩ hu hr, hactive]
      have herase := Takes.erase_put s.store.takes n (t.indexed p)
      rw [← herase]
      rfl
  · intro f hf hstory hcut
    refine ⟨{ f with ctx := f.ctx.cutOrder }, ?_, rfl, ?_⟩
    · rw [State.cutStory_circuit, if_pos ((State.mem_inFlightOf hf).2 hstory)]
      simp only [Circuit.cutWhere, hf, Option.map_some, if_true]
    · unfold Context.cutOrder
      rw [if_pos hcut]

end Sys2Proof.Machine
end


-- ==== sitting 4: one circuit after the other (R46, R53 to R58) ====
section
/-! Corrections and kills walk over circuits: on each, entries leave and the take routed may enter. In a quiet store such a
turn changes its own circuit, and each take record by as many references as it lost and gained there; so a walk is described
by what each circuit was like when it began. -/

namespace Sys2Proof.Machine

open Sys2Proof

/-! ### Stories stand (R47, R50) -/

/-- What a story keeps while its queued count changes. -/
def Story.standing (y : Story) : StoryState × CircuitSet := (y.state, y.sent)

namespace State

/-- Every story has the state and the sent set it had. -/
def StoriesStand (s t : State) : Prop := ∀ k, (t.story? k).map Story.standing = (s.story? k).map Story.standing

variable {s t u v w : State} {i : CircuitId} {n : Nat}

theorem StoriesStand.refl (s : State) : s.StoriesStand s := fun _ => rfl

theorem StoriesStand.trans (h : s.StoriesStand t) (h' : t.StoriesStand u) : s.StoriesStand u := fun k => (h' k).trans (h k)

theorem StoriesStand.of_stories (h : t.stories = s.stories) : s.StoriesStand t := fun k => by
  rw [story?, h]
  rfl

theorem story?_modStory (s : State) (k k' : StoryKey) {f : Story → Story} (hf : ∀ e, (f e).key = e.key) :
    (s.modStory k f).story? k' = (s.story? k').map fun e => if e.key = k then f e else e := by
  have hkey : ((fun e : Story => e.key == k') ∘ fun e => if e.key = k then f e else e) = fun e => e.key == k' := by
    funext e
    rw [Function.comp_apply]
    split
    · rw [hf]
    · rfl
  rw [story?, modStory, List.find?_map, hkey]
  rfl

theorem modStory_stand (s : State) (k : StoryKey) {f : Story → Story} (hf : ∀ e, (f e).key = e.key)
    (hst : ∀ e, (f e).standing = e.standing) : s.StoriesStand (s.modStory k f) := fun k' => by
  rw [story?_modStory s k k' hf, Option.map_map]
  congr 1
  funext e
  rw [Function.comp_apply]
  split
  · exact hst e
  · rfl

theorem dropRef_stand (hq : s.Quiet) (n : Nat) : s.StoriesStand (s.dropRef n) := by
  cases ht : s.take? n with
  | none => rw [dropRef_free ht]; exact .refl s
  | some t =>
    rcases Nat.lt_or_ge 1 t.refs with h | h
    · rw [dropRef_shared ht h]
      exact .of_stories rfl
    · rw [dropRef_last hq ht h]
      have hreport : s.StoriesStand (s.reportRelease t) := by
        unfold reportRelease
        cases t.story with
        | none => exact .refl s
        | some k => exact modStory_stand s k (fun _ => rfl) fun _ => rfl
      exact hreport.trans (.of_stories rfl)

theorem dropRefs_stand (hq : s.Quiet) (es : List Entry) : s.StoriesStand (s.dropRefs es) := by
  induction es generalizing s with
  | nil => exact .refl s
  | cons e es ih =>
    rw [dropRefs_cons]
    exact (dropRef_stand hq e.handle).trans (ih ((dropRef_copyOnly hq e.handle).quiet hq))

/-! ### A turn on one circuit -/

/-- On circuit `i` entries of other takes left, and the take `n` gained references: the circuit now is as `C` says. -/
structure Turned (n gain : Nat) (C : Circuit → Prop) (lost : List Entry) (i : CircuitId) (u v : State) : Prop where
  copy : u.CopyOnly v
  stories : u.StoriesStand v
  own : C (v.circuit i)
  rest : ∀ j, j ≠ i → v.circuit j = u.circuit j
  others : ∀ m, m ≠ n → v.take? m = (u.take? m).bind (·.lessRefs (refsIn lost m))
  gained : v.take? n = (u.take? n).map fun t => { t with refs := t.refs + gain }

namespace Turned

variable {g g' : Nat} {C C' : Circuit → Prop} {lost lost' : List Entry}

theorem trans (h : Turned n g C lost i u v) (h' : Turned n g' C' lost' i v w) : Turned n (g + g') C' (lost ++ lost') i u w where
  copy := h.copy.trans h'.copy
  stories := h.stories.trans h'.stories
  own := h'.own
  rest j hj := (h'.rest j hj).trans (h.rest j hj)
  others m hm := by
    rw [h'.others m hm, h.others m hm, Option.bind_assoc, refsIn_append]
    exact Option.bind_congr fun t _ => t.lessRefs_add _ _
  gained := by
    rw [h'.gained, h.gained, Option.map_map]
    congr 1
    funext t
    simp only [Function.comp_apply, Nat.add_assoc]

theorem mono (h : Turned n g C lost i u v) (hC : C (v.circuit i) → C' (v.circuit i))
    (hlost : ∀ m, refsIn lost m = refsIn lost' m) : Turned n g C' lost' i u v :=
  { h with own := hC h.own, others := fun m hm => by rw [h.others m hm, hlost] }

theorem take_own {t : Take} (h : Turned n g C lost i u v) (ht : u.take? n = some t) :
    v.take? n = some { t with refs := t.refs + g } := by
  rw [h.gained, ht]
  rfl

end Turned

theorem lessRefs_none (o : Option Take) : o.bind (·.lessRefs 0) = o := by
  cases o <;> rfl

/-- A circuit changed and references dropped. -/
theorem turned_dropRefs (hq : u.Quiet) (i : CircuitId) (c : Circuit) {es : List Entry} (hes : ∀ e ∈ es, e.handle ≠ n) :
    Turned n 0 (· = c) es i u ((u.setCircuit i c).dropRefs es) where
  copy := (setCircuit_copyOnly u i c).trans (dropRefs_copyOnly (hq.setCircuit i c) es)
  stories := .trans (t := u.setCircuit i c) (.of_stories rfl) (dropRefs_stand (hq.setCircuit i c) es)
  own := by rw [dropRefs_circuit, setCircuit_circuit_self]
  rest j hj := by rw [dropRefs_circuit, setCircuit_circuit_ne (h := hj)]
  others m _ := by
    rw [dropRefs_take? (hq.setCircuit i c)]
    rfl
  gained := by
    rw [dropRefs_take? (hq.setCircuit i c), refsIn_eq_zero.2 hes, lessRefs_none]
    exact Option.map_id'.symm

/-- A circuit changed, and a reference gained. -/
theorem turned_gain {t : Take} (ht : u.take? n = some t) (i : CircuitId) (c : Circuit) :
    Turned n 1 (· = c) [] i u ((u.setCircuit i c).putTake n { t with refs := t.refs + 1 }) where
  copy := (setCircuit_copyOnly u i c).trans (CopyOnly.putTake _ n _)
  stories := .of_stories rfl
  own := by rw [putTake_circuit, setCircuit_circuit_self]
  rest j hj := by rw [putTake_circuit, setCircuit_circuit_ne (h := hj)]
  others m hm := by
    rw [refsIn_nil, lessRefs_none]
    exact Takes.get_put_other _ _ hm
  gained := by
    rw [ht]
    exact Takes.get_put_self ..

end State

/-! ### Break-in offered, and room (R69, R135) -/

/-- The circuit after an insertion: a break-in may have been offered against the take in flight. -/
def Circuit.Offered (c : Circuit) (p : Priority) (d : Circuit) : Prop :=
  d = c ∨ p.num ≤ 2 ∧ ∃ f, c.flight = some f ∧ d = { c with flight := some { f with ctx := { f.ctx with breakIn := true } } }

theorem Circuit.Offered.not {c d : Circuit} {p : Priority} (h : c.Offered p d) (hno : c.flight = none ∨ 2 < p.num) : d = c := by
  rcases h with h | ⟨hp, f, hf, -⟩
  · exact h
  · rcases hno with hno | hno
    · rw [hno] at hf
      cases hf
    · omega

theorem Circuit.Offered.occupancy {c d : Circuit} {p : Priority} (h : c.Offered p d) : d.occupancy = c.occupancy := by
  rcases h with rfl | ⟨-, f, hf, rfl⟩
  · rfl
  · simp only [Circuit.occupancy, hf, Option.isSome_some]

theorem BreakInLevel.admits_num {b : BreakInLevel} {p : Priority} (h : b.admits p = true) : p.num ≤ 2 := by
  rcases (b.admits_iff p).1 h with ⟨-, rfl⟩ | ⟨-, rfl | rfl⟩ <;> decide

theorem State.offerBreakIn_cases (s : State) (i : CircuitId) (p : Priority) : s.offerBreakIn i p = s ∨
    p.num ≤ 2 ∧ ∃ f, (s.circuit i).flight = some f ∧ s.offerBreakIn i p = s.setCircuit i
      { s.circuit i with flight := some { f with ctx := { f.ctx with breakIn := true } } } := by
  unfold offerBreakIn
  cases hf : (s.circuit i).flight with
  | none => exact .inl rfl
  | some f =>
    cases ht : s.take? f.entry.handle with
    | none => exact .inl (by simp only [ht])
    | some t =>
      simp only [ht]
      split
      · next h => exact .inr ⟨BreakInLevel.admits_num h.2.1, f, rfl, rfl⟩
      · exact .inl rfl

theorem placeEntry_length (q : List Entry) (e : Entry) : (placeEntry q e).length = q.length + 1 := by
  have hsplit := congrArg List.length
    (List.takeWhile_append_dropWhile (p := fun x : Entry => decide (x.prio.num ≤ e.prio.num)) (l := q))
  rw [List.length_append] at hsplit
  rw [placeEntry, List.length_append, List.length_cons]
  omega

theorem Circuit.occupancy_entered (c : Circuit) (e : Entry) : (c.entered e).occupancy = c.occupancy + 1 := by
  rw [Circuit.occupancy, Circuit.entered, placeEntry_length, Circuit.occupancy, Nat.add_right_comm]

theorem State.entriesUsed_eq_sum (s : State) : s.entriesUsed = ∑ i, (s.circuit i).occupancy := by
  rw [entriesUsed, Finset.sum_eq_multiset_sum]
  rfl

/-- Entries in use, circuit by circuit, with one circuit where there is room to spare. -/
theorem State.entriesUsed_lt {s u : State} {x : CircuitId → Nat} (hle : ∀ j, (u.circuit j).occupancy ≤ (s.circuit j).occupancy + x j)
    {i : CircuitId} (hi : (u.circuit i).occupancy < (s.circuit i).occupancy + x i) :
    u.entriesUsed < s.entriesUsed + ∑ j, x j := by
  rw [entriesUsed_eq_sum, entriesUsed_eq_sum, ← Finset.sum_add_distrib]
  exact Finset.sum_lt_sum (fun j _ => hle j) ⟨i, Finset.mem_univ i, hi⟩

theorem State.entriesUsed_le {s u : State} {x : CircuitId → Nat}
    (hle : ∀ j, (u.circuit j).occupancy ≤ (s.circuit j).occupancy + x j) : u.entriesUsed ≤ s.entriesUsed + ∑ j, x j := by
  rw [entriesUsed_eq_sum, entriesUsed_eq_sum, ← Finset.sum_add_distrib]
  exact Finset.sum_le_sum fun j _ => hle j

theorem State.not_full {s : State} {i : CircuitId} (hroom : (s.circuit i).occupancy < (s.circuit i).active.depth)
    (hpool : s.entriesUsed < 512) : s.full i = false := by
  have hfree : s.freeEntries ≠ 0 := Nat.sub_ne_zero_of_lt hpool
  exact decide_eq_false fun h => h.elim (Nat.not_le.2 hroom) hfree

theorem Circuit.sheds_of_zero {c : Circuit} (h : c.active.shed = 0) (p : Priority) : c.sheds p = false := by
  cases p <;> simp [Circuit.sheds, h]

/-! ### Turns of corrections and insertions (R54, R67) -/

namespace State

variable {s t u v w : State} {i : CircuitId} {n : Nat} {p : Priority}

theorem turned_insert {t : Take} (ht : u.take? n = some t) (hshed : (u.circuit i).sheds p = false) (hfull : u.full i = false) :
    Turned n 1 (((u.circuit i).entered ((u.circuit i).entryOf n t p)).Offered p) [] i u (u.insert i n p) := by
  let c : Circuit := (u.circuit i).entered ((u.circuit i).entryOf n t p)
  let placed : State := (u.setCircuit i c).putTake n { t with refs := t.refs + 1 }
  have hplaced : Turned n 1 (· = c) [] i u placed := turned_gain ht i c
  have hcircuit : placed.circuit i = c := hplaced.own
  rw [insert_placed ht hshed hfull, place_eq ht]
  rcases placed.offerBreakIn_cases i p with he | ⟨hp, f, hf, he⟩
  · rw [he]
    exact hplaced.mono (fun h => .inl h) fun _ => rfl
  · rw [he]
    rw [hcircuit] at hf ⊢
    exact
      { copy := hplaced.copy.trans (setCircuit_copyOnly ..)
        stories := .of_stories rfl
        own := by
          rw [setCircuit_circuit_self]
          exact .inr ⟨hp, f, hf, rfl⟩
        rest := fun j hj => by rw [setCircuit_circuit_ne (h := hj), hplaced.rest j hj]
        others := hplaced.others
        gained := hplaced.gained }

section
variable {a b : List Entry} {x : Entry}

theorem removeBehind_append (hq : (u.circuit i).queue = a ++ x :: b) (hit : Entry → Bool) :
    u.removeBehind i a.length hit = (u.setCircuit i
      { u.circuit i with
        queue := a ++ x :: b.filter fun e => !hit e
        backlog := (u.circuit i).backlog - queueSum (b.filter hit) }).dropRefs (b.filter hit) := by
  have hdrop : (u.circuit i).queue.drop (a.length + 1) = b := by
    rw [hq, List.drop_append, List.drop_of_length_le (by omega), Nat.add_sub_cancel_left]
    rfl
  have htake : (u.circuit i).queue.take (a.length + 1) = a ++ [x] := by
    rw [hq, List.take_append, List.take_of_length_le (by omega), Nat.add_sub_cancel_left]
    rfl
  simp only [removeBehind, modCircuit, hdrop, htake, List.append_assoc, List.cons_append, List.nil_append]

theorem replaceAt_append {t : Take} (r : Take) (hq : (u.circuit i).queue = a ++ x :: b) (ht : u.take? n = some t) :
    u.replaceAt i a.length n r = ((u.setCircuit i
      { u.circuit i with
        queue := a ++ (u.circuit i).entryOf n r x.prio :: b
        backlog := (u.circuit i).backlog - x.estimate + ((u.circuit i).entryOf n r x.prio).estimate }).putTake n
          { t with refs := t.refs + 1 }).dropRefs [x] := by
  have hx : (u.circuit i).queue[a.length]? = some x := by rw [hq]; simp
  have hset (y : Entry) : (u.circuit i).queue.set a.length y = a ++ y :: b := by
    rw [hq, List.set_append_right _ _ (Nat.le_refl _), Nat.sub_self, List.set_cons_zero]
  have hentry : ({ x with handle := n, resume := none, estimate := estimate (u.circuit i).active.form r.length } : Entry) =
      (u.circuit i).entryOf n r x.prio := rfl
  simp only [replaceAt, hx, modCircuit, hentry, hset, addRef]
  rw [modTake_of_take (t := t) (by exact ht)]
  rfl

end

end State

end Sys2Proof.Machine
end


-- ==== sitting 4: a walk over circuits, and corrections (R53 to R55) ====
section
/-! The walk of a correction over the circuits that hold a match, and over the open ones of its route that hold none. -/

namespace Sys2Proof.Machine

open Sys2Proof

/-- A circuit after a correction of it (R54): where the priorities agree the new entry stands in the place of the match
nearest the head, and else at its own; the matches behind are gone. -/
def Circuit.corrected (c : Circuit) (a : List Entry) (x : Entry) (b : List Entry) (hit : Entry → Bool) (e : Entry) : Circuit :=
  { c with
    queue :=
      if x.prio = e.prio then a ++ e :: b.filter fun y => !hit y else placeEntry (a ++ b.filter fun y => !hit y) e
    backlog := c.backlog - queueSum (b.filter hit) - x.estimate + e.estimate }

section
variable {c : Circuit} {a b : List Entry} {x e : Entry} {hit : Entry → Bool}

theorem Circuit.corrected_inPlace (h : x.prio = e.prio) : c.corrected a x b hit e =
    { c with
      queue := a ++ e :: b.filter fun y => !hit y
      backlog := c.backlog - queueSum (b.filter hit) - x.estimate + e.estimate } := by
  simp only [Circuit.corrected, if_pos h]

theorem Circuit.corrected_moved (h : x.prio ≠ e.prio) : c.corrected a x b hit e =
    { c with
      queue := placeEntry (a ++ b.filter fun y => !hit y) e
      backlog := c.backlog - queueSum (b.filter hit) - x.estimate + e.estimate } := by
  simp only [Circuit.corrected, if_neg h]

end

theorem findIdx?_append_first {p : Entry → Bool} {a b : List Entry} {x : Entry} (ha : ∀ y ∈ a, p y = false) (hx : p x = true) :
    (a ++ x :: b).findIdx? p = some a.length := by
  rw [List.findIdx?_append, List.findIdx?_eq_none_iff.2 ha]
  simp [List.findIdx?_cons, hx]

namespace State

variable {s t u v w : State} {i : CircuitId} {n : Nat} {p : Priority}

theorem turned_dropRefs_alone (hq : u.Quiet) (i : CircuitId) {es : List Entry} (hes : ∀ e ∈ es, e.handle ≠ n) :
    Turned n 0 (· = u.circuit i) es i u (u.dropRefs es) := by
  have hturn := turned_dropRefs hq i (u.circuit i) hes
  rwa [setCircuit_self] at hturn

/-- Fewer entries in use after entries of one circuit left. -/
theorem Turned.entriesUsed_lt {g : Nat} {C : Circuit → Prop} {lost : List Entry} (h : Turned n g C lost i u v)
    (hi : (v.circuit i).occupancy < (u.circuit i).occupancy) : v.entriesUsed < u.entriesUsed := by
  have hsum := State.entriesUsed_lt (s := u) (u := v) (x := fun _ => 0) (i := i) (fun j => ?_) hi
  · simpa using hsum
  · by_cases hj : j = i
    · subst hj
      exact hi.le
    · rw [h.rest j hj]
      exact Nat.le_refl _

section
variable {a b : List Entry} {x : Entry} {r t : Take} {hit : Entry → Bool}

/-- A match replaced in place (R54). -/
theorem turned_replaceAt (hq : u.Quiet) (hqueue : (u.circuit i).queue = a ++ x :: b) (hne : x.handle ≠ n)
    (ht : u.take? n = some t) (r : Take) :
    Turned n 1 (· = { u.circuit i with
      queue := a ++ (u.circuit i).entryOf n r x.prio :: b
      backlog := (u.circuit i).backlog - x.estimate + ((u.circuit i).entryOf n r x.prio).estimate }) [x] i u
      (u.replaceAt i a.length n r) := by
  rw [replaceAt_append r hqueue ht]
  have hgain := turned_gain ht i { u.circuit i with
    queue := a ++ (u.circuit i).entryOf n r x.prio :: b
    backlog := (u.circuit i).backlog - x.estimate + ((u.circuit i).entryOf n r x.prio).estimate }
  have hdrop := turned_dropRefs_alone (n := n) (hgain.copy.quiet hq) i (es := [x])
    fun e he => by rw [List.mem_singleton.1 he]; exact hne
  refine (hgain.trans hdrop).mono (fun h => ?_) fun _ => rfl
  exact h.trans hgain.own

/-- A match removed, and the correction inserted at its own priority (R55). -/
theorem turned_reinsert (hq : u.Quiet) (hqueue : (u.circuit i).queue = a ++ x :: b) (hne : x.handle ≠ n)
    (ht : u.take? n = some t) (hshed : (u.circuit i).active.shed = 0)
    (hroom : (u.circuit i).occupancy ≤ (u.circuit i).active.depth) (hpool : u.entriesUsed ≤ 512)
    (hbreak : (u.circuit i).flight = none ∨ 2 < p.num) :
    Turned n 1 (· = ({ u.circuit i with
      queue := a ++ b, backlog := (u.circuit i).backlog - x.estimate } : Circuit).entered ((u.circuit i).entryOf n t p)) [x]
      i u ((u.removeAt i a.length).insert i n p) := by
  let c : Circuit := { u.circuit i with queue := a ++ b, backlog := (u.circuit i).backlog - x.estimate }
  let v : State := (u.setCircuit i c).dropRefs [x]
  have hv : Turned n 0 (· = c) [x] i u v :=
    turned_dropRefs hq i c fun e he => by rw [List.mem_singleton.1 he]; exact hne
  have hvc : v.circuit i = c := hv.own
  have hocc : c.occupancy < (u.circuit i).occupancy := by
    have hc : c.queue.length < (u.circuit i).queue.length := by
      rw [hqueue, List.length_append, List.length_append, List.length_cons]
      omega
    exact Nat.add_lt_add_right hc _
  have hfull : v.full i = false := by
    refine not_full ?_ ?_
    · rw [hvc]
      exact hocc.trans_le hroom
    · exact (hv.entriesUsed_lt (by rw [hvc]; exact hocc)).trans_le hpool
  have hinsert : Turned n 1 (((v.circuit i).entered ((v.circuit i).entryOf n { t with refs := t.refs + 0 } p)).Offered p) []
      i v (v.insert i n p) :=
    turned_insert (hv.take_own ht) (by rw [hvc]; exact Circuit.sheds_of_zero (by exact hshed) p) hfull
  rw [removeAt_append hqueue]
  refine (hv.trans hinsert).mono (fun h => ?_) fun _ => rfl
  rw [hvc] at h
  exact h.not hbreak

/-- A correction on a circuit with a match (R53 to R55), in a quiet store with room and no break-in. -/
theorem turned_correctOn (hq : u.Quiet) (hqueue : (u.circuit i).queue = a ++ x :: b) (ha : ∀ y ∈ a, hit y = false)
    (hx : hit x = true) (hhit : ∀ e ∈ (u.circuit i).queue, u.matchesCorrection r e = hit e)
    (hne : ∀ e ∈ (u.circuit i).queue, e.handle ≠ n) (ht : u.take? n = some t) (hlen : t.length = r.length)
    (hshed : (u.circuit i).active.shed = 0) (hroom : (u.circuit i).occupancy ≤ (u.circuit i).active.depth)
    (hpool : u.entriesUsed ≤ 512) (hbreak : (u.circuit i).flight = none ∨ 2 < p.num) :
    Turned n 1 (· = (u.circuit i).corrected a x b hit ((u.circuit i).entryOf n r p)) ((u.circuit i).queue.filter hit) i u
      (u.correctOn n r p i) := by
  let c : Circuit := u.circuit i
  let kept : List Entry := b.filter fun y => !hit y
  let c1 : Circuit := { c with queue := a ++ x :: kept, backlog := c.backlog - queueSum (b.filter hit) }
  let s1 : State := (u.setCircuit i c1).dropRefs (b.filter hit)
  rw [hqueue] at hhit hne
  have hmem {e : Entry} (he : e ∈ b.filter hit) : e.handle ≠ n :=
    hne e (List.mem_append_right _ (List.mem_cons_of_mem _ (List.mem_filter.1 he).1))
  have hb {e : Entry} (he : e ∈ b) : u.matchesCorrection r e = hit e :=
    hhit e (List.mem_append_right _ (List.mem_cons_of_mem _ he))
  have hxn : ∀ e ∈ [x], e.handle ≠ n := fun e he => by
    rw [List.mem_singleton.1 he]
    exact hne x (List.mem_append_right _ List.mem_cons_self)
  have hfind : (u.circuit i).queue.findIdx? (u.matchesCorrection r) = some a.length := by
    rw [hqueue]
    exact findIdx?_append_first (fun y hy => (hhit y (List.mem_append_left _ hy)).trans (ha y hy))
      ((hhit x (List.mem_append_right _ List.mem_cons_self)).trans hx)
  have hbehind : u.removeBehind i a.length (u.matchesCorrection r) = s1 := by
    have hyes : b.filter (u.matchesCorrection r) = b.filter hit := List.filter_congr fun e he => hb he
    have hno : (b.filter fun e => !u.matchesCorrection r e) = kept :=
      List.filter_congr fun e he => congrArg (!·) (hb he)
    rw [removeBehind_append hqueue, hyes, hno]
  have hprio : ((u.circuit i).queue[a.length]?).map (·.prio) = some x.prio := by rw [hqueue]; simp
  have hstart : Turned n 0 (· = c1) (b.filter hit) i u s1 := turned_dropRefs hq i c1 fun _ => hmem
  have hs1 : s1.circuit i = c1 := hstart.own
  have hq1 : s1.Quiet := hstart.copy.quiet hq
  have ht1 : s1.take? n = some { t with refs := t.refs + 0 } := hstart.take_own ht
  have hlost (m : Nat) : refsIn (b.filter hit ++ [x]) m = refsIn ((u.circuit i).queue.filter hit) m := by
    have hnone : a.filter hit = [] := List.filter_eq_nil_iff.2 fun y hy => by rw [ha y hy]; exact Bool.false_ne_true
    rw [hqueue, List.filter_append, hnone, List.nil_append, List.filter_cons, if_pos hx, refsIn_append, refsIn_cons,
      refsIn_cons, refsIn_nil]
    omega
  have hqueue1 : (s1.circuit i).queue = a ++ x :: kept := by rw [hs1]
  have hxne : x.handle ≠ n := hne x (List.mem_append_right _ List.mem_cons_self)
  have hocc : c1.occupancy ≤ c.occupancy := by
    have hle : c1.queue.length ≤ c.queue.length := by
      have hkept : kept.length ≤ b.length := List.length_filter_le ..
      rw [show c.queue = a ++ x :: b from hqueue, List.length_append, List.length_append, List.length_cons, List.length_cons]
      omega
    exact Nat.add_le_add_right hle _
  simp only [correctOn, hfind, hbehind, hprio, Option.some.injEq]
  split
  · next heq =>
    have hturn := hstart.trans (turned_replaceAt hq1 hqueue1 hxne ht1 r)
    refine hturn.mono (fun h => h.trans ?_) hlost
    rw [hs1, Circuit.corrected_inPlace (by exact heq), heq]
    rfl
  · next hdiff =>
    have hpool1 : s1.entriesUsed ≤ 512 := by
      have hsum := State.entriesUsed_le (s := u) (u := s1) (x := fun _ => 0) fun j => ?_
      · exact (by simpa using hsum : s1.entriesUsed ≤ u.entriesUsed).trans hpool
      · by_cases hj : j = i
        · subst hj
          rw [hs1]
          exact hocc
        · rw [hstart.rest j hj]
          exact Nat.le_refl _
    have hturn := hstart.trans (turned_reinsert (p := p) hq1 hqueue1 hxne ht1 (by rw [hs1]; exact hshed)
      (by rw [hs1]; exact hocc.trans hroom) hpool1 (by rw [hs1]; exact hbreak))
    refine hturn.mono (fun h => h.trans ?_) hlost
    have hentry : c1.entryOf n { t with refs := t.refs + 0 } p = (u.circuit i).entryOf n r p :=
      congrArg (fun m => ({ handle := n, prio := p, resume := none, estimate := estimate c.active.form m } : Entry)) hlen
    rw [hs1, hentry, Circuit.corrected_moved (by exact hdiff)]
    rfl

end

end State

end Sys2Proof.Machine
end


-- ==== sitting 4: corrections, and copy after a kill (R52 to R55) ====
section
/-! The walk over the circuits described by what each was like at its start, and the route of a correction. -/

namespace Sys2Proof.Machine

open Sys2Proof

namespace State

/-- Circuits `done` have had their turn since `s`: each is as `C` says, the take `n` gained references on each, and the
other takes lost the entries that left. -/
structure After (s : State) (n gain : Nat) (C : CircuitId → Circuit → Prop) (lost : CircuitId → List Entry)
    (done : List CircuitId) (u : State) : Prop where
  copy : s.CopyOnly u
  stories : s.StoriesStand u
  had : ∀ i ∈ done, C i (u.circuit i)
  rest : ∀ i, i ∉ done → u.circuit i = s.circuit i
  others : ∀ m, m ≠ n → u.take? m = (s.take? m).bind (·.lessRefs (done.map fun i => refsIn (lost i) m).sum)
  gained : u.take? n = (s.take? n).map fun t => { t with refs := t.refs + gain * done.length }

namespace After

variable {s u : State} {n gain : Nat} {C : CircuitId → Circuit → Prop} {lost : CircuitId → List Entry}
  {done is : List CircuitId} {i : CircuitId}

theorem start (s : State) (n gain : Nat) (C : CircuitId → Circuit → Prop) (lost : CircuitId → List Entry) :
    s.After n gain C lost [] s where
  copy := .refl s
  stories := .refl s
  had _ h := nomatch h
  rest _ _ := rfl
  others _ _ := (lessRefs_none _).symm
  gained := Option.map_id'.symm

theorem turn {v : State} (h : s.After n gain C lost done u) (hi : i ∉ done)
    (ht : Turned n gain (C i) (lost i) i u v) : s.After n gain C lost (done ++ [i]) v where
  copy := h.copy.trans ht.copy
  stories := h.stories.trans ht.stories
  had j hj := by
    rcases List.mem_append.1 hj with hj | hj
    · have hne : j ≠ i := fun he => hi (he ▸ hj)
      rw [ht.rest j hne]
      exact h.had j hj
    · rw [List.mem_singleton.1 hj]
      exact ht.own
  rest j hj := by
    rw [List.mem_append, not_or, List.mem_singleton] at hj
    rw [ht.rest j hj.2, h.rest j hj.1]
  others m hm := by
    rw [ht.others m hm, h.others m hm, Option.bind_assoc, List.map_append, List.sum_append]
    refine Option.bind_congr fun t _ => (t.lessRefs_add _ _).trans ?_
    rw [List.map_singleton, List.sum_singleton]
  gained := by
    rw [ht.gained, h.gained, Option.map_map]
    congr 1
    funext t
    simp only [Function.comp_apply, List.length_append, List.length_singleton, Nat.mul_add, Nat.mul_one, Nat.add_assoc]

theorem foldl {f : State → CircuitId → State} (h : s.After n gain C lost done u) (hnd : (done ++ is).Nodup)
    (hturn : ∀ (done : List CircuitId) (i : CircuitId) (u : State), done.Nodup → i ∈ is → i ∉ done →
      s.After n gain C lost done u → Turned n gain (C i) (lost i) i u (f u i)) :
    s.After n gain C lost (done ++ is) (is.foldl f u) := by
  induction is generalizing done u with
  | nil => rwa [List.append_nil]
  | cons i is ih =>
    obtain ⟨hdone, -, hdisjoint⟩ := List.nodup_append.1 hnd
    have hi : i ∉ done := fun hmem => hdisjoint i hmem i List.mem_cons_self rfl
    have hnext := h.turn hi (hturn done i u hdone List.mem_cons_self hi h)
    rw [List.append_cons] at hnd ⊢
    exact ih hnext hnd fun d j v hd hj => hturn d j v hd (List.mem_cons_of_mem i hj)

/-- References that the circuits still to come hold are still counted. -/
theorem take?_waiting (h : s.After n gain C lost done u) (hnd : done.Nodup) (hi : i ∉ done)
    (hlost : ∀ j m, refsIn (lost j) m ≤ (s.circuit j).refsTo m)
    (hcounted : ∀ m v, s.take? m = some v → v.refs = s.refsTo m) {m : Nat} (hm : m ≠ n) (hpos : 0 < (s.circuit i).refsTo m) :
    ∃ k : Nat → Nat, u.take? m = (s.take? m).map fun v => { v with refs := k v.refs } := by
  refine ⟨(· - (done.map fun i => refsIn (lost i) m).sum), ?_⟩
  rw [h.others m hm]
  cases hv : s.take? m with
  | none => rfl
  | some v =>
    have hsum : (done.map fun i => refsIn (lost i) m).sum + (s.circuit i).refsTo m ≤ v.refs := by
      rw [hcounted m v hv, refsTo_eq_sum, ← List.sum_toFinset _ hnd]
      have hle := Finset.sum_le_sum (s := done.toFinset) fun j _ => hlost j m
      have hins := Finset.sum_insert (s := done.toFinset) (f := fun j => (s.circuit j).refsTo m) (a := i) (by simpa using hi)
      have hsub := Finset.sum_le_sum_of_subset (f := fun j => (s.circuit j).refsTo m)
        (Finset.subset_univ (Insert.insert i done.toFinset))
      omega
    rw [Option.bind_some, Option.map_some, Take.lessRefs]
    split
    · next hz => rw [hz]; rfl
    · rw [if_neg (by omega)]

end After

/-! ### The route of a take of an indexed story (R42, R47) -/

variable {s : State} {n : Nat} {t : Take} {y : Story}

theorem story?_key {k : StoryKey} (h : s.story? k = some y) : y.key = k := by
  have hkey := List.find?_some h
  exact beq_iff_eq.1 hkey

/-- The story index with an entry touched (R47). -/
def touched (s : State) (y : Story) : State := { s with stories := y :: s.stories.filter fun x => x.key != y.key }

theorem indexStory_found {u : Take} (hu : s.take? n = some u) (h : s.story? t.key = some y) : s.indexStory n t =
    ((s.touched y).putTake n { u with story := some t.key }, if y.state = .killed then .killed else .active) := by
  simp only [indexStory, h]
  exact congrArg (·, _) (modTake_of_take (s := s.touched y) hu fun u => { u with story := some t.key })

theorem route_found (ht : s.take? n = some t) (h : s.story? t.key = some y) : s.route n =
    (((s.touched y).putTake n (t.indexed (s.routePriority t))).disposition n t (s.routePriority t) (s.routeSet t)
      (if y.state = .killed then .killed else .active)).endRouting n
        (discardedAfterKill t.disp (if y.state = .killed then .killed else .active)) := by
  have hindex := indexStory_found (s := s.putTake n { t with adjusted := some (s.routePriority t) }) (n := n) (t := t)
    (take?_putTake_self ..) (by exact h)
  have hput : ((s.putTake n { t with adjusted := some (s.routePriority t) }).touched y).putTake n
      (t.indexed (s.routePriority t)) = (s.touched y).putTake n (t.indexed (s.routePriority t)) :=
    putTake_putTake (s.touched y) n _ _
  rw [route_eq ht, hindex]
  exact congrArg (fun u : State => (u.disposition n t _ _ _).endRouting n _) hput

theorem touched_copyOnly (s : State) (y : Story) (n : Nat) (t : Take) : s.CopyOnly ((s.touched y).putTake n t) := rfl

/-- A touched story's take that no circuit has, freed (R39). -/
theorem endRouting_freed (hq : s.Quiet) (p : Priority) (hr : t.refs = 0) (afterKill : Bool) :
    ((s.touched y).putTake n (t.indexed p)).endRouting n afterKill = ((s.touched y).modStore fun st =>
      { st with takes := Takes.erase st.takes n, free := st.free + t.chain.length }).countLink t.link
        (if afterKill then .afterKill else .unrouted) 1 := by
  have herase := Takes.erase_put s.store.takes n (t.indexed p)
  rw [endRouting_unrouted (s := (s.touched y).putTake n (t.indexed p)) ⟨hq.waiting, hq.low⟩ (take?_putTake_self ..)
    (by exact hr)]
  refine congrArg (fun ts : List (Nat × Take) => ((s.touched y).modStore fun st =>
    { st with takes := ts, free := st.free + t.chain.length }).countLink t.link
      (if afterKill then LinkPoint.afterKill else .unrouted) 1) herase

end State

end Sys2Proof.Machine
end


-- ==== sitting 4: the correction of a story's queued takes (R53 to R55) ====
section
/-! A correction on the circuits that hold a match, and on the open ones of its route that hold none. -/

namespace Sys2Proof.Machine

open Sys2Proof

/-- Whether an entry matches a correction, its take looked up in a state (R53). -/
def State.hits (s : State) (t : Take) (e : Entry) : Bool :=
  e.resume.isNone && ((s.take? e.handle).any fun v =>
    v.link == t.link && v.slug == t.slug && v.part == t.part && v.disp != .kill)

theorem State.matchesCorrection_eq (s : State) (t : Take) (e : Entry) : s.matchesCorrection t e = s.hits t e := by
  unfold matchesCorrection hits
  cases s.take? e.handle with
  | none => exact (Bool.and_false _).symm
  | some v => exact Bool.and_comm _ _

theorem State.hits_of_take {s u : State} {e : Entry} {k : Nat → Nat}
    (h : u.take? e.handle = (s.take? e.handle).map fun v => { v with refs := k v.refs }) (t : Take) :
    u.hits t e = s.hits t e := by
  rw [hits, hits, h]
  cases s.take? e.handle <;> rfl

theorem exists_first_of_any {q : List Entry} {p : Entry → Bool} (h : q.any p = true) :
    ∃ a x b, q = a ++ x :: b ∧ (∀ y ∈ a, p y = false) ∧ p x = true := by
  cases hf : q.find? p with
  | none =>
    obtain ⟨x, hx, hp⟩ := List.any_eq_true.1 h
    exact absurd hp (by simpa using List.find?_eq_none.1 hf x hx)
  | some x =>
    obtain ⟨hx, a, b, hq, ha⟩ := List.find?_eq_some_iff_append.1 hf
    exact ⟨a, x, b, hq, fun y hy => by simpa using ha y hy, hx⟩

theorem sum_mem_nodup {fans : List CircuitId} (h : fans.Nodup) : (∑ j : CircuitId, if j ∈ fans then 1 else 0) = fans.length := by
  rw [← List.toFinset_card_of_nodup h, Finset.card_eq_sum_ones, ← Finset.sum_filter]
  congr 1
  ext j
  simp

theorem Circuit.occupancy_corrected {c : Circuit} {a b : List Entry} {x : Entry} (hq : c.queue = a ++ x :: b)
    (hit : Entry → Bool) (e : Entry) : (c.corrected a x b hit e).occupancy ≤ c.occupancy := by
  have hlen : (c.corrected a x b hit e).queue.length ≤ c.queue.length := by
    have hkept : (b.filter fun y => !hit y).length ≤ b.length := List.length_filter_le ..
    rw [Circuit.corrected, hq]
    dsimp only
    split <;> simp only [placeEntry_length, List.length_append, List.length_cons] <;> omega
  exact Nat.add_le_add_right hlen _

namespace State

/-- What a circuit that a correction reaches is like after its turn. -/
def Corrects (s : State) (n : Nat) (t : Take) (p : Priority) (fans : List CircuitId) (i : CircuitId) (d : Circuit) : Prop :=
  ((s.circuit i).queue.any (s.hits t) = false → i ∈ fans ∧
    d = (s.circuit i).entered ((s.circuit i).entryOf n t p)) ∧
  ∀ a x b, (s.circuit i).queue = a ++ x :: b → (∀ y ∈ a, s.hits t y = false) → s.hits t x = true →
    d = (s.circuit i).corrected a x b (s.hits t) ((s.circuit i).entryOf n t p)

variable {s : State} {n : Nat} {t : Take} {p : Priority} {fans : List CircuitId} {i : CircuitId} {d : Circuit}

theorem Corrects.occupancy (h : s.Corrects n t p fans i d) :
    d.occupancy ≤ (s.circuit i).occupancy + if i ∈ fans then 1 else 0 := by
  cases hany : (s.circuit i).queue.any (s.hits t) with
  | false =>
    obtain ⟨hi, rfl⟩ := h.1 hany
    rw [Circuit.occupancy_entered, if_pos hi]
  | true =>
    obtain ⟨a, x, b, hq, ha, hx⟩ := exists_first_of_any hany
    rw [h.2 a x b hq ha hx]
    exact (Circuit.occupancy_corrected hq _ _).trans (Nat.le_add_right _ _)

/-- The premises under which the walk of a correction is described: the take is listed without a reference, records count
theirs, and there is room for an entry on each circuit that gains one. -/
structure Correctable (s : State) (n : Nat) (t : Take) (p : Priority) (fans : List CircuitId) : Prop where
  quiet : s.Quiet
  listed : ∃ v, s.take? n = some v ∧ v.length = t.length
  unnamed : ∀ i, ∀ e ∈ (s.circuit i).queue, e.handle ≠ n
  counted : ∀ m v, s.take? m = some v → v.refs = s.refsTo m
  pool : s.entriesUsed + fans.length ≤ 512
  depth : ∀ i, (s.circuit i).occupancy ≤ (s.circuit i).active.depth
  unshed : ∀ i, (s.circuit i).active.shed = 0
  unbroken : ∀ i, (s.circuit i).flight = none ∨ 2 < p.num
  room : ∀ i ∈ fans, (s.circuit i).occupancy < (s.circuit i).active.depth
  nodup : fans.Nodup

/-- The entries that a correction takes from a circuit. -/
abbrev corrected (s : State) (t : Take) (i : CircuitId) : List Entry := (s.circuit i).queue.filter (s.hits t)

namespace Correctable

variable {done : List CircuitId} {u : State}

theorem used (hu : s.After n 1 (s.Corrects n t p fans) (s.corrected t) done u) (j : CircuitId) :
    (u.circuit j).occupancy ≤ (s.circuit j).occupancy + if j ∈ fans then 1 else 0 := by
  by_cases hj : j ∈ done
  · exact (hu.had j hj).occupancy
  · rw [hu.rest j hj]
    exact Nat.le_add_right _ _

theorem agrees (h : s.Correctable n t p fans) (hu : s.After n 1 (s.Corrects n t p fans) (s.corrected t) done u)
    (hd : done.Nodup) (hi : i ∉ done) {e : Entry} (he : e ∈ (s.circuit i).queue) : u.hits t e = s.hits t e := by
  have hlost (j : CircuitId) (m : Nat) : refsIn (s.corrected t j) m ≤ (s.circuit j).refsTo m := by
    have hsplit := refsIn_filter_add (es := (s.circuit j).queue) (g := m) (s.hits t)
    rw [Circuit.refsTo_eq, corrected]
    omega
  have hpos : 0 < (s.circuit i).refsTo e.handle := by
    rw [Circuit.refsTo_eq]
    exact Nat.add_pos_left (refsIn_pos.2 ⟨e, he, rfl⟩) _
  obtain ⟨k, hk⟩ := hu.take?_waiting hd hi hlost h.counted (h.unnamed i e he) hpos
  exact hits_of_take hk t

/-- The turn of a circuit that holds a match. -/
theorem turn_hold (h : s.Correctable n t p fans) (hu : s.After n 1 (s.Corrects n t p fans) (s.corrected t) done u)
    (hd : done.Nodup) (hi : i ∉ done) (hany : (s.circuit i).queue.any (s.hits t) = true) :
    Turned n 1 (s.Corrects n t p fans i) (s.corrected t i) i u (u.correctOn n t p i) := by
  have hsame := hu.rest i hi
  obtain ⟨v, hv, hlen⟩ := h.listed
  have htake : u.take? n = some { v with refs := v.refs + 1 * done.length } := by
    rw [hu.gained, hv]
    rfl
  have hpool : u.entriesUsed ≤ 512 := by
    have hle := entriesUsed_le (used hu)
    rw [sum_mem_nodup h.nodup] at hle
    exact hle.trans h.pool
  have hturn (a : List Entry) (x : Entry) (b : List Entry) (hq : (s.circuit i).queue = a ++ x :: b)
      (ha : ∀ y ∈ a, s.hits t y = false) (hx : s.hits t x = true) :=
    turned_correctOn (p := p) (r := t) (hu.copy.quiet h.quiet) (by rw [hsame]; exact hq) ha hx
      (fun e he => (u.matchesCorrection_eq t e).trans (h.agrees hu hd hi (hsame ▸ he)))
      (fun e he => h.unnamed i e (hsame ▸ he)) htake hlen (by rw [hsame]; exact h.unshed i)
      (by rw [hsame]; exact h.depth i) hpool (by rw [hsame]; exact h.unbroken i)
  obtain ⟨a, x, b, hq, ha, hx⟩ := exists_first_of_any hany
  refine (hturn a x b hq ha hx).mono (fun _ => ⟨fun hno => ?_, fun a' x' b' hq' ha' hx' => ?_⟩) fun m => by rw [hsame]
  · rw [hany] at hno
    cases hno
  · rw [(hturn a' x' b' hq' ha' hx').own, hsame]

/-- The turn of a circuit that fan-out reaches. -/
theorem turn_fan (h : s.Correctable n t p fans) (hu : s.After n 1 (s.Corrects n t p fans) (s.corrected t) done u)
    (hi : i ∉ done) (hfan : i ∈ fans) (hany : (s.circuit i).queue.any (s.hits t) = false) :
    Turned n 1 (s.Corrects n t p fans i) (s.corrected t i) i u (u.insert i n p) := by
  have hsame := hu.rest i hi
  obtain ⟨v, hv, hlen⟩ := h.listed
  let w : Take := { v with refs := v.refs + 1 * done.length }
  have htake : u.take? n = some w := by
    rw [hu.gained, hv]
    rfl
  have hpool : u.entriesUsed < 512 := by
    have hlt := entriesUsed_lt (i := i) (used hu) (by rw [hsame, if_pos hfan]; exact Nat.lt_succ_self _)
    rw [sum_mem_nodup h.nodup] at hlt
    exact hlt.trans_le h.pool
  have hfull : u.full i = false := not_full (by rw [hsame]; exact h.room i hfan) hpool
  have hno : (s.corrected t i) = [] := List.filter_eq_nil_iff.2 fun e he => by
    simpa using List.any_eq_false.1 hany e he
  have hentry : (s.circuit i).entryOf n w p = (s.circuit i).entryOf n t p :=
    congrArg (fun m => ({ handle := n, prio := p, resume := none, estimate := estimate (s.circuit i).active.form m } : Entry)) hlen
  refine (turned_insert htake (by rw [hsame]; exact Circuit.sheds_of_zero (h.unshed i) p) hfull).mono (fun hoff => ?_)
    fun m => by rw [hno]
  rw [hsame, hentry] at hoff
  refine ⟨fun _ => ⟨hfan, hoff.not (h.unbroken i)⟩, fun a x b hq _ hx => ?_⟩
  have hyes : (s.circuit i).queue.any (s.hits t) = true :=
    List.any_eq_true.2 ⟨x, by rw [hq]; exact List.mem_append_right _ List.mem_cons_self, hx⟩
  rw [hany] at hyes
  cases hyes

end Correctable

section
variable {set : CircuitSet} {holds : List CircuitId}

/-- The walk of a correction, over the circuits that hold a match at its start and the open ones of its route without. -/
theorem correct_walk (hholds : holds = allCircuits.filter fun i => (s.circuit i).queue.any (s.hits t))
    (hfans : fans = allCircuits.filter fun i =>
      set.getLsbD i.val && (s.circuit i).active.accepting && !(s.circuit i).queue.any (s.hits t)) :
    s.correct n t p set = (holds.foldl (fun s i => s.correctOn n t p i) s).insertAll n p fans := by
  have hmatched : s.matched t = holds := by
    have hsame : s.matchesCorrection t = s.hits t := funext (s.matchesCorrection_eq t)
    rw [hholds, matched, hsame]
  have hrest : ((s.openMembers set).filter fun i => !(s.matched t).contains i) = fans := by
    rw [openMembers_eq, List.filter_filter, hfans, hmatched, hholds]
    refine List.filter_congr fun i _ => ?_
    have hcontains : (allCircuits.filter fun i => (s.circuit i).queue.any (s.hits t)).contains i =
        (s.circuit i).queue.any (s.hits t) := by
      rw [Bool.eq_iff_iff, List.contains_iff_mem, List.mem_filter]
      exact and_iff_right (allCircuits_mem i)
    rw [hcontains, Bool.and_comm, Bool.and_comm (set.getLsbD i.val)]
  rw [correct, hrest, hmatched]

theorem correct_after (h : s.Correctable n t p fans)
    (hholds : holds = allCircuits.filter fun i => (s.circuit i).queue.any (s.hits t))
    (hfans : fans = allCircuits.filter fun i =>
      set.getLsbD i.val && (s.circuit i).active.accepting && !(s.circuit i).queue.any (s.hits t)) :
    (holds ++ fans).Nodup ∧ s.After n 1 (s.Corrects n t p fans) (s.corrected t) (holds ++ fans) (s.correct n t p set) := by
  have hholdsMem {i : CircuitId} (hi : i ∈ holds) : (s.circuit i).queue.any (s.hits t) = true := by
    rw [hholds] at hi
    exact (List.mem_filter.1 hi).2
  have hfansMem {i : CircuitId} (hi : i ∈ fans) : (s.circuit i).queue.any (s.hits t) = false := by
    rw [hfans] at hi
    simpa using (Bool.and_eq_true_iff.1 (List.mem_filter.1 hi).2).2
  have hnd : (holds ++ fans).Nodup := by
    refine List.nodup_append.2 ⟨hholds ▸ allCircuits_nodup.filter _, h.nodup, fun i hi j hj he => ?_⟩
    have hyes := hholdsMem hi
    rw [he, hfansMem hj] at hyes
    cases hyes
  have hfirst := (After.start s n 1 (s.Corrects n t p fans) (s.corrected t)).foldl (is := holds)
    (f := fun s i => s.correctOn n t p i) (List.nodup_append.1 hnd).1
    fun done i u hd hi hnot hu => h.turn_hold hu hd hnot (hholdsMem hi)
  rw [correct_walk hholds hfans]
  exact ⟨hnd, hfirst.foldl hnd fun done i u _ hi hnot hu => h.turn_fan hu hnot hi (hfansMem hi)⟩

end

end State

end Sys2Proof.Machine
end


-- ==== sitting 4: the route of a correction (R52 to R55) ====
section
/-! The walk of a correction read as what each circuit and each take record is like after the route. -/

namespace Sys2Proof.Machine

open Sys2Proof

theorem sum_allCircuits (f : CircuitId → Nat) : (allCircuits.map f).sum = ∑ i, f i := by
  rw [Finset.sum_eq_multiset_sum]
  rfl

/-- A sum over some circuits is one over all of them where the others add nothing. -/
theorem sum_map_of_outside {done : List CircuitId} (hnd : done.Nodup) {f : CircuitId → Nat} (h : ∀ i, i ∉ done → f i = 0) :
    (done.map f).sum = (allCircuits.map f).sum := by
  rw [sum_allCircuits, ← List.sum_toFinset f hnd]
  exact Finset.sum_subset (Finset.subset_univ _) fun i _ hi => h i (by simpa using hi)

theorem any_congr_mem {q : List Entry} {f g : Entry → Bool} (h : ∀ e ∈ q, f e = g e) : q.any f = q.any g := by
  rw [Bool.eq_iff_iff, List.any_eq_true, List.any_eq_true]
  exact exists_congr fun e => and_congr_right fun he => by rw [h e he]

theorem Circuit.corrected_congr {c : Circuit} {a b : List Entry} {x e : Entry} {f g : Entry → Bool} (h : ∀ y ∈ b, f y = g y) :
    c.corrected a x b f e = c.corrected a x b g e := by
  have hyes : b.filter f = b.filter g := List.filter_congr h
  have hno : (b.filter fun y => !f y) = b.filter fun y => !g y := List.filter_congr fun y hy => congrArg (!·) (h y hy)
  rw [Circuit.corrected, Circuit.corrected, hyes, hno]

namespace State

variable {s : State} {n : Nat} {t : Take} {y : Story}

theorem counted_of (hr : s.refsCounted) (m : Nat) (v : Take) (hv : s.take? m = some v) : v.refs = s.refsTo m :=
  hr (m, v) (Takes.get_mem hv)

/-- No entry and no flight names a take without references. -/
theorem unnamed_of (hr : s.refsCounted) (ht : s.take? n = some t) (hn : t.refs = 0) (i : CircuitId) :
    n ∉ (s.circuit i).handles := fun hmem => by
  have hpos := (s.refsTo_pos_iff n).2 ⟨i, hmem⟩
  have hcount := counted_of hr n t ht
  omega

theorem touched_take? (p : Priority) {m : Nat} (hm : m ≠ n) :
    ((s.touched y).putTake n (t.indexed p)).take? m = s.take? m := Takes.get_put_other _ _ hm

theorem touched_counted (hr : s.refsCounted) (ht : s.take? n = some t) (p : Priority) (m : Nat) (v : Take)
    (hv : ((s.touched y).putTake n (t.indexed p)).take? m = some v) :
    v.refs = ((s.touched y).putTake n (t.indexed p)).refsTo m := by
  have hrefs : ((s.touched y).putTake n (t.indexed p)).refsTo m = s.refsTo m := rfl
  rw [hrefs]
  by_cases hm : m = n
  · subst hm
    rw [take?_putTake_self] at hv
    cases hv
    exact counted_of hr m t ht
  · rw [touched_take? p hm] at hv
    exact counted_of hr m v hv

/-- Whether an entry matches is the same where the routed take alone has changed. -/
theorem hits_touched (p : Priority) {e : Entry} (he : e.handle ≠ n) :
    ((s.touched y).putTake n (t.indexed p)).hits t e = s.hits t e :=
  hits_of_take (k := id) (by rw [touched_take? p he]; exact Option.map_id'.symm) t

/-- The entries that leave, counted over the circuits reached or over all. -/
theorem sum_corrected {done : List CircuitId} (hnd : done.Nodup)
    (hout : ∀ i, i ∉ done → (s.circuit i).queue.any (s.hits t) = false) (m : Nat) :
    (done.map fun i => refsIn (s.corrected t i) m).sum =
      (allCircuits.map fun i => ((s.circuit i).queue.filter fun e => e.handle == m && s.hits t e).length).sum := by
  refine (sum_map_of_outside hnd fun i hi => ?_).trans (congrArg List.sum (List.map_congr_left fun i _ => ?_))
  · have hnone : s.corrected t i = [] := List.filter_eq_nil_iff.2 fun e he => by
      simpa using List.any_eq_false.1 (hout i hi) e he
    rw [hnone, refsIn_nil]
  · rw [refsIn, corrected, List.filter_filter]

/-- What a correction leaves on a circuit that held a match (R54, R55). -/
theorem Corrects.of_split {p : Priority} {fans : List CircuitId} {i : CircuitId} {d : Circuit} {hit : Entry → Bool}
    (h : s.Corrects n t p fans i d) (hhit : ∀ e ∈ (s.circuit i).queue, s.hits t e = hit e) {a b : List Entry} {x : Entry}
    (hq : (s.circuit i).queue = a ++ x :: b) (ha : a.any hit = false) (hx : hit x = true) :
    d = (s.circuit i).corrected a x b hit ((s.circuit i).entryOf n t p) := by
  rw [hq] at hhit
  refine (h.2 a x b hq (fun e he => ?_) ?_).trans (Circuit.corrected_congr fun e he => ?_)
  · rw [hhit e (List.mem_append_left _ he)]
    simpa using List.any_eq_false.1 ha e he
  · rw [hhit x (List.mem_append_right _ List.mem_cons_self)]
    exact hx
  · exact hhit e (List.mem_append_right _ (List.mem_cons_of_mem _ he))

/-- A circuit after the walk of a correction, by whether it held a match. -/
theorem After.corrected_circuit {p : Priority} {holds fans : List CircuitId} {v : State} {hit : Entry → Bool}
    (h : s.After n 1 (s.Corrects n t p fans) (s.corrected t) (holds ++ fans) v)
    (hholds : holds = allCircuits.filter fun i => (s.circuit i).queue.any (s.hits t)) {i : CircuitId}
    (hhit : ∀ e ∈ (s.circuit i).queue, s.hits t e = hit e) :
    ((s.circuit i).queue.any hit = false →
      v.circuit i = if i ∈ fans then (s.circuit i).entered ((s.circuit i).entryOf n t p) else s.circuit i) ∧
    ∀ a x b, (s.circuit i).queue = a ++ x :: b → a.any hit = false → hit x = true →
      v.circuit i = (s.circuit i).corrected a x b hit ((s.circuit i).entryOf n t p) := by
  have hmem : i ∈ holds ↔ (s.circuit i).queue.any hit = true := by
    rw [hholds, List.mem_filter, any_congr_mem hhit]
    exact and_iff_right (allCircuits_mem i)
  refine ⟨fun hno => ?_, fun a x b hq ha hx => ?_⟩
  · split
    · next hfan => exact ((h.had i (List.mem_append_right _ hfan)).1 ((any_congr_mem hhit).trans hno)).2
    · next hfan =>
      refine h.rest i fun hin => (List.mem_append.1 hin).elim (fun hhold => ?_) hfan
      exact Bool.false_ne_true (hno.symm.trans (hmem.1 hhold))
  · have hyes : (s.circuit i).queue.any hit = true :=
      List.any_eq_true.2 ⟨x, by rw [hq]; exact List.mem_append_right _ List.mem_cons_self, hx⟩
    exact (h.had i (List.mem_append_left _ (hmem.2 hyes))).of_split hhit hq ha hx

/-- The route of a correction of an ACTIVE story, up to its end. -/
theorem route_correction (ht : s.take? n = some t) (hd : t.disp = .correction) (hy : s.story? t.key = some y)
    (hst : y.state = .active) : s.route n =
      (((s.touched y).putTake n (t.indexed (s.routePriority t))).correct n t (s.routePriority t) (s.routeSet t)).endRouting
        n false := by
  have hkill : discardedAfterKill t.disp .active = false := Bool.and_false _
  have hactive : ¬y.state = .killed := by rw [hst]; nofun
  rw [route_found ht hy, if_neg hactive, hkill, disposition, hd]
  rfl

end State

/-- Settles O50. -/
theorem correctionsAndAfterKill : Obligations.CorrectionsAndAfterKill := by
  unfold Obligations.CorrectionsAndAfterKill
  refine ⟨?_, ?_⟩
  · intro s n t y ht hd hr hy hst hw hlow
    have hkill : discardedAfterKill t.disp .killed = true := by
      simp only [discardedAfterKill, bne_iff_ne.2 hd]
      rfl
    have hkeep (u : State) (p : Priority) (set : CircuitSet) : u.disposition n t p set .killed = u := by
      cases hdisp : t.disp with
      | normal => simp only [State.disposition, hdisp, if_true]
      | correction => simp only [State.disposition, hdisp, if_true]
      | kill => exact absurd hdisp hd
    rw [State.route_found ht hy, if_pos hst, hkeep, hkill, State.endRouting_freed ⟨hw, hlow⟩ _ hr, if_pos rfl,
      ← State.story?_key hy]
    rfl
  · intro s n t y ht hd hr hy hst hwf hrefs hw hlow entry set p hit holds fans hpool hcircuits hroom u
    have hq : s.Quiet := ⟨hw, hlow⟩
    have hunnamed (i : CircuitId) (e : Entry) (he : e ∈ (s.circuit i).queue) : e.handle ≠ n := fun heq =>
      State.unnamed_of hrefs ht hr i (List.mem_append_left _ (heq ▸ List.mem_map_of_mem he))
    let w : State := (s.touched y).putTake n (t.indexed p)
    have hcircuit (i : CircuitId) : w.circuit i = s.circuit i := rfl
    have hhits (i : CircuitId) (e : Entry) (he : e ∈ (s.circuit i).queue) : w.hits t e = hit e :=
      State.hits_touched p (hunnamed i e he)
    have hany (i : CircuitId) : (w.circuit i).queue.any (w.hits t) = (s.circuit i).queue.any hit :=
      any_congr_mem (hhits i)
    have hholds : holds = allCircuits.filter fun i => (w.circuit i).queue.any (w.hits t) :=
      List.filter_congr fun i _ => (hany i).symm
    have hfans : fans = allCircuits.filter fun i =>
        set.getLsbD i.val && (w.circuit i).active.accepting && !(w.circuit i).queue.any (w.hits t) :=
      List.filter_congr fun i _ => by rw [hany i]; rfl
    have hroute : u = (w.correct n t p set).endRouting n false := State.route_correction ht hd hy hst
    refine ⟨fun hnone hnone' => ?_, fun hsome => ?_⟩
    · have hwalk := State.correct_walk (n := n) (p := p) hholds hfans
      rw [hnone, hnone'] at hwalk
      rw [hroute, hwalk]
      refine (State.endRouting_freed hq p hr false).trans ?_
      rw [← State.story?_key hy]
      rfl
    · have hcorrect : w.Correctable n t p fans :=
        { quiet := ⟨hw, hlow⟩
          listed := ⟨_, State.take?_putTake_self .., rfl⟩
          unnamed := hunnamed
          counted := State.touched_counted hrefs ht p
          pool := hpool
          depth := fun i => (hcircuits i).1
          unshed := fun i => (hcircuits i).2.1
          unbroken := fun i => (hcircuits i).2.2
          room := hroom
          nodup := allCircuits_nodup.filter _ }
      obtain ⟨hnd, hafter⟩ := State.correct_after (n := n) hcorrect hholds hfans
      have hout (i : CircuitId) (hi : i ∉ holds ++ fans) : (w.circuit i).queue.any (w.hits t) = false := by
        rw [Bool.eq_false_iff]
        exact fun hyes => hi (List.mem_append_left _ (by rw [hholds]; exact List.mem_filter.2 ⟨allCircuits_mem i, hyes⟩))
      let v : State := w.correct n t p set
      have hown : v.take? n = some { t.indexed p with refs := holds.length + fans.length } := by
        have hgained := hafter.gained
        have hlisted : w.take? n = some (t.indexed p) := State.take?_putTake_self ..
        have hzero : (t.indexed p).refs = 0 := hr
        rw [hlisted, Option.map_some, hzero, Nat.zero_add, Nat.one_mul, List.length_append] at hgained
        exact hgained
      have hpos : 0 < holds.length + fans.length := by
        rw [← List.length_append]
        exact List.length_pos_of_ne_nil hsome
      have hend : u = v.modStory t.key fun e => { e with queued := e.queued + 1 } :=
        hroute.trans (State.endRouting_routed hown hpos rfl false)
      have htake (m : Nat) : u.take? m = v.take? m := by
        rw [hend]
        rfl
      have hturn (i : CircuitId) : u.circuit i = v.circuit i := by
        rw [hend]
        rfl
      have hcopy : s.CopyOnly u := by
        rw [hend]
        exact ((State.touched_copyOnly s y n _).trans hafter.copy).trans (State.CopyOnly.modStory ..)
      refine ⟨hcopy.eq, (htake n).trans hown, ?_, ?_⟩
      · intro m z hm hz lost
        have hsum := State.sum_corrected hnd hout m
        have hlost : (allCircuits.map fun i =>
            ((w.circuit i).queue.filter fun e => e.handle == m && w.hits t e).length).sum = lost :=
          congrArg List.sum (List.map_congr_left fun i _ => congrArg List.length
            (List.filter_congr fun e he => by rw [hhits i e he]))
        have hw : w.take? m = some z := (State.touched_take? p hm).trans hz
        rw [htake, hafter.others m hm, hw, hsum.trans hlost, Option.bind_some, Take.lessRefs]
      · intro i c est fresh
        obtain ⟨hplain, hsplit⟩ := hafter.corrected_circuit hholds (hhits i)
        rw [hturn]
        refine ⟨hplain, fun a x b hqueue ha hx => ?_⟩
        have hd := hsplit a x b hqueue ha hx
        have hres : x.resume = none := Option.isNone_iff_eq_none.1 (Bool.and_eq_true_iff.1 hx).1
        refine ⟨fun hprio => ?_, fun hprio => hd.trans (Circuit.corrected_moved hprio)⟩
        have hentry : ({ x with handle := n, estimate := est } : Entry) = fresh := by
          rw [show fresh = ({ handle := n, prio := p, resume := none, estimate := est } : Entry) from rfl, ← hprio, ← hres]
        rw [hentry]
        exact hd.trans (Circuit.corrected_inPlace hprio)

end Sys2Proof.Machine
end


-- ==== sitting 4: the story index full, and kills of unknown stories (R48, R49, R59) ====
section
/-! The kill's priority, the eviction of a story, and what a purge with its cut orders leaves behind. -/

namespace Sys2Proof.Machine

open Sys2Proof

theorem killPriority_eq (p : Priority) : killPriority p = if p = .flash then .flash else .bulletin := by
  cases p <;> rfl

theorem Circuit.sheds_kill (c : Circuit) (p : Priority) : c.sheds (killPriority p) = false := by
  cases p <;> rfl

/-! ### The full index (R49) -/

/-- The least recent story without queued copy gives way. -/
theorem evictStory_append {a b : List Story} {x : Story} (hx : x.queued = 0) (hb : ∀ z ∈ b, z.queued ≠ 0) :
    evictStory (a ++ x :: b) = some (a ++ b) := by
  have hfind := findIdx?_reverse_last (f := fun e : Story => e.queued == 0) (a := a) (beq_iff_eq.2 hx)
    fun z hz => beq_eq_false_iff_ne.2 (hb z hz)
  unfold evictStory
  obtain ⟨m, hm, hplace⟩ := Option.map_eq_some_iff.1 hfind
  simp only [hm, hplace, Option.some.injEq]
  rw [List.eraseIdx_append_of_length_le (Nat.le_refl _), Nat.sub_self, List.eraseIdx_cons_zero]

theorem evictStory_none {es : List Story} (h : ∀ z ∈ es, z.queued ≠ 0) : evictStory es = none := by
  have hfind : es.reverse.findIdx? (fun e => e.queued == 0) = none :=
    List.findIdx?_eq_none_iff.2 fun z hz => beq_eq_false_iff_ne.2 (h z (List.mem_reverse.1 hz))
  simp only [evictStory, hfind]

namespace State

variable {s : State} {n : Nat} {t : Take}

theorem indexStory_full (hnone : s.story? t.key = none) (hlen : s.stories.length = 256) {o : Option (List Story)}
    (ho : evictStory s.stories = o) : s.indexStory n t = o.elim (s.modTake n fun u => { u with unindexed := true }, .unindexed)
      fun es => (({ s with stories := t.newStory :: es } : State).modTake n fun u => { u with story := some t.key }, .fresh) := by
  have hfull : ¬s.stories.length < Config.storyEntries := by
    rw [hlen]
    exact Nat.lt_irrefl 256
  simp only [indexStory, hnone, hfull, if_false, ho]
  cases o <;> rfl

/-! ### A kill of an unknown story (R59) -/

theorem route_freshKill {i : CircuitId} (ht : s.take? n = some t) (hd : t.disp = .kill) (hr : t.refs = 0)
    (hnone : s.story? t.key = none) (hlen : s.stories.length < 256)
    (hset : ∀ j : CircuitId, ((s.routeSet t).getLsbD j.val = true ∧ (s.circuit j).active.accepting = true) ↔ j = i)
    (hfull : s.full i = false) (hf : (s.circuit i).flight = none) :
    s.route n = (({ s with stories := { t.newStory with queued := 1 } :: s.stories } : State).setCircuit i
      ((s.circuit i).entered ((s.circuit i).entryOf n t (killPriority (s.routePriority t))))).putTake n
        { t with adjusted := some (killPriority (s.routePriority t)), story := some t.key, refs := 1 } := by
  let q : Priority := killPriority (s.routePriority t)
  let base : State := { s with stories := t.newStory :: s.stories }
  let w : State := base.putTake n (t.indexed q)
  have hw : w.take? n = some (t.indexed q) := take?_putTake_self ..
  have hmod : (base.putTake n (t.indexed (s.routePriority t))).modTake n (fun u => { u with adjusted := some q }) = w :=
    (modTake_of_take (t := t.indexed (s.routePriority t)) (take?_putTake_self ..) _).trans (putTake_putTake base n _ _)
  have hdisp : (base.putTake n (t.indexed (s.routePriority t))).disposition n t (s.routePriority t) (s.routeSet t) .fresh =
      w.fanOut n q (s.routeSet t) := by
    simp only [disposition, hd, handleKill]
    exact congrArg (fanOut · n q (s.routeSet t)) hmod
  have hput := putTake_putTake (base.setCircuit i ((s.circuit i).entered ((s.circuit i).entryOf n t q))) n (t.indexed q)
    { t.indexed q with refs := t.refs + 1 }
  rw [route_fresh ht hnone hlen, hdisp, fanOut_one (s := w) hset hw (Circuit.sheds_kill _ _) hfull hf]
  exact (congrArg (endRouting · n false) hput).trans (endRouting_one (q := q) hnone hr _ false)

end State

end Sys2Proof.Machine
end


-- ==== sitting 4: what the purge and the cut orders of a kill leave (R56, R57) ====
section
/-! The state between the purge of a kill and its own queueing, against the state at its start. -/

namespace Sys2Proof.Machine

open Sys2Proof

theorem Circuit.without_none (c : Circuit) : (c.without fun _ => false) = c := by
  simp [Circuit.without, queueSum]

theorem Circuit.cutWhere_none (c : Circuit) : (c.cutWhere fun _ => false) = c := by
  simp [Circuit.cutWhere]

theorem Circuit.cutWhere_idle {c : Circuit} (hf : c.flight = none) (p : Nat → Bool) : c.cutWhere p = c := by
  simp only [Circuit.cutWhere, hf, Option.map_none]
  rw [← hf]

theorem Circuit.cutWhere_flies {c : Circuit} {f : Flight} (hf : c.flight = some f) (p : Nat → Bool) :
    c.cutWhere p = if p f.entry.handle = true then c.cutWhere (fun _ => true) else c := by
  simp only [Circuit.cutWhere, hf, Option.map_some]
  split
  · rfl
  · rw [← hf]

/-! ### The sent set (R57) -/

theorem CircuitSet.has_add (c : CircuitSet) (i j : CircuitId) :
    (CircuitSet.add c i).getLsbD j.val = (c.getLsbD j.val || decide (j = i)) := by
  have hone : ∀ i j : CircuitId, ((1 : BitVec 16) <<< i.val).getLsbD j.val = decide (j = i) := by decide
  rw [CircuitSet.add, BitVec.getLsbD_or, hone]

theorem CircuitSet.has_foldl_add (is : List CircuitId) (c : CircuitSet) (j : CircuitId) :
    (is.foldl CircuitSet.add c).getLsbD j.val = (c.getLsbD j.val || decide (j ∈ is)) := by
  induction is generalizing c with
  | nil => simp
  | cons i is ih =>
    rw [List.foldl_cons, ih, CircuitSet.has_add, Bool.or_assoc]
    simp [List.mem_cons]

namespace State

variable {s u v w : State} {n : Nat} {k : StoryKey}

theorem cutStory_eq_foldl (s : State) (k : StoryKey) : s.cutStory k = (s.inFlightOf k).foldl (fun u i =>
    (u.setCircuit i ((u.circuit i).cutWhere fun _ => true)).modStory k fun e =>
      { e with sent := CircuitSet.add e.sent i }) s := by
  have hflies : ∀ i ∈ s.inFlightOf k, (s.circuit i).flight.isSome = true := fun i hi => by
    have hmem := (List.mem_filter.1 hi).2
    cases hf : (s.circuit i).flight with
    | none => simp [hf] at hmem
    | some f => rfl
  unfold cutStory
  generalize s.inFlightOf k = is at hflies
  induction is generalizing s with
  | nil => rfl
  | cons i is ih =>
    obtain ⟨f, hf⟩ := Option.isSome_iff_exists.1 (hflies i List.mem_cons_self)
    have hcut : s.cutOrder i f.entry.handle = s.setCircuit i ((s.circuit i).cutWhere fun _ => true) := by
      rw [cutOrder_eq]
      refine congrArg (s.setCircuit i) ?_
      simp only [Circuit.cutWhere, hf, Option.map_some, beq_self_eq_true]
    rw [List.foldl_cons, List.foldl_cons]
    simp only [hf, hcut]
    refine ih _ fun j hj => ?_
    rw [modStory_circuit, setCircuit_circuit]
    split
    · simp only [Circuit.cutWhere, Option.isSome_map, hf, Option.isSome_some]
    · exact hflies j (List.mem_cons_of_mem _ hj)

theorem cutStory_keeps (s : State) (k : StoryKey) : s.CopyOnly (s.cutStory k) ∧ (s.cutStory k).store = s.store := by
  rw [cutStory_eq_foldl]
  refine List.foldlRecOn (motive := fun u => s.CopyOnly u ∧ u.store = s.store) _ _ ⟨.refl s, rfl⟩ fun u hu i _ => ?_
  exact ⟨(hu.1.trans (setCircuit_copyOnly ..)).trans (CopyOnly.modStory ..), hu.2⟩

theorem cutStory_story (s : State) (k : StoryKey) : (s.cutStory k).story? k = (s.story? k).map fun e =>
    { e with sent := (s.inFlightOf k).foldl CircuitSet.add e.sent } := by
  rw [cutStory_eq_foldl]
  generalize s.inFlightOf k = is
  induction is generalizing s with
  | nil => exact Option.map_id'.symm
  | cons i is ih =>
    rw [List.foldl_cons, ih,
      story?_modStory _ k k (f := fun e => { e with sent := CircuitSet.add e.sent i }) (fun _ => rfl), Option.map_map]
    cases hy : s.story? k with
    | none =>
      have hnone : (s.setCircuit i ((s.circuit i).cutWhere fun _ => true)).story? k = none := hy
      rw [hnone]
      rfl
    | some y =>
      have hsome : (s.setCircuit i ((s.circuit i).cutWhere fun _ => true)).story? k = some y := hy
      rw [hsome]
      simp only [Option.map_some, Function.comp_apply, story?_key hy, if_true, List.foldl_cons]

/-! ### The purge with its cut orders -/

/-- Of `gone` takes every queued entry left, and their contexts are cut; the take `n` is as it was. -/
structure Purged (w : State) (n : Nat) (k : StoryKey) (gone : Nat → Bool) (v : State) : Prop where
  copy : w.CopyOnly v
  circuit : ∀ i, v.circuit i = ((w.circuit i).without fun e => gone e.handle).cutWhere gone
  others : ∀ m, m ≠ n → v.take? m = (w.take? m).bind (·.lessRefs
    (allCircuits.map fun i => refsIn ((w.circuit i).queue.filter fun e => gone e.handle) m).sum)
  own : v.take? n = w.take? n
  story : ∀ y, w.story? k = some y → ∃ z, v.story? k = some z ∧ z.state = y.state ∧ ∀ i : CircuitId,
    z.sent.getLsbD i.val = (y.sent.getLsbD i.val || (w.circuit i).flight.any fun f => gone f.entry.handle)

theorem purged_none (w : State) (n : Nat) (k : StoryKey) : w.Purged n k (fun _ => false) w where
  copy := .refl w
  circuit i := by rw [Circuit.without_none, Circuit.cutWhere_none]
  others m _ := by
    have hnone (i : CircuitId) : refsIn ((w.circuit i).queue.filter fun _ => false) m = 0 := by
      rw [List.filter_false, refsIn_nil]
    simp only [hnone]
    exact (lessRefs_none _).symm
  own := rfl
  story y hy := ⟨y, hy, rfl, fun i => by simp⟩

theorem purge_after (hq : w.Quiet) (hr : w.refsCounted) (hn : ∀ i, n ∉ (w.circuit i).handles) (k : StoryKey) :
    w.After n 0 (fun i d => d = (w.circuit i).without fun e => w.ofStory k e.handle)
      (fun i => (w.circuit i).queue.filter fun e => w.ofStory k e.handle) allCircuits (w.purge k) := by
  rw [purge_eq hr]
  refine (After.start w n 0 _ _).foldl (is := allCircuits) allCircuits_nodup fun done i u _ _ hi hu => ?_
  have hsame := hu.rest i hi
  rw [removeEntries_eq, hsame]
  refine turned_dropRefs (hu.copy.quiet hq) i _ fun e he heq => hn i ?_
  exact List.mem_append_left _ (heq ▸ List.mem_map_of_mem (List.mem_filter.1 he).1)

theorem purged_story (hq : w.Quiet) (hr : w.refsCounted) (hn : ∀ i, n ∉ (w.circuit i).handles) (k : StoryKey) :
    w.Purged n k (w.ofStory k) ((w.purge k).cutStory k) := by
  have hafter := purge_after hq hr hn k
  have hcut := cutStory_keeps (w.purge k) k
  have htake (m : Nat) : ((w.purge k).cutStory k).take? m = (w.purge k).take? m := by
    rw [take?, hcut.2]
    rfl
  have hcircuit (i : CircuitId) : (w.purge k).circuit i = (w.circuit i).without fun e => w.ofStory k e.handle :=
    purge_circuit hr k i
  have hflight (i : CircuitId) {f : Flight} (hf : (w.circuit i).flight = some f) :
      i ∈ (w.purge k).inFlightOf k ↔ w.ofStory k f.entry.handle = true := by
    have hf' : ((w.purge k).circuit i).flight = some f := by
      rw [hcircuit]
      exact hf
    have hmem : f.entry.handle ∈ ((w.purge k).circuit i).handles :=
      List.mem_append_right _ (by rw [hf']; exact List.mem_singleton.2 rfl)
    rw [mem_inFlightOf hf', (purge_traced hr k).ofStory_of_handles k hmem]
  have hidle (i : CircuitId) (hf : (w.circuit i).flight = none) : i ∉ (w.purge k).inFlightOf k := fun hmem => by
    have hf' : ((w.purge k).circuit i).flight = none := by
      rw [hcircuit]
      exact hf
    have hyes := (List.mem_filter.1 hmem).2
    simp [hf'] at hyes
  refine ⟨hafter.copy.trans hcut.1, fun i => ?_, fun m hm => (htake m).trans (hafter.others m hm), ?_, fun y hy => ?_⟩
  · rw [cutStory_circuit, hcircuit]
    let c : Circuit := (w.circuit i).without fun e => w.ofStory k e.handle
    cases hf : (w.circuit i).flight with
    | none => rw [if_neg (hidle i hf), Circuit.cutWhere_idle (c := c) hf]
    | some f => rw [Circuit.cutWhere_flies (c := c) hf (w.ofStory k), if_congr (hflight i hf) rfl rfl]
  · rw [htake, hafter.gained]
    simp only [Nat.zero_mul, Nat.add_zero]
    exact Option.map_id'
  · have hstand := hafter.stories k
    rw [hy, Option.map_some] at hstand
    obtain ⟨z, hz, hzy⟩ := Option.map_eq_some_iff.1 hstand
    have hstate : z.state = y.state := congrArg Prod.fst hzy
    have hsent : z.sent = y.sent := congrArg Prod.snd hzy
    refine ⟨{ z with sent := ((w.purge k).inFlightOf k).foldl CircuitSet.add z.sent }, ?_, hstate, fun i => ?_⟩
    · rw [cutStory_story, hz]
      rfl
    · have hflies : (w.circuit i).flight.any (fun f => w.ofStory k f.entry.handle) = decide (i ∈ (w.purge k).inFlightOf k) := by
        cases hf : (w.circuit i).flight with
        | none => exact (decide_eq_false (hidle i hf)).symm
        | some f =>
          rw [Option.any_some, Bool.eq_iff_iff, decide_eq_true_iff]
          exact (hflight i hf).symm
      rw [hflies, ← hsent]
      dsimp only
      rw [CircuitSet.has_foldl_add]

end State

end Sys2Proof.Machine
end


-- ==== sitting 4: kills of indexed stories (R56 to R58) ====
section
/-! A kill queued on the circuits of the sent set, and the state it leaves against the state at its start. -/

namespace Sys2Proof.Machine

open Sys2Proof

namespace State

variable {s w v : State} {n : Nat} {t r : Take} {y : Story} {p : Priority} {gone : Nat → Bool}

/-! ### The kill's own entries (R58) -/

/-- A kill inserted on circuits with room, one after the other. -/
theorem insertAll_after (hp : ∀ c : Circuit, c.sheds p = false) (hr : w.take? n = some r) (hlen : r.length = t.length)
    (hroom : ∀ i, (w.circuit i).occupancy < (w.circuit i).active.depth) (hpool : w.entriesUsed + 16 ≤ 512)
    {is : List CircuitId} (hnd : is.Nodup) :
    w.After n 1 (fun i d => ((w.circuit i).entered ((w.circuit i).entryOf n t p)).Offered p d) (fun _ => []) is
      (w.insertAll n p is) := by
  refine (After.start w n 1 _ _).foldl (f := fun u i => u.insert i n p) hnd fun done i u _ _ hi hu => ?_
  have hsame := hu.rest i hi
  have htake : u.take? n = some { r with refs := r.refs + 1 * done.length } := by
    rw [hu.gained, hr]
    rfl
  have hused (j : CircuitId) : (u.circuit j).occupancy ≤ (w.circuit j).occupancy + 1 := by
    by_cases hj : j ∈ done
    · rw [(hu.had j hj).occupancy, Circuit.occupancy_entered]
    · rw [hu.rest j hj]
      exact Nat.le_succ _
  have hlt := entriesUsed_lt (s := w) (u := u) (x := fun _ => 1) (i := i) hused (by rw [hsame]; exact Nat.lt_succ_self _)
  have hsum : (∑ _j : CircuitId, 1) = 16 := by simp
  rw [hsum] at hlt
  have hfull : u.full i = false := not_full (by rw [hsame]; exact hroom i) (hlt.trans_le hpool)
  have hentry : (u.circuit i).entryOf n { r with refs := r.refs + 1 * done.length } p = (u.circuit i).entryOf n t p :=
    congrArg (fun m => ({ handle := n, prio := p, resume := none, estimate := estimate (u.circuit i).active.form m } : Entry))
      hlen
  refine (turned_insert htake (hp _) hfull).mono (fun hoff => ?_) fun _ => rfl
  rw [hentry, hsame] at hoff
  exact hoff

/-! ### The state that a kill leaves -/

/-- The circuits that a kill of a story reaches (R57, R58). -/
def killReaches (s : State) (y : Story) (gone : Nat → Bool) (i : CircuitId) : Bool :=
  y.sent.getLsbD i.val || ((s.circuit i).flight.any fun f => gone f.entry.handle)

/-- A circuit after the purge and the cut orders. -/
def purgedCircuit (s : State) (gone : Nat → Bool) (i : CircuitId) : Circuit :=
  ((s.circuit i).without fun e => gone e.handle).cutWhere gone

/-- What a kill leaves of the state it began in, up to the end of its routing. -/
structure Killed (s : State) (n : Nat) (t : Take) (y : Story) (p : Priority) (gone : Nat → Bool) (v : State) : Prop where
  copy : s.CopyOnly v
  listed : v.take? n = some { t.indexed p with refs := (allCircuits.filter (s.killReaches y gone)).length }
  others : ∀ m, m ≠ n → v.take? m = (s.take? m).bind (·.lessRefs
    (allCircuits.map fun i => refsIn ((s.circuit i).queue.filter fun e => gone e.handle) m).sum)
  story : ∃ z, v.story? t.key = some z ∧ z.state = .killed ∧ ∀ i : CircuitId, z.sent.getLsbD i.val = s.killReaches y gone i
  entered : ∀ i, s.killReaches y gone i = true →
    ((s.purgedCircuit gone i).entered ((s.purgedCircuit gone i).entryOf n t p)).Offered p (v.circuit i)
  rest : ∀ i, s.killReaches y gone i = false → v.circuit i = s.purgedCircuit gone i

theorem purgedCircuit_occupancy (s : State) (gone : Nat → Bool) (i : CircuitId) :
    (s.purgedCircuit gone i).occupancy ≤ (s.circuit i).occupancy := by
  have hqueue : (s.purgedCircuit gone i).queue.length ≤ (s.circuit i).queue.length := List.length_filter_le ..
  have hflight : (s.purgedCircuit gone i).flight.isSome = (s.circuit i).flight.isSome := Option.isSome_map
  rw [Circuit.occupancy, Circuit.occupancy, hflight]
  exact Nat.add_le_add_right hqueue _

/-- The kill queued after the purge of its story, and the story then KILLED. -/
theorem Purged.killed {w1 : State} (hw : s.CopyOnly w) (hcircuits : ∀ i, w.circuit i = s.circuit i)
    (hp : w.Purged n t.key gone w1) (hpr : ∀ c : Circuit, c.sheds p = false) (hlisted : w.take? n = some r)
    (hr : ({ r with adjusted := some p } : Take) = t.indexed p) (hzero : t.refs = 0)
    (htakes : ∀ m, m ≠ n → w.take? m = s.take? m) (hstory : w.story? t.key = some y)
    (hroom : ∀ i, (s.circuit i).occupancy < (s.circuit i).active.depth) (hpool : s.entriesUsed + 16 ≤ 512) (active : Bool)
    (hstate : active = false → y.state = .killed) :
    s.Killed n t y p gone (if active then ((w1.modTake n fun u => { u with adjusted := some p }).queueKill n p t.key).modStory
      t.key fun e => { e with state := .killed }
      else (w1.modTake n fun u => { u with adjusted := some p }).queueKill n p t.key) := by
  let w2 : State := w1.modTake n fun u => { u with adjusted := some p }
  have hw2 : w2 = w1.putTake n (t.indexed p) := (modTake_of_take (hp.own.trans hlisted) _).trans (congrArg _ hr)
  have hpurged (i : CircuitId) : w2.circuit i = s.purgedCircuit gone i := by
    rw [hw2, putTake_circuit, hp.circuit, hcircuits]
    rfl
  obtain ⟨z, hz, hzstate, hzsent⟩ := hp.story y hstory
  have hz2 : w2.story? t.key = some z := by
    rw [hw2]
    exact hz
  have hreached : CircuitSet.members (w2.sentSet t.key) = allCircuits.filter (s.killReaches y gone) := by
    rw [sentSet, hz2]
    exact List.filter_congr fun i _ => (hzsent i).trans (by rw [hcircuits, killReaches])
  let reached : List CircuitId := allCircuits.filter (s.killReaches y gone)
  have hmem (i : CircuitId) : i ∈ reached ↔ s.killReaches y gone i = true := by
    rw [List.mem_filter]
    exact and_iff_right (allCircuits_mem i)
  have hused : w2.entriesUsed + 16 ≤ 512 := by
    have hle := entriesUsed_le (s := s) (u := w2) (x := fun _ => 0) fun j => by
      rw [hpurged]
      exact s.purgedCircuit_occupancy gone j
    rw [Finset.sum_const_zero] at hle
    omega
  have htake2 : w2.take? n = some (t.indexed p) := by
    rw [hw2]
    exact take?_putTake_self ..
  have hafter := insertAll_after (t := t) hpr htake2 rfl
    (fun i => by rw [hpurged]; exact (s.purgedCircuit_occupancy gone i).trans_lt (hroom i)) hused
    (is := reached) (allCircuits_nodup.filter _)
  have hv : w2.queueKill n p t.key = w2.insertAll n p reached := by rw [queueKill, hreached]
  let u : State := w2.queueKill n p t.key
  have hu : w2.After n 1 _ _ reached u := hv ▸ hafter
  obtain ⟨zu, hzu, hstand⟩ := Option.map_eq_some_iff.1 ((hu.stories t.key).trans (congrArg _ hz2))
  have hzustate : zu.state = y.state := (congrArg Prod.fst hstand).trans hzstate
  have hzusent (i : CircuitId) : zu.sent.getLsbD i.val = s.killReaches y gone i := by
    have hsent : zu.sent = z.sent := congrArg Prod.snd hstand
    rw [hsent, hzsent, hcircuits, killReaches]
  have hcopy : s.CopyOnly u := by
    refine ((hw.trans hp.copy).trans ?_).trans hu.copy
    rw [hw2]
    exact CopyOnly.putTake ..
  have hown : u.take? n = some { t.indexed p with refs := reached.length } := by
    have hgained := hu.gained
    have hrefs : (t.indexed p).refs = 0 := hzero
    rw [htake2, Option.map_some, hrefs, Nat.zero_add, Nat.one_mul] at hgained
    exact hgained
  have hothers (m : Nat) (hm : m ≠ n) : u.take? m = (s.take? m).bind (·.lessRefs
      (allCircuits.map fun i => refsIn ((s.circuit i).queue.filter fun e => gone e.handle) m).sum) := by
    have hnone : (reached.map fun _ => refsIn [] m).sum = 0 := by simp
    have hput : w2.take? m = w1.take? m := by
      rw [hw2]
      exact Takes.get_put_other _ _ hm
    rw [hu.others m hm, hnone, lessRefs_none, hput, hp.others m hm, htakes m hm]
    simp only [hcircuits]
  have hentered (i : CircuitId) (hi : s.killReaches y gone i = true) :
      ((s.purgedCircuit gone i).entered ((s.purgedCircuit gone i).entryOf n t p)).Offered p (u.circuit i) := by
    rw [← hpurged]
    exact hu.had i ((hmem i).2 hi)
  have hrest (i : CircuitId) (hi : s.killReaches y gone i = false) : u.circuit i = s.purgedCircuit gone i := by
    rw [← hpurged]
    exact hu.rest i fun hin => Bool.false_ne_true (hi.symm.trans ((hmem i).1 hin))
  cases active with
  | true =>
    refine ⟨hcopy.trans (CopyOnly.modStory ..), hown, hothers, ⟨{ zu with state := .killed }, ?_, rfl, hzusent⟩,
      hentered, hrest⟩
    refine (story?_modStory u t.key t.key (f := fun e => { e with state := .killed }) fun _ => rfl).trans ?_
    rw [hzu, Option.map_some, if_pos (story?_key hzu)]
  | false =>
    exact ⟨hcopy, hown, hothers, ⟨zu, hzu, hzustate.trans (hstate rfl), hzusent⟩, hentered, hrest⟩

end State

end Sys2Proof.Machine
end


-- ==== sitting 4: the route of a kill (R49, R56 to R59) ====
section
/-! The state a kill leaves, read as what each circuit, each take record and the story are like after the route. -/

namespace Sys2Proof.Machine

open Sys2Proof

/-! ### Circuits after a kill (R57, R58) -/

theorem Flight.cutOrder_eq (f : Flight) (gone : Bool) : (if gone = true then { f with ctx := f.ctx.cutOrder } else f) =
    { f with ctx := { f.ctx with cut := f.ctx.cut || (gone && f.ctx.phase.cuttable) } } := by
  unfold Context.cutOrder
  cases gone <;> cases f.ctx.phase.cuttable <;> simp

/-- An insertion changes the take in flight by a break-in offered alone. -/
theorem Circuit.Offered.shape {c d : Circuit} {p : Priority} (h : c.Offered p d) : d = { c with flight := d.flight } ∧
    (c.flight = none → d.flight = none) ∧
    ∀ f, c.flight = some f → ∃ b : Bool, d.flight = some { f with ctx := { f.ctx with breakIn := b } } := by
  rcases h with rfl | ⟨-, f, hf, rfl⟩
  · exact ⟨rfl, id, fun f hf => ⟨f.ctx.breakIn, hf⟩⟩
  · refine ⟨rfl, fun hnone => ?_, fun g hg => ⟨true, ?_⟩⟩
    · rw [hnone] at hf
      cases hf
    · rw [hf] at hg
      cases hg
      rfl

/-- A circuit as a kill leaves it, the take in flight apart (R56, R58). -/
def Circuit.afterKill (c : Circuit) (gone : Nat → Bool) (sent : Bool) (e : Entry) (fl : Option Flight) : Circuit :=
  { c with
    queue := if sent then placeEntry (c.queue.filter fun x => !gone x.handle) e else c.queue.filter fun x => !gone x.handle
    backlog :=
      if sent then c.backlog - queueSum (c.queue.filter fun x => gone x.handle) + e.estimate
      else c.backlog - queueSum (c.queue.filter fun x => gone x.handle)
    flight := fl }

namespace State

variable {s u v w : State} {n : Nat} {t : Take} {y : Story} {p : Priority} {gone : Nat → Bool}

theorem Killed.circuit (h : s.Killed n t y p gone v) (i : CircuitId) :
    v.circuit i = (s.circuit i).afterKill gone (s.killReaches y gone i) ((s.circuit i).entryOf n t p) (v.circuit i).flight ∧
    ((s.circuit i).flight = none → (v.circuit i).flight = none) ∧
    ∀ f, (s.circuit i).flight = some f → ∃ b : Bool, (v.circuit i).flight = some { f with
      ctx := { f.ctx with cut := f.ctx.cut || (gone f.entry.handle && f.ctx.phase.cuttable), breakIn := b } } := by
  let k : Circuit := s.purgedCircuit gone i
  have hflight (f : Flight) (hf : (s.circuit i).flight = some f) : k.flight =
      some { f with ctx := { f.ctx with cut := f.ctx.cut || (gone f.entry.handle && f.ctx.phase.cuttable) } } := by
    have hmap : k.flight = (s.circuit i).flight.map fun f =>
      if gone f.entry.handle = true then { f with ctx := f.ctx.cutOrder } else f := rfl
    rw [hmap, hf, Option.map_some, Flight.cutOrder_eq]
  have hidle (hf : (s.circuit i).flight = none) : k.flight = none := by
    have hmap : k.flight = (s.circuit i).flight.map fun f =>
      if gone f.entry.handle = true then { f with ctx := f.ctx.cutOrder } else f := rfl
    rw [hmap, hf, Option.map_none]
  cases hi : s.killReaches y gone i with
  | true =>
    obtain ⟨hshape, hnone, hsome⟩ := (h.entered i hi).shape
    exact ⟨hshape, fun hf => hnone (hidle hf), fun f hf => hsome _ (hflight f hf)⟩
  | false =>
    rw [h.rest i hi]
    exact ⟨rfl, hidle, fun f hf => ⟨f.ctx.breakIn, hflight f hf⟩⟩

/-! ### References after a kill (R38) -/

theorem refsIn_filter_handle (q : List Entry) (gone : Nat → Bool) (m : Nat) :
    refsIn (q.filter fun e => gone e.handle) m = if gone m then refsIn q m else 0 := by
  induction q with
  | nil => simp
  | cons e q ih =>
    rw [List.filter_cons, refsIn_cons]
    by_cases he : e.handle = m
    · rw [he]
      cases hm : gone m <;> simp [hm, refsIn_cons, ih, he]
    · cases hg : gone e.handle <;> simp [refsIn_cons, ih, he]

theorem length_filter_eq_sum (is : List CircuitId) (f : CircuitId → Bool) :
    (is.filter f).length = (is.map fun i => if f i then 1 else 0).sum := by
  induction is with
  | nil => rfl
  | cons i is ih =>
    rw [List.filter_cons, List.map_cons, List.sum_cons, ← ih]
    cases f i <;> simp [Nat.add_comm]

/-- The references to a take: its queued entries, and the circuits that have it in flight. -/
theorem refsTo_split (s : State) (m : Nat) : s.refsTo m =
    (allCircuits.map fun i => refsIn (s.circuit i).queue m).sum +
      (allCircuits.filter fun i => (s.circuit i).flight.any fun f => f.entry.handle == m).length := by
  rw [length_filter_eq_sum, sum_allCircuits, sum_allCircuits, ← Finset.sum_add_distrib, refsTo_eq_sum]
  refine Finset.sum_congr rfl fun i _ => ?_
  rw [Circuit.refsTo_eq, Circuit.flightRef]
  cases (s.circuit i).flight with
  | none => simp
  | some f => simp

theorem Killed.take (h : s.Killed n t y p gone v) (hr : s.refsCounted) {m : Nat} {z : Take} (hm : m ≠ n)
    (hz : s.take? m = some z) :
    let queued := (allCircuits.map fun i => refsIn (s.circuit i).queue m).sum
    let left := (allCircuits.filter fun i => (s.circuit i).flight.any fun f => f.entry.handle == m).length
    v.take? m = if gone m = false ∨ queued = 0 then some z else if left = 0 then none else some { z with refs := left } := by
  intro queued left
  have hrefs : z.refs = queued + left := (counted_of hr m z hz).trans (s.refsTo_split m)
  have hlost : (allCircuits.map fun i => refsIn ((s.circuit i).queue.filter fun e => gone e.handle) m).sum =
      if gone m then queued else 0 := by
    simp only [refsIn_filter_handle]
    cases gone m with
    | false => simp
    | true => rfl
  rw [h.others m hm, hz, hlost, Option.bind_some]
  cases hg : gone m with
  | false => rw [if_neg Bool.false_ne_true, Take.lessRefs_zero, if_pos (.inl rfl)]
  | true =>
    rw [if_pos rfl, Take.lessRefs]
    by_cases hq : queued = 0
    · rw [if_pos hq, if_pos (.inr hq)]
    · have hnot : ¬(true = false ∨ queued = 0) := fun h => h.elim Bool.true_eq_false.mp hq
      rw [if_neg hq, if_neg hnot, hrefs, Nat.add_sub_cancel_left]
      exact if_congr (by omega) rfl rfl

end State

end Sys2Proof.Machine
end


-- ==== sitting 4: kills settled (R49, R56 to R59) ====
section
/-! The kill of an indexed story, by whether the story was ACTIVE. -/

namespace Sys2Proof.Machine

open Sys2Proof

namespace State

variable {s u v w : State} {n : Nat} {t : Take} {y : Story}

theorem story?_touched (hy : s.story? t.key = some y) (p : Priority) :
    ((s.touched y).putTake n (t.indexed p)).story? t.key = some y := by
  have hkey := story?_key hy
  exact List.find?_cons_of_pos (by rw [hkey]; exact beq_self_eq_true _)

theorem touched_refsCounted (hw : Takes.wf s.store.takes = true) (hr : s.refsCounted) (ht : s.take? n = some t)
    (p : Priority) : ((s.touched y).putTake n (t.indexed p)).refsCounted := fun e he => by
  have hwf := Takes.wf_put (t.indexed p) hw (Takes.lt_of_get hw ht)
  exact touched_counted hr ht p e.1 e.2 (Takes.get_of_mem (Takes.wf_sorted hwf) he)

/-- The story of a take is read the same where the routed take is indexed. -/
theorem ofStory_touched (ht : s.take? n = some t) (p : Priority) (k : StoryKey) :
    ((s.touched y).putTake n (t.indexed p)).ofStory k = s.ofStory k := by
  funext m
  unfold ofStory
  by_cases hm : m = n
  · rw [hm, ht, take?_putTake_self]
    rfl
  · rw [touched_take? p hm]

/-- The route of a kill of an indexed story, up to its end (R56 to R58). -/
theorem route_kill (ht : s.take? n = some t) (hd : t.disp = .kill) (hz : t.refs = 0) (hy : s.story? t.key = some y)
    (hw : Takes.wf s.store.takes = true) (hr : s.refsCounted) (hq : s.Quiet) (hpool : s.entriesUsed + 16 ≤ 512)
    (hroom : ∀ i, (s.circuit i).occupancy < (s.circuit i).active.depth) :
    ∃ v, s.route n = v.endRouting n false ∧
      s.Killed n t y (killPriority (s.routePriority t)) (fun m => decide (y.state = .active) && s.ofStory t.key m) v := by
  let p0 : Priority := s.routePriority t
  let p : Priority := killPriority p0
  let base : State := (s.touched y).putTake n (t.indexed p0)
  have hlisted : base.take? n = some (t.indexed p0) := take?_putTake_self ..
  have hfate (c : StoryCase) : discardedAfterKill t.disp c = false := by
    rw [hd]
    rfl
  have hdisp (c : StoryCase) : base.disposition n t p0 (s.routeSet t) c = base.handleKill n t p0 (s.routeSet t) c := by
    simp only [disposition, hd]
  have hkilled {gone : Nat → Bool} {w1 : State} (hp : base.Purged n t.key gone w1) :=
    Purged.killed (s := s) (p := p) (touched_copyOnly s y n _) (fun _ => rfl) hp (fun c => c.sheds_kill p0) hlisted rfl hz
      (fun m hm => touched_take? p0 hm) (story?_touched hy p0) hroom hpool
  rw [route_found ht hy, hfate]
  cases hst : y.state with
  | active =>
    have hgone : (fun m => decide (StoryState.active = .active) && s.ofStory t.key m) = base.ofStory t.key :=
      (funext fun m => Bool.true_and _).trans (ofStory_touched ht p0 t.key).symm
    have hpurged := purged_story (w := base) ⟨hq.waiting, hq.low⟩ (touched_refsCounted hw hr ht p0)
      (fun i => unnamed_of hr ht hz i) t.key
    refine ⟨_, congrArg (endRouting · n false) (hdisp .active), ?_⟩
    rw [hgone]
    exact hkilled hpurged true nofun
  | killed =>
    refine ⟨_, congrArg (endRouting · n false) (hdisp .killed), ?_⟩
    exact hkilled (purged_none base n t.key) false fun _ => hst

/-- What the end of a kill's routing leaves of what the kill did: the take is counted with its story, or freed and counted as
unrouted. -/
theorem Killed.ends {p : Priority} {gone : Nat → Bool} (h : s.Killed n t y p gone v) (hq : s.Quiet) :
    (0 < (allCircuits.filter (s.killReaches y gone)).length → s.CopyOnly (v.endRouting n false) ∧
      (v.endRouting n false).take? n = v.take? n) ∧
    ((allCircuits.filter (s.killReaches y gone)).length = 0 →
      (∃ w, s.CopyOnly w ∧ v.endRouting n false = w.countLink t.link .unrouted 1) ∧
      (v.endRouting n false).take? n = none) ∧
    (∀ m, m ≠ n → (v.endRouting n false).take? m = v.take? m) ∧
    (∀ i, (v.endRouting n false).circuit i = v.circuit i) ∧
    ∀ z, v.story? t.key = some z → ∃ z', (v.endRouting n false).story? t.key = some z' ∧ z'.standing = z.standing := by
  rcases Nat.eq_zero_or_pos (allCircuits.filter (s.killReaches y gone)).length with hzero | hpos
  · have hfreed := endRouting_unrouted (h.copy.quiet hq) h.listed hzero false
    let freed : State := v.modStore fun st => { st with takes := Takes.erase st.takes n, free := st.free + t.chain.length }
    have hcopy : v.CopyOnly freed := rfl
    rw [hfreed]
    refine ⟨fun hpos => absurd hzero (Nat.ne_of_gt hpos), fun _ => ⟨⟨freed, h.copy.trans hcopy, rfl⟩, ?_⟩, fun m hm => ?_,
      fun i => rfl, fun z hz => ⟨z, hz, rfl⟩⟩
    · exact Takes.get_erase_self ..
    · exact Takes.get_erase_other _ hm
  · have hrouted := endRouting_routed h.listed hpos rfl false
    rw [hrouted]
    refine ⟨fun _ => ⟨h.copy.trans (CopyOnly.modStory ..), rfl⟩, fun hzero => absurd hzero (Nat.ne_of_gt hpos),
      fun m _ => rfl, fun i => rfl, fun z hz => ?_⟩
    obtain ⟨z', hz', hst⟩ := Option.map_eq_some_iff.1
      ((modStory_stand v t.key (f := fun e => { e with queued := e.queued + 1 }) (fun _ => rfl) (fun _ => rfl) t.key).trans
        (congrArg _ hz))
    exact ⟨z', hz', hst⟩

end State

/-- Settles O51. -/
theorem killsCloseStories : Obligations.KillsCloseStories := by
  unfold Obligations.KillsCloseStories
  refine ⟨?_, ?_, ?_⟩
  · intro s n t y ht hd hz hy hwf hr hw hlow hpool hroom adjusted p gone flies sent reached u changed
    have hq : s.Quiet := ⟨hw, hlow⟩
    obtain ⟨v, hroute, hkilled⟩ := State.route_kill ht hd hz hy hwf hr hq hpool hroom
    have hp : killPriority (s.routePriority t) = p := killPriority_eq _
    rw [hp] at hkilled
    have hu : u = v.endRouting n false := hroute
    obtain ⟨hrouted, hunrouted, hothers, hcircuit, hstory⟩ := hkilled.ends hq
    rw [← hu] at hrouted hunrouted hothers hcircuit hstory
    refine ⟨fun hsome => ?_, fun hnone => ?_, ?_, fun m z hm hlisted => ?_, fun i => ?_⟩
    · obtain ⟨hcopy, htake⟩ := hrouted (List.length_pos_of_ne_nil hsome)
      exact ⟨hcopy.eq, htake.trans hkilled.listed⟩
    · obtain ⟨⟨x, hcopy, hx⟩, htake⟩ := hunrouted (List.length_eq_zero_iff.2 hnone)
      refine ⟨hx.trans ?_, htake⟩
      have hchanged : changed = x := by
        simp only [changed]
        rw [hx]
        exact hcopy.eq.symm
      rw [hchanged]
    · obtain ⟨z, hz', hstate, hsent⟩ := hkilled.story
      obtain ⟨z', hz'', hstand⟩ := hstory z hz'
      exact ⟨z', hz'', (congrArg Prod.fst hstand).trans hstate, fun i =>
        (congrArg (fun c : CircuitSet => c.getLsbD i.val) (congrArg Prod.snd hstand)).trans (hsent i)⟩
    · exact (hothers m hm).trans (hkilled.take hr hm hlisted)
    · intro c kept less est
      obtain ⟨hshape, hidle, hflies⟩ := hkilled.circuit i
      rw [hcircuit]
      exact ⟨hshape, hidle, hflies⟩
  · intro s n t i ht hd hz hnone hlen entry set p hset hfull hf c est
    have hp : killPriority (s.routePriority t) = p := killPriority_eq _
    rw [State.route_freshKill ht hd hz hnone hlen hset hfull hf, hp]
    have hnew : ({ t.newStory with queued := 1 } : Story) = { key := t.key, state := .killed, sent := 0, queued := 1 } := by
      simp only [Take.newStory, hd, if_true]
    rw [hnew]
    rfl
  · intro s n t ht hnone hlen
    refine ⟨fun a x b hs hx hb => ?_, fun hall => ?_⟩
    · have hevict : evictStory s.stories = some (a ++ b) := by
        rw [hs]
        exact evictStory_append hx hb
      rw [State.indexStory_full hnone hlen hevict]
      exact State.modTake_of_take (s := ({ s with stories := t.newStory :: (a ++ b) } : State)) ht _
    · rw [State.indexStory_full hnone hlen (evictStory_none hall)]
      exact congrArg (·, StoryCase.unindexed) (State.modTake_of_take ht _)

end Sys2Proof.Machine
end
